-- ==== Sys2Proof/Word.lean ====
section
/-! DEFINITION. The word types of the block (R9, R10): 64-bit registers, 64 B fabric lines, byte masks. -/

namespace Sys2Proof

/-- A register or memory word: every register is 64 bits wide (R426). -/
abbrev Word := BitVec 64

/-- One byte. -/
abbrev Byte := BitVec 8

/-- One 64 B line of fabric memory, byte 0 in bits [7:0] (R9, R373). -/
abbrev Line := BitVec 512

/-- One enable bit per byte of a line (DT_MASK of R373). -/
abbrev Mask := BitVec 64

end Sys2Proof
end

