-- ==== Sys2Proof/Syntax.lean ====
section
/-! DEFINITION. The commands of the block: one constructor per row of the table of operations and events, with the
operands the surroundings (or the block's own sequencers) give the step. Index operands are bounded by their type;
what else an operand must meet is in WellFormed. -/

namespace Sys2Proof

/-- A Dispatch Queue (R321): Dispatch Queue 0, or the Tenant Dispatch Queue of a tenant. -/
inductive DqRef where
  | installer
  | tenant (t : Fin 256)
deriving DecidableEq, Repr

/-- A path on which a request reaches the block (R347). -/
inductive Path where
  | reg
  | mctp (eid : BitVec 8)
  | dq (d : DqRef)
deriving DecidableEq, Repr

/-- The header of an assembled MCTP message (R389): destination and source EID, TO and message tag. -/
structure MctpHdr where
  dst : BitVec 8
  src : BitVec 8
  tag : BitVec 3
deriving DecidableEq, Repr

/-- The five shadow registers of a channel (R216). -/
inductive ShadowReg where
  | ringbase | ringcfg | ptr | reqcfg | evtcfg
deriving DecidableEq, Repr

/-- What a hardware detector reports to the Signal Box (R275): SOURCE, KIND, ADDRESS, CONTEXT. -/
structure Detection where
  source : Fin 384
  kind : BitVec 6
  addr : BitVec 52
  context : BitVec 16
deriving DecidableEq, Repr

/-- The commands (spec/opcode_table.json, row by row). -/
inductive Instr where
  /-- REGISTER_WRITE (R384). A write to a register that has no row of its own changes the strobed bytes of its writable fields, or is refused with the error response under R12 and R442. -/
  | registerWrite (addr : BitVec 22) (data : Word) (strb : BitVec 8) (wbSel : Bool)
  /-- REG_ACCESS_TIMEOUT (R384). A register access still unanswered 3,950 ns after its acceptance is answered with REG_ERR, and a read returns 0. -/
  | regAccessTimeout (wr : Bool) (addr : BitVec 22)
  /-- BYPASS_ANSWER (R291). A read of an SBX register or GLB_MODESTAT, or a SAFE or OFF write to GLB_MODE, that the normal decode path has not answered within 1 µs is served by the PD_AON bypass. -/
  | bypassAnswer (wr : Bool) (addr : BitVec 22) (data : Word)
  /-- DOORBELL (R79). A write to TEN_DB[d] requests a scan of queue d, or sets rescan-pending if a scan is running, according to the queue's state. -/
  | doorbell (t : Fin 256) (d : Fin 512)
  /-- COPY (R109). A COPY entry is admitted, its ranges are checked, and it is handed to a Mover to copy LENGTH bytes from SRC to DST. -/
  | copy (q : Fin 8192)
  /-- FILL (R109). A FILL entry is admitted and writes the 8-byte PATTERN over [DST, DST + LENGTH). -/
  | fill (q : Fin 8192)
  /-- ZERO (R109). A ZERO entry is admitted and writes zeros over [DST, DST + LENGTH), with an optional VERIFY read-back. -/
  | zero (q : Fin 8192)
  /-- COMPARE (R109). A COMPARE entry is admitted and compares two source ranges, reporting the lowest differing offset. -/
  | compare (q : Fin 8192)
  /-- CHECK (R109). A CHECK entry is admitted and computes the checksum of a source range, then stores it at AUX. -/
  | check (q : Fin 8192)
  /-- MCOPY (R129). An MCOPY entry is admitted, reads each source line once and writes it to up to 8 destinations. -/
  | mcopy (q : Fin 8192)
  /-- GATHER (R143). A GATHER entry is admitted and copies indexed elements into a dense range. -/
  | gather (q : Fin 8192)
  /-- SCATTER (R143). A SCATTER entry is admitted and copies dense elements to indexed places. -/
  | scatter (q : Fin 8192)
  /-- GREDUCE (R159). A GREDUCE entry is admitted and is divided into bag groups that reduce rows in fixed index order. -/
  | greduce (q : Fin 8192)
  /-- FENCE (R130). A FENCE entry is admitted and completes, with an optional VALUE store, after every earlier entry of its queue has completed. -/
  | fence (q : Fin 8704)
  /-- NOP (R111). A NOP entry is admitted and counts as started, with no body read and no data transaction. -/
  | nop (q : Fin 8704)
  /-- LINK (R128). A LINK entry moves the scan to unit TARGET of the same lap and frees the skipped units. -/
  | link (q : Fin 8704)
  /-- WAIT_EVENT (R131). A WAIT_EVENT entry starts at admission and holds later admissions until a request-line assertion or peer event completes it. -/
  | waitEvent (q : Fin 8192)
  /-- WAIT_EVENT_TIMEOUT (R131). When TIMEOUT tick boundaries pass before the awaited event, the WAIT_EVENT completes with TIMEOUT and RESULT 0. -/
  | waitEventTimeout (q : Fin 8192)
  /-- BURST_GRANT (R22). The Timetable grants a burst when gate, budget or share, limiter, mode, tags and horizon all allow, debiting every credit at once. -/
  | burstGrant (b : Nat)
  /-- BURST_ISSUE (R18). A Mover issues a granted burst of up to 64 lines on its attachment. -/
  | burstIssue (b : Nat) (tags : List Nat)
  /-- READ_RESPONSE (R377). A read response on XA<n>_RS delivers line data with its status and congestion mark to the transaction that holds its tag. -/
  | readResponse (xa : Fin 8) (info : BitVec 18) (line : Line)
  /-- WRITE_COMPLETION (R377). A write completion on XA<n>_CP ends a write transaction and removes it from its work item's ledger. -/
  | writeCompletion (xa : Fin 8) (info : BitVec 18)
  /-- HOLD_ANSWER (R375). A CP with HACK = 1 acknowledges or refuses the Hold for a Transit window or a scrub rewrite. -/
  | holdAnswer (xa : Fin 8) (info : BitVec 18)
  /-- TRANSACTION_LOST (R238). A transaction without a response TMO after issue is declared lost, counts as TIMEOUT or TARGET_LOST, and its tag is quarantined. -/
  | transactionLost (xa : Fin 8) (rd : Bool) (tag : Fin 8192)
  /-- QUARANTINE_END (R239). The quarantine of a lost transaction's tag ends when TMO has passed since its declaration. -/
  | quarantineEnd (xa : Fin 8) (rd : Bool) (tag : Fin 8192)
  /-- INTERRUPT_SEND (R102). A due interrupt message is sent on IRQ_ once its completion's write response has arrived, HOLDOFF has passed and the vector is unmasked. -/
  | interruptSend (v : Fin 2048)
  /-- RING_ARM (R100). A write to TEN_CRARM[c] with ARM = 1 records the read index, sets the arm bit, re-reads a full ring, and makes a message due if completions are unconsumed. -/
  | ringArm (t : Fin 256) (c : Fin 256) (rdIndex : BitVec 16) (rdWrap : Bool)
  /-- RING_DISARM (R100). A write to TEN_CRARM[c] with ARM = 0 clears the arm bit and triggers the re-read of R97. -/
  | ringDisarm (t : Fin 256) (c : Fin 256) (rdIndex : BitVec 16) (rdWrap : Bool)
  /-- RESULT_SLOT_RELEASE (R104). A write to either word of a Valid TEN_RESULT slot releases it. -/
  | resultSlotRelease (t : Fin 256) (slot : Fin 16) (word : Fin 2)
  /-- TICK_BOUNDARY (R36). At each frame tick boundary the Timetable recomputes budgets, runs the scheduling pass, refills limiters and applies gate, reservation and configuration changes. -/
  | tickBoundary
  /-- RECLAIM_POINT (R48). At RECLAIM/64 of the tick, unused reservation shares and Engineering floor credits are released to the shared pool. -/
  | reclaimPoint
  /-- TIME_VALID_FALL (R38). When TIME_VALID goes low the tick keeper enters holdover, sets HOLDOVER and raises source 0x080. -/
  | timeValidFall
  /-- TIME_VALID_RISE (R38). When TIME_VALID returns the keeper slews, or steps at the next boundary, toward fabric time. -/
  | timeValidRise (timeNs : BitVec 64)
  /-- TICK_CONFIG_WRITE (R39). A write of TTB_TICKCFG.LEN or PHASE in CONFIGURE with no reservation held takes effect through a transitional tick. -/
  | tickConfigWrite (data : Word) (strb : BitVec 8)
  /-- ADMIT_LIMIT_WRITE (R52). A write of TTB_ADMIT.LIMIT changes the admission ceiling and sets OVER where existing shares exceed it. -/
  | admitLimitWrite (data : Word) (strb : BitVec 8)
  /-- LIMCFG_WRITE (R62). A write of TTB_LIMCFG changes the rate, depth or adaptation of the selected limiter from the next CORE cycle. -/
  | limcfgWrite (data : Word) (strb : BitVec 8)
  /-- LIMITER_ZERO (R63). TTB_LIMCTL.ZERO sets the selected limiter's tokens to 0 and wheels it. -/
  | limiterZero
  /-- LIMITER_FILL (R63). TTB_LIMCTL.FILL sets the selected limiter's tokens to its depth and takes it off the wheel. -/
  | limiterFill
  /-- RESET_ADAPT (R64). TTB_LIMCTL.RESET_ADAPT sets the selected limiter's effective rate E to RATE. -/
  | resetAdapt
  /-- HWM_CLEAR (R66). TTB_HWM.CLEAR sets the selected peak to the current value. -/
  | hwmClear
  /-- DQ_ENABLE (R324). A write of EN = 1 to TEN_DQBASE or GLB_DQBASE reads and checks the dispatch record, then starts the Dispatch Queue or records the failure reason. -/
  | dqEnable (dq : DqRef) (data : Word) (strb : BitVec 8)
  /-- DQ_STOP (R324). A write of EN = 0 to an ACTIVE Dispatch Queue stops fetching, and the queue goes through STOPPING to DISABLED. -/
  | dqStop (dq : DqRef)
  /-- DQ_DOORBELL (R322). A write to TEN_DQDB or GLB_DQDB rings an ACTIVE Dispatch Queue and re-reads its ring. -/
  | dqDoorbell (dq : DqRef)
  /-- SQ_CREATE (R331). SQ_CREATE creates a submission queue bound to a ring, with its class, attachment set, limiter and reservation. -/
  | sqCreate (dq : DqRef)
  /-- SQ_DELETE (R224). SQ_DELETE discards unstarted entries, aborts waiting entries and completes after the queue's started entries have completed. -/
  | sqDelete (dq : DqRef)
  /-- CR_CREATE (R332). CR_CREATE creates a completion ring with its vector and SIDING_MAX. -/
  | crCreate (dq : DqRef)
  /-- CR_DELETE (R333). CR_DELETE removes a ring that no queue is bound to and that has no completions in the Siding. -/
  | crDelete (dq : DqRef)
  /-- SQ_MODIFY (R331). SQ_MODIFY changes the class, attachment set, limiter, reservation or ring of a queue from the next tick boundary. -/
  | sqModify (dq : DqRef)
  /-- SQ_DISABLE (R228). SQ_DISABLE puts the queue in DISABLED, discards unstarted entries and completes when the started entries have completed. -/
  | sqDisable (dq : DqRef)
  /-- SQ_DISABLE_ABORT (R229). SQ_DISABLE with ABORT also ends every started work item early with ABORTED and its valid prefix. -/
  | sqDisableAbort (dq : DqRef)
  /-- SQ_ENABLE (R227). SQ_ENABLE sets the scan pointer from the Head Word and starts a scan, or removes a held port from a HELD queue. -/
  | sqEnable (dq : DqRef)
  /-- SQ_DRAIN (R230). SQ_DRAIN stops the scan, runs the seen entries and puts the queue in DISABLED. -/
  | sqDrain (dq : DqRef)
  /-- WIN_SET (R336). WIN_SET creates or replaces a window and completes after work admitted under the old state has ended. -/
  | winSet (dq : DqRef)
  /-- WIN_CLEAR (R117). WIN_CLEAR removes a window and completes after every work item admitted under it has completed. -/
  | winClear (dq : DqRef)
  /-- TENANT_SET (R334). TENANT_SET enables, updates or disables a tenant and sets its quotas. -/
  | tenantSet (dq : DqRef)
  /-- GATE_LOAD (R335). GATE_LOAD reads gate-list entries from fabric memory into an inactive bank. -/
  | gateLoad (dq : DqRef)
  /-- GATE_ACTIVATE (R57). GATE_ACTIVATE checks a gate-list bank and schedules it to take effect from a base time. -/
  | gateActivate (dq : DqRef)
  /-- LIMITER_SET (R333). LIMITER_SET writes a limiter's configuration and then applies its ZERO, FILL or RESET_ADAPT actions as one change. -/
  | limiterSet (dq : DqRef)
  /-- TRANSIT_OPEN (R189). TRANSIT_OPEN zero-fills the bitmap buffer and sends the arm request for a Transit window. -/
  | transitOpen (dq : DqRef)
  /-- PROCEED (R191). TRANSIT_ADVANCE with PROCEED lets a waiting window enter MIRROR at its next pass end. -/
  | proceed (dq : DqRef)
  /-- RECALL_CONFIRMED (R176). TRANSIT_ADVANCE with RECALL_CONFIRMED sets RECALLED for an HDM-DB window. -/
  | recallConfirmed (dq : DqRef)
  /-- TO_MIRROR (R174). TRANSIT_ADVANCE with TO_MIRROR sends the window to MIRROR once its copy units in flight have ended. -/
  | toMirror (dq : DqRef)
  /-- TRANSIT_CONJOIN (R192). TRANSIT_CONJOIN arms a Conjunction, which starts at the first ready pass end. -/
  | transitConjoin (dq : DqRef)
  /-- TRANSIT_ABORT (R183). TRANSIT_ABORT ends a window according to its phase and returns it to IDLE. -/
  | transitAbort (dq : DqRef)
  /-- OD_READ (R337). OD_READ on a Dispatch Queue returns a dictionary value in RESULT, in a buffer, or in a result slot. -/
  | odRead (dq : DqRef)
  /-- OD_WRITE (R337). OD_WRITE on a Dispatch Queue writes a dictionary object under its rights and returns the old value. -/
  | odWrite (dq : DqRef)
  /-- BG_SCHEDULE_START (R271). BG_SCHEDULE with START loads a scrub region, telemetry ring or wear plan slot and starts the service. -/
  | bgScheduleStart (dq : DqRef)
  /-- BG_SCHEDULE_STOP (R271). BG_SCHEDULE with STOP stops the named service slot once its unit in flight has ended. -/
  | bgScheduleStop (dq : DqRef)
  /-- QUERY (R338). QUERY returns the state of a queue, ring, tenant or the issuing Dispatch Queue, writing the Head Word where it names a queue. -/
  | query (dq : DqRef)
  /-- ODW_READ (R344). An ODW_CMD write with OP read performs a dictionary read on the register path into the value buffer. -/
  | odwRead
  /-- ODW_WRITE (R344). An ODW_CMD write with OP write performs a dictionary write on the register path from the value buffer. -/
  | odwWrite (len : BitVec 9)
  /-- ODW_STATUS_RELEASE (R344). A write to ODW_STATUS releases the register-path dictionary result. -/
  | odwStatusRelease
  /-- SESSION_END (R349). A write of 1 to 0x1010:0x03 or to ODW_AUTH.END ends the path's session. -/
  | sessionEnd (p : Path)
  /-- SESSION_IDLE_END (R349). A session ends when IDLE_S seconds pass with no access on its path. -/
  | sessionIdleEnd (p : Path)
  /-- NONCE_EXPIRY (R348). A nonce expires 10 s after it is issued. -/
  | nonceExpiry (p : Path)
  /-- AUTH_LOCKOUT_END (R348). The 100 ms refusal of nonce reads after a failed proof ends. -/
  | authLockoutEnd (p : Path)
  /-- MCTP_READ (R346). A Kalmet MCTP read request reads a dictionary object under the endpoint's role and is answered in order. -/
  | mctpRead (h : MctpHdr) (msg : List Byte)
  /-- MCTP_WRITE (R346). A Kalmet MCTP write request writes a dictionary object under the endpoint's role and is answered with a reason code. -/
  | mctpWrite (h : MctpHdr) (msg : List Byte)
  /-- SET_ENDPOINT_ID (R345). The MCTP Set Endpoint ID control message sets the block's EID and ends every MCTP session. -/
  | setEndpointId (h : MctpHdr) (msg : List Byte)
  /-- GET_ENDPOINT_ID (R345). The MCTP Get Endpoint ID control message returns the block's EID. -/
  | getEndpointId (h : MctpHdr) (msg : List Byte)
  /-- GET_MCTP_VERSION_SUPPORT (R345). The MCTP Get MCTP Version Support control message returns the supported versions. -/
  | getMctpVersionSupport (h : MctpHdr) (msg : List Byte)
  /-- GET_MESSAGE_TYPE_SUPPORT (R345). The MCTP Get Message Type Support control message reports types 0x00 and 0x7F. -/
  | getMessageTypeSupport (h : MctpHdr) (msg : List Byte)
  /-- GET_VENDOR_DEFINED_MESSAGE_SUPPORT (R345). The MCTP Get Vendor Defined Message Support control message reports the Kalmet IANA type. -/
  | getVendorDefinedMessageSupport (h : MctpHdr) (msg : List Byte)
  /-- MCTP_PACKET_DISCARD (R389). An oversized, wrongly versioned or misaddressed MCTP packet, or an unsupported message, is discarded and raises source 0x103. -/
  | mctpPacketDiscard (pkt : List Byte)
  /-- JOURNAL_SPILL (R351). When 64 or more entries are unspilled and the spill ring has room, the block writes a group of 64 journal entries to the spill ring. -/
  | journalSpill
  /-- GLB_VEC_WRITE (R431). A write to GLB_VEC[v] word 0 assigns, masks or unmasks a vector, refused when it would move a vector still in use. -/
  | glbVecWrite (v : Fin 2048) (data : Word) (strb : BitVec 8)
  /-- GLB_MODE_OFF (R422). A GLB_MODE request for OFF runs the power-down sequence, through SAFE when made from RUN or DEGRADED. -/
  | glbModeOff (p : Path)
  /-- GLB_MODE_COLD_INIT (R404). A GLB_MODE request for COLD_INIT wakes the block from OFF, held, or returns it there from FACTORY_TEST. -/
  | glbModeColdInit (p : Path)
  /-- GLB_MODE_FACTORY_TEST (R404). A GLB_MODE request for FACTORY_TEST from COLD_INIT with a Maker session enters FACTORY_TEST. -/
  | glbModeFactoryTest (p : Path)
  /-- GLB_MODE_CONFIGURE (R404). A GLB_MODE request for CONFIGURE powers the domains that CONFIGURE needs and enters it. -/
  | glbModeConfigure (p : Path)
  /-- GLB_MODE_RUN (R406). A GLB_MODE request for RUN is checked and enters RUN, or DEGRADED if any unit is fenced. -/
  | glbModeRun (p : Path)
  /-- GLB_MODE_QUIESCE (R244). A GLB_MODE request for QUIESCE drains the queues, stops the channels and aborts Transit windows. -/
  | glbModeQuiesce (p : Path)
  /-- GLB_MODE_SAFE (R285). A GLB_MODE request for SAFE enters SAFE with CAUSE 0b10. -/
  | glbModeSafe (p : Path)
  /-- RQL_ASSERTION (R203). A synchronised assertion of a request line counts a pulse-single request, kicks a waking channel, or completes a WAIT_EVENT. -/
  | rqlAssertion (line : Fin 256)
  /-- LEVEL_BURST_DECISION (R205). GAP + 1 EVT cycles after an acknowledge, the level of a level-burst line decides whether a further request exists. -/
  | levelBurstDecision (ch : Fin 512) (high : Bool)
  /-- REQUEST_PRESENT (R208). The Channel Sequencer presents a request of the oldest started descriptor to its Mover once a request exists and the descriptor allows. -/
  | requestPresent (ch : Fin 512)
  /-- EVENT_PULSE (R210). A due done or error pulse leaves on its EVO line, at most one per 2 EVT cycles per line. -/
  | eventPulse (line : Fin 256)
  /-- CH_ENABLE (R212). CH_CTL.ENABLE 0→1 checks the channel's configuration and begins fetching at CH_PTR. -/
  | chEnable (ch : Fin 512)
  /-- CH_DISABLE (R241). CH_CTL.ENABLE 1→0 drops the channel's work at once and acknowledges every presented request. -/
  | chDisable (ch : Fin 512)
  /-- CH_STOP (R242). CH_CTL.STOP lets started descriptors complete, starts no more, and brings the channel to STOPPED. -/
  | chStop (ch : Fin 512)
  /-- CH_PAUSE (R243). CH_CTL.PAUSE 0→1 grants no further burst and brings the channel to PAUSED. -/
  | chPause (ch : Fin 512)
  /-- CH_RESUME (R215). CH_CTL.PAUSE 1→0 resumes the bursts of a paused channel where they stopped. -/
  | chResume (ch : Fin 512)
  /-- CH_KICK (R213). A write to CH_KICK sets KICK_PENDING, which a parked channel honours at once, and resumes a STOPPED channel. -/
  | chKick (ch : Fin 512)
  /-- CH_SHADOW_WRITE (R216). A write to a channel shadow register stores the value and sets its PENDING bit. -/
  | chShadowWrite (ch : Fin 512) (reg : ShadowReg) (data : Word) (strb : BitVec 8)
  /-- CH_SHCOMMIT_ARM (R216). A write to CH_SHCOMMIT with WHEN 0b01 or 0b10 arms a hand-over at the next descriptor or tick boundary. -/
  | chShcommitArm (ch : Fin 512) (tick : Bool)
  /-- CH_SHCOMMIT_DISARM (R216). A write to CH_SHCOMMIT with WHEN 0b00 disarms a pending hand-over. -/
  | chShcommitDisarm (ch : Fin 512)
  /-- HANDOVER (R216). At the armed boundary the pending shadows are copied into the active registers, and the channel is fenced if the new set fails its checks. -/
  | handover (ch : Fin 512)
  /-- DTR_NOTIFICATION (R170). A dirty-tracking notification for a window and page enters the notification queue, or is lost when the queue is full. -/
  | dtrNotification (w : Fin 8) (page : BitVec 30)
  /-- DEC_ANSWER (R391). An answer on DEC_ acknowledges, refuses or errors an arm, disarm, mirror or rebind request of a Transit window. -/
  | decAnswer (w : Fin 8) (op : BitVec 3) (code : BitVec 2)
  /-- DEC_ANSWER_TIMEOUT (R391). An arm, disarm, mirror-off or mirror-on request unanswered within 100 µs is handled as its row of the DEC_ table gives. -/
  | decAnswerTimeout (w : Fin 8)
  /-- REBIND_ANSWER_TIMEOUT (R180). A rebind request unanswered within 2 µs raises Halting source 0x0C6, and no Release is issued. -/
  | rebindAnswerTimeout (w : Fin 8)
  /-- HOLD_ACK_TIMEOUT (R180). A Conjunction Hold unacknowledged within HOLD_MAX abandons the attempt and raises source 0x0C5. -/
  | holdAckTimeout (w : Fin 8)
  /-- CLEAN_INTERVAL_END (R175). DTRLAT after a MIRROR page copy's last write response, the copy counts as clean if no notification arrived. -/
  | cleanIntervalEnd (w : Fin 8) (page : BitVec 30)
  /-- PST_REPORT (R233). A port-state report sets a port UP or DOWN with its epoch, ending work and holding queues that use a DOWN port. -/
  | pstReport (port : BitVec 8) (up : Bool) (epoch : BitVec 16)
  /-- REWRITE_HOLD_TIMEOUT (R258). A scrub rewrite Hold unacknowledged 2 µs after issue is released, logged as KIND 0x7 and raises source 0x123. -/
  | rewriteHoldTimeout (r : Fin 64)
  /-- CALIBRATION_PERIOD (R262). At each calibration period boundary the block updates latency, clock, rate-model and PVT figures. -/
  | calibrationPeriod (fMeas : List Nat) (temps : List Int) (vcore : Nat)
  /-- TICK_PHASE_TRIM (R263). Every 1 ms the block moves the tick-phase DLL trim one step toward zero error. -/
  | tickPhaseTrim (err : Int)
  /-- WEAR_INTERVAL_END (R266). After INTERVAL seconds following a CONJOINED step, the wear plan starts its next step. -/
  | wearIntervalEnd
  /-- WEAR_STEP_START (R265). A wear step takes the lowest-numbered IDLE Transit window once one is free and opens it as TRANSIT_OPEN would. -/
  | wearStepStart
  /-- MIRROR_FEED_RECORD (R268). A mirror-feed record is staged for the matching active telemetry ring, or dropped. -/
  | mirrorFeedRecord (session : BitVec 8) (feed : BitVec 384)
  /-- TELEMETRY_RD_WRITE (R269). A write to BGS_TELRD returns telemetry records to the block. -/
  | telemetryRdWrite (data : Word) (strb : BitVec 8)
  /-- FAULT_MESSAGE (R279). A fault message is latched, counted, logged and given the reactions of its applied class: interrupt, fence or SAFE. -/
  | faultMessage (det : Option Detection)
  /-- FLT_FORCE_SAFE (R285). A rising edge of the synchronised FLT_FORCE_SAFE pin enters SAFE. -/
  | fltForceSafe
  /-- SELF_CHECK_TRIP (R290). A Signal Box self-check or core clock monitor trip drives the stop lines and FLT_N through the hardwired path. -/
  | selfCheckTrip (source : Fin 384) (context : Nat)
  /-- SAFE_ABSORB_END (R286). ABSORB µs after SAFE entry, outstanding transactions are declared lost and the sub-state becomes SETTLED or TERMINAL. -/
  | safeAbsorbEnd
  /-- FLT_MSG_TRANSFER (R396). A queued fault message crosses FLT_MSG_* in four valid/ready beats. -/
  | fltMsgTransfer
  /-- SBX_FORCE (R293). A write of 1 to a bit of SBX_FORCEk raises that source once with KIND 0x3F. -/
  | sbxForce (k : Fin 6) (data : Word) (strb : BitVec 8)
  /-- SBX_TESTKEY (R294). A write to SBX_TESTKEY advances the arming sequence, which arms the key for 1 ms. -/
  | sbxTestkey (data : Word) (strb : BitVec 8)
  /-- TESTKEY_EXPIRY (R294). An armed SBX_TESTKEY disarms 1 ms after it was armed. -/
  | testkeyExpiry
  /-- SBX_INJ (R295). A write to SBX_INJ with ARM arms an extended injection that acts once at the next event it can act on. -/
  | sbxInj (data : Word) (strb : BitVec 8)
  /-- FIRST_VALID_CLEAR (R282). A write of 1 to SBX_STATUS.FIRST_VALID clears SBX_FIRST and SBX_OVF and rearms the first-fault latch. -/
  | firstValidClear
  /-- SBX_SEV_WRITE (R278). A write to SBX_SEVk sets the severity classes of its sources under the permitted-value rules, and is journalled. -/
  | sbxSevWrite (k : Fin 24) (data : Word) (strb : BitVec 8)
  /-- WARM_RESET (R296). SBX_SAFECFG.WARM_RESET, or RST_WARM_N in SETTLED, resets the switched domains and starts the recovery pass in COLD_INIT. -/
  | warmReset
  /-- RST_WARM_N_FALL (R399). A falling edge of RST_WARM_N requests a warm reset in SAFE, or enters SAFE first outside it. -/
  | rstWarmNFall
  /-- TAP_EVENT (R303). A Metering Tap event is checked and added into the pending array, or discarded as lost. -/
  | tapEvent (seen : Option (BitVec 72)) (clocked : Bool)
  /-- TAP_DRAIN (R305). The VLT side drains pending Tap amounts into the 96-bit counters and compares the lockstep copies. -/
  | tapDrain (mismatch : Option (Fin 256))
  /-- INTERVAL_END (R307). At the end of each metering interval the counters are latched and an interval record is formed in the interval slot. -/
  | intervalEnd
  /-- RECORD_READY (R307). Forming of a Dallor record completes and REC_READY or SNAP_READY is set. -/
  | recordReady (snap : Bool)
  /-- WBG_SNAP (R310). A write to WBG_SNAP latches the counters and forms a snapshot record in the snapshot slot. -/
  | wbgSnap
  /-- WBG_RECACK (R310). A write to WBG_RECACK acknowledges the record in the interval slot. -/
  | wbgRecack
  /-- WBG_SEALCTL (R313). A write of the sealing code sequence to WBG_SEALCTL seals the Weighbridge and begins a chain, or counts as a tamper. -/
  | wbgSealctl (data : Word) (strb : BitVec 8)
  /-- WBG_CONFIG_WRITE (R315). A write to WBG_OVH or WBG_INTERVAL sets the value while UNSEALED, and is discarded as a tamper once sealed. -/
  | wbgConfigWrite (interval : Bool) (data : Word) (strb : BitVec 8)
  /-- KEY_TRANSFER (R397). A 36-byte key transfer on WB_KEY_* is checked by CRC and accepted, rejected, or counted as tamper. -/
  | keyTransfer (bytes : List Byte)
  /-- KEY_TRANSFER_GAP (R397). A gap of more than 64 TIM cycles ends a key transfer as rejected. -/
  | keyTransferGap
  /-- KEY_ARRIVAL_TIMEOUT (R314). A sealed Weighbridge with no matching key 100 ms after cold reset raises Terminal source 0x17B. -/
  | keyArrivalTimeout
  /-- VLT_CALIBRATION (R306). Once per second VLT is calibrated against TIM, raising source 0x172 when it is out of range. -/
  | vltCalibration (khz : Nat)
  /-- PRESENCE (R358). A received PRESENCE frame refreshes its Station's presence, distance and reported settings, or reveals a duplicate ID. -/
  | presence (frame : BitVec 64)
  /-- PRESENCE_SEND (R358). Every 4,096 ns the Station queues its own PRESENCE frame. -/
  | presenceSend
  /-- PRESENCE_EXPIRY (R358). A Station with no PRESENCE for 65,536 ns leaves the MAP. -/
  | presenceExpiry (n : Fin 16)
  /-- TICK_FRAME (R361). A received TICK frame gives the tick error and corrects the Line correction C by slew or step. -/
  | tickFrame (frame : BitVec 64) (arrival : Nat)
  /-- FORWARD_DOORBELL (R365). A NOTIFY forward doorbell makes the owner read, check and run the named forwarded slots, then return records. -/
  | forwardDoorbell (frame : BitVec 64)
  /-- RETURN_DOORBELL (R366). A NOTIFY return doorbell makes the originator read the return record and write the completion into the origin ring. -/
  | returnDoorbell (frame : BitVec 64)
  /-- PEER_EVENT (R369). A received PEER_EVENT frame samples event NUM from its origin for waiting WAIT_EVENT entries. -/
  | peerEvent (frame : BitVec 64)
  /-- FRAME_DISCARD (R356). A Peer Link frame with a CRC error or reserved TYPE is discarded and raises source 0x144. -/
  | frameDiscard (frame : BitVec 64)
  /-- STN_EVSEND (R369). A write to STN_EVSEND queues a PEER_EVENT frame among the Station's own frames. -/
  | stnEvsend (num : BitVec 8)
  /-- PEER_LINK_BROKEN (R363). 16 PEER cycles without PEER_FRM mark the input hop broken and put the Station in Line holdover. -/
  | peerLinkBroken
  /-- FORWARD_TIME_LIMIT (R367). A forwarded entry with no matching return within TLIMIT completes with FORWARD_FAILED and raises source 0x143. -/
  | forwardTimeLimit (w : Fin 16) (seq : BitVec 16)
  /-- FORWARD_SLOT_QUARANTINE_END (R367). A quarantined Forward Queue slot is freed a further TLIMIT after its entry failed. -/
  | forwardSlotQuarantineEnd (w : Fin 16) (seq : BitVec 16)
  /-- POWER_ACK (R398). PWR_DACK or PWR_DRACK completes a domain change, releasing its reset after 16 cycles and advancing any mode transition. -/
  | powerAck (d : Fin 98) (retained : Bool)
  /-- POWER_DENY (R417). PWR_DDENY refuses a pending change, which the block withdraws and may ask again. -/
  | powerDeny (d : Fin 98)
  /-- POWER_REQUEST_TIMEOUT (R417). An on request unanswered within PWR_TMO_US is withdrawn and the domain recorded as failed. -/
  | powerRequestTimeout (d : Fin 98)
  /-- MOVER_IDLE (R418). A Mover beyond MV_MIN idle for MV_IDLE_US is requested off. -/
  | moverIdle (m : Fin 64)
  /-- QUADRANT_IDLE (R419). A reduce quadrant idle for RQ_IDLE_US is requested off. -/
  | quadrantIdle (q : Fin 4)
  /-- COLD_RESET (R399). Assertion of RST_COLD_N resets the block asynchronously. -/
  | coldReset
  /-- COLD_RESET_RELEASE (R421). Release of RST_COLD_N samples STN_ID, enters COLD_INIT and requests the initial domains on. -/
  | coldResetRelease (stnId : BitVec 4)
  /-- DFT_TEST_MODE (R400). DFT_TEST_MODE high holds the functional logic in reset and clears the key copies and sessions. -/
  | dftTestMode (high : Bool)
  /-- DFT_MBIST_GO (R421). DFT_MBIST_GO seen in COLD_INIT starts memory BIST. -/
  | dftMbistGo
  /-- MBIST_DONE (R400). Memory BIST completes and DFT_MBIST_DONE and FAIL hold the result. -/
  | mbistDone (failed : Bool)
  /-- STAGING_CLEAR_DONE (R421). The Staging clear completes and GLB_STATUS.INIT_DONE is set. -/
  | stagingClearDone
  /-- SUPPLY_FAULT (R411). An armed supply monitor that reports a supply out of range, mistracking or misordered raises its source, which is Halting or higher. -/
  | supplyFault (source : Fin 6)
  /-- AON_POWER_LOSS (R411). VDD_AON below 0.60 V holds PD_AON in power-on reset, and the block behaves as in OFF, dark. -/
  | aonPowerLoss
  /-- CLOCK_MONITOR_WINDOW (R415). At the end of each monitoring window a clock outside its band for two consecutive windows raises its source. -/
  | clockMonitorWindow (dom : Fin 20) (khz : Nat)
  /-- CLOCK_ABSENT (R415). An armed clock with no edge for 16 FCK cycles is absent and raises its source at once. -/
  | clockAbsent (dom : Fin 20)
  /-- CONJUNCTION_DEADLINE (R178). At t_H + HOLD_MAX − GUARD, a Conjunction attempt whose copy has not ended, or whose rebind request has not been issued, is abandoned under step 5. -/
  | conjunctionDeadline (w : Fin 8)
  /-- FLT_FORCE_SAFE_FALL (R395). When the synchronised FLT_FORCE_SAFE falls, a warm reset request held while it was high is performed, and the block may leave SAFE. -/
  | fltForceSafeFall
  /-- OFF_REQUEST_RETRY (R417). Every 100 µs while a transition needs it, a denied off request of a domain other than a Mover or quadrant is raised again. -/
  | offRequestRetry
  /-- MBIST_WAIT_END (R421). 1 µs after the last initial domain acknowledges, with no DFT_MBIST_GO seen, the Staging clear begins. -/
  | mbistWaitEnd
  /-- AON_POWER_ON_RELEASE (R411). At the power-on release of PD_AON, the supply ordering check is made and the VDD_ANA and VDD_AON monitors are armed. -/
  | aonPowerOnRelease (misordered : Bool)
  /-- TIME_NS_JUMP (R393). A TIME_NS change other than 3, 4 or 5 per TIM edge is handled as if TIME_VALID were 0 for that edge, so the keeper slews or steps. -/
  | timeNsJump (timeNs : BitVec 64)
  /-- NOTIFY_RELAY (R356). A received NOTIFY frame whose DEST is another Station has its HOPS incremented and is placed in the forward queue, or is dropped at HOPS 15. -/
  | notifyRelay (frame : BitVec 64)
  /-- PEER_FRAME_SEND (R356). In each 64 ns frame slot, the Station sends its due TICK frame, the oldest relayed frame, one of its own queued frames, or IDLE; it samples its own peer event when a PEER_EVENT frame leaves the pin. -/
  | peerFrameSend
deriving DecidableEq, Repr

end Sys2Proof
end

