-- ==== Sys2Proof/Decode.lean ====
section
/-! DEFINITION. Commands as table words. The table of operations and events gives no row any bits, so no word spells a
command (log entry 1). -/

namespace Sys2Proof

/-- The command a word of the table's bits spells. -/
def decodeTableWord (_nbits _w : Nat) : Option Instr := none

end Sys2Proof
end

