-- ==== Sys2Proof/Machine/Table.lean ====
section
/-! DEFINITION. Sparse tables: lists of (key, value) pairs with strictly rising keys. Every table of the block
(queues, rings, windows, limiters, registers) is one of these, so that equal tables are equal data. -/

namespace Sys2Proof.Machine

/-- A sparse table: (key, value) pairs, keys strictly rising. -/
abbrev Tbl (α : Type) := List (Nat × α)

/-- The entry at a key. -/
def Tbl.get {α : Type} (k : Nat) : Tbl α → Option α
  | [] => none
  | (j, v) :: t => if j = k then some v else Tbl.get k t

/-- The entry at a key, or a default. -/
def Tbl.getD {α : Type} (k : Nat) (d : α) (t : Tbl α) : α := (Tbl.get k t).getD d

/-- Write an entry, keeping the keys rising. -/
def Tbl.put {α : Type} (k : Nat) (v : α) : Tbl α → Tbl α
  | [] => [(k, v)]
  | (j, w) :: t =>
    if k < j then (k, v) :: (j, w) :: t
    else if k = j then (k, v) :: t
    else (j, w) :: Tbl.put k v t

/-- Remove an entry. -/
def Tbl.del {α : Type} (k : Nat) : Tbl α → Tbl α
  | [] => []
  | (j, w) :: t => if j = k then t else (j, w) :: Tbl.del k t

/-- Change the entry at a key, if there is one. -/
def Tbl.upd {α : Type} (k : Nat) (f : α → α) : Tbl α → Tbl α
  | [] => []
  | (j, w) :: t => if j = k then (j, f w) :: t else (j, w) :: Tbl.upd k f t

/-- Whether a key is present. -/
def Tbl.has {α : Type} (k : Nat) (t : Tbl α) : Bool := (Tbl.get k t).isSome

/-- The keys in order. -/
def Tbl.keys {α : Type} (t : Tbl α) : List Nat := t.map (·.1)

/-- The values in key order. -/
def Tbl.vals {α : Type} (t : Tbl α) : List α := t.map (·.2)

/-- The lowest number below a bound that is no key (a free ID). -/
def Tbl.free {α : Type} (bound : Nat) (t : Tbl α) : Option Nat :=
  (List.range bound).find? (fun k => !(Tbl.has k t))

/-- Keys strictly rising. -/
def Tbl.sorted {α : Type} : Tbl α → Bool
  | [] => true
  | [_] => true
  | (j, _) :: (k, w) :: t => decide (j < k) && Tbl.sorted ((k, w) :: t)

/-- Set one element of a list of fixed length. -/
def setAt {α : Type} (i : Nat) (v : α) : List α → List α
  | [] => []
  | a :: t => if i = 0 then v :: t else a :: setAt (i - 1) v t

/-- Change one element of a list of fixed length. -/
def updAt {α : Type} (i : Nat) (f : α → α) : List α → List α
  | [] => []
  | a :: t => if i = 0 then f a :: t else a :: updAt (i - 1) f t

/-- Do a step `n` times. -/
def iter {α : Type} (f : α → α) : Nat → α → α
  | 0, a => a
  | n + 1, a => iter f n (f a)

/-- The least element by a measure, the earliest among equals. -/
def argmin {α : Type} (f : α → Nat) : List α → Option α
  | [] => none
  | a :: t =>
    match argmin f t with
    | none => some a
    | some b => if f b < f a then some b else some a

end Sys2Proof.Machine
end

