-- ==== Sys2Proof/Machine/Bits.lean ====
section
/-! DEFINITION. Bit fields, byte strings and lines: the little-endian views of R10. -/

namespace Sys2Proof.Machine

/-- Bits [lo + w - 1 : lo] of a number. -/
def bits (n lo w : Nat) : Nat := (n >>> lo) % 2 ^ w

/-- Bit i of a number. -/
def bit (n i : Nat) : Bool := n.testBit i

/-- Field [lo + w - 1 : lo] of a word, as a number. -/
def fld (x : Word) (lo w : Nat) : Nat := bits x.toNat lo w

/-- One bit of a word. -/
def fbit (x : Word) (i : Nat) : Bool := x.toNat.testBit i

/-- The number a flag reads as. -/
def b2n (b : Bool) : Nat := if b then 1 else 0

/-- Replace field [lo + w - 1 : lo] of a word. -/
def setFld (x : Word) (lo w v : Nat) : Word :=
  BitVec.ofNat 64 (x.toNat - (bits x.toNat lo w) * 2 ^ lo + (v % 2 ^ w) * 2 ^ lo)

/-- A word built from fields (lo, width, value). -/
def mkWord (fs : List (Nat × Nat × Nat)) : Word :=
  BitVec.ofNat 64 (fs.foldl (fun a f => a + (f.2.2 % 2 ^ f.2.1) * 2 ^ f.1) 0)

/-- Strobed merge of a register write (R384): byte i of `data` where bit i of `strb` is 1. -/
def strobe (old data : Word) (strb : BitVec 8) : Word :=
  let m := (List.range 8).foldl (fun a i => if strb.toNat.testBit i then a + 255 * 2 ^ (8 * i) else a) 0
  (data &&& BitVec.ofNat 64 m) ||| (old &&& ~~~ (BitVec.ofNat 64 m))

/-- Two's complement of a field of w bits. -/
def signed (n w : Nat) : Int := if n < 2 ^ (w - 1) then (n : Int) else (n : Int) - (2 : Int) ^ w

/-- A signed number as w bits. -/
def unsign (z : Int) (w : Nat) : Nat := (z % (2 : Int) ^ w).toNat

def ceilDiv (a b : Nat) : Nat := (a + b - 1) / b

/-- Byte i of a line (byte 0 in bits [7:0]). -/
def lineByte (l : Line) (i : Nat) : Nat := bits l.toNat (8 * i) 8

/-- Word i (8 bytes) of a line. -/
def lineWord (l : Line) (i : Nat) : Word := BitVec.ofNat 64 (bits l.toNat (64 * i) 64)

/-- Bytes to a number, little-endian. -/
def leNat : List Nat → Nat
  | [] => 0
  | b :: t => b % 256 + 256 * leNat t

/-- The n low bytes of a number, little-endian. -/
def leBytes : Nat → Nat → List Nat
  | 0, _ => []
  | n + 1, v => v % 256 :: leBytes n (v / 256)

/-- A line from a list of bytes. -/
def lineOf (bs : List Nat) : Line := BitVec.ofNat 512 (leNat bs)

/-- A line that holds words from word 0 on. -/
def lineOfWords (ws : List Word) : Line :=
  BitVec.ofNat 512 (ws.foldr (fun w a => w.toNat + a * 2 ^ 64) 0)

/-- The mask with bytes [lo, hi) of a line enabled. -/
def maskOf (lo hi : Nat) : Mask := BitVec.ofNat 64 (2 ^ (min hi 64) - 2 ^ (min lo 64))

/-- All bytes of a line. -/
def fullMask : Mask := BitVec.ofNat 64 (2 ^ 64 - 1)

/-- Whether two half-open ranges (start, length) meet. -/
def overlap (a la b lb : Nat) : Bool := decide (a < b + lb) && decide (b < a + la) && decide (0 < la) && decide (0 < lb)

/-- Byte swap of a list, for the big-endian fields of SHA-256. -/
def beBytes (n v : Nat) : List Nat := (leBytes n v).reverse

/-- Parity of a number of w bits. -/
def parity : Nat → Nat → Bool
  | 0, _ => false
  | w + 1, v => xor (v % 2 == 1) (parity w (v / 2))

end Sys2Proof.Machine
end

