-- ==== Sys2Proof/Machine/Crc.lean ====
section
/-! DEFINITION. The checksums of R123: CRC-32C, CRC-64 (NVM Express) and ADD64, computed serially over bytes in
ascending order, and the CRC-8 of the Peer Link frames (R355). -/

namespace Sys2Proof.Machine

/-- One step of a reflected CRC on one bit. -/
def crcBit (poly : Nat) (c : Nat) : Nat := if c % 2 = 1 then (c / 2) ^^^ poly else c / 2

/-- A reflected CRC register after one more byte. -/
def crcByte (poly : Nat) (c b : Nat) : Nat := iter (crcBit poly) 8 (c ^^^ (b % 256))

/-- A reflected CRC over bytes, continued from a reported checksum (0 for a new range), R123 and R125. -/
def crcRefl (w poly : Nat) (seed : Nat) (bs : List Nat) : Nat :=
  (bs.foldl (crcByte poly) (seed ^^^ (2 ^ w - 1))) ^^^ (2 ^ w - 1)

/-- CRC-32C: 0x1EDC6F41 reflected. -/
def crc32c (seed : Nat) (bs : List Nat) : Nat := crcRefl 32 0x82F63B78 (seed % 2 ^ 32) bs

/-- CRC-64 of NVM Express: 0xAD93D23594C93659 reflected. -/
def crc64 (seed : Nat) (bs : List Nat) : Nat := crcRefl 64 0x9A6C9329AC4BC9B5 seed bs

/-- ADD64: little-endian 8-byte words, a final short word zero-padded. -/
def add64 (seed : Nat) (bs : List Nat) : Nat :=
  (bs.foldl (fun (a : Nat × Nat) b => (a.1 + 1, a.2 + b * 2 ^ (8 * (a.1 % 8)))) (0, seed)).2 % 2 ^ 64

/-- The checksum of R123 selected by CSUM_ALG, continued from a seed. -/
def csumAlg (alg seed : Nat) (bs : List Nat) : Nat :=
  if alg = 1 then crc32c seed bs else if alg = 2 then crc64 seed bs else add64 seed bs

/-- The checksum of no bytes: the seed under CSUM_CONT, else 0 (R126). -/
def csumOf (alg : Nat) (cont : Bool) (seed : Nat) (bs : List Nat) : Nat :=
  csumAlg alg (if cont then seed else 0) bs

/-- CRC-8 with a given polynomial, most significant bit first, initial value 0 unless given. -/
def crc8 (poly init : Nat) (bs : List Nat) : Nat :=
  bs.foldl (fun c b => iter (fun x => if x ≥ 128 then (x * 2 % 256) ^^^ poly else x * 2) 8 (c ^^^ b)) init

/-- CRC-32 as reflected 0x04C11DB7 (key transfers, R397). -/
def crc32 (bs : List Nat) : Nat := crcRefl 32 0xEDB88320 0 bs

end Sys2Proof.Machine
end

