-- ==== Sys2Proof/Config.lean ====
section
/-! DEFINITION. What the integrator and the implementation fix, and the free values of the model: opaque constants,
of which nothing in Lean can prove a value. -/

namespace Sys2Proof.Config

/-- GLB_BUILD (scope chapter, R7 text): the integration parameters of this instance. -/
opaque build : Word

/-- The n-th 32-byte nonce the session engine issues (R348). -/
opaque nonce : Nat → BitVec 256

/-- The Maker key of the one-time cells (R348), byte 0 in bits [7:0]. -/
opaque makerKey : BitVec 256

/-- The fabric address at which Station w keeps its Forward Queue, and its Return Ring, as another Station knows them. -/
opaque fwdBase : Nat → BitVec 64
opaque retBase : Nat → BitVec 64

/-- The n-th value the spec leaves undefined in the place where it is used (each use names its log entry). -/
opaque freeWord : Nat → BitVec 64

/-- What one step on an empty queue advances time by, in ps: one TIM cycle of 250 MHz (R412; the step itself is a design
choice). -/
def timCyclePs : Nat := 4000

end Sys2Proof.Config
end

