-- ==== Sys2Proof/Machine/TypesA.lean ====
section
/-! DEFINITION. State types, part A: modes, traffic (bursts, transactions, quarantine), the Timetable, windows,
tenants, submission queues, completion rings and the jobs of data entries (chapters 1 to 5, 8 and 14). -/

namespace Sys2Proof.Machine

/-- The operating modes (R402). -/
inductive Mode where
  | off | coldInit | factoryTest | configure | run | degraded | quiesce | safe
deriving DecidableEq, Repr

/-- What a transaction is for. -/
inductive OwnK where
  | scan | body | hdrWb | headWord | look | cpl | work | seed | csum | fenceSt
  | dqRec | cmdRd | cmdWr | chFetch | chWb | bmWr | bmRd | faultLog | spill | prod | wearRec
  | fwdWr | fwdRd | retWr | retRd | feedW
deriving DecidableEq, Repr

/-- The owner of a burst or transaction: its purpose and two numbers that name the object. -/
structure Own where
  k : OwnK
  a : Nat := 0
  b : Nat := 0
deriving DecidableEq, Repr

/-- One line of a burst: its line number (fabric address / 64), what is written, and the owner's key for it. -/
structure LineOp where
  line : Nat
  mask : Mask := 0
  data : Line := 0
  poison : Bool := false
  key : Nat := 0
deriving DecidableEq, Repr

/-- A burst: a request for grant (R18, R22), later a granted burst. -/
structure Burst where
  id : Nat
  rd : Bool
  coh : Bool := false
  lines : List LineOp
  own : Own
  /-- class 0 Express, 1 Timetabled, 2 Freight, 3 Engineering -/
  cls : Nat
  prio : Nat := 0
  /-- attachment set, a mask -/
  xset : Nat := 255
  lim : Option Nat := none
  /-- the reservation it may draw on -/
  resv : Option Nat := none
  /-- the port of the governing window; none where no window governs (R233) -/
  port : Option Nat := none
  /-- requester, for round robin -/
  rq : Nat := 0
  /-- CONTEXT of attachment faults (R240) -/
  ctx : Nat := 0
  mover : Option Nat := none
  /-- tenant to meter, for data transactions (R300) -/
  tenant : Option Nat := none
  /-- the copy inside a Conjunction hold (R179) -/
  conj : Bool := false
  /-- lines withdrawn from a fenced attachment (R443) -/
  front : Bool := false
  /-- Transit window whose copy it is, exempt from that window's own hold -/
  win : Option Nat := none
  /-- attachment, once granted, and whether out of a reservation -/
  xa : Nat := 0
  rs : Bool := false
deriving DecidableEq, Repr

/-- An outstanding transaction (R373, R378, R238). -/
structure Txn where
  xa : Nat
  rd : Bool
  tag : Nat
  op : LineOp
  own : Own
  issued : Nat
  tmo : Nat
  port : Option Nat
  /-- the port has been reported DOWN since issue (R238) -/
  wasDown : Bool := false
  lim : Option Nat
  ctx : Nat
  cls : Nat
  mover : Option Nat := none
  rs : Bool := false
  tenant : Option Nat := none
  /-- sampled for the latency of R260 -/
  smp : Bool := false
  /-- refused at grant because its port is DOWN: it was never issued (R134, R233) -/
  never : Bool := false
deriving DecidableEq, Repr

/-- A Hold in force or asked for: hold ID, first line, lines, attachment, when asked, whether acknowledged (R375). -/
structure Hold where
  hid : Nat
  line : Nat
  lines : Nat
  xa : Nat
  at_ : Nat
  acked : Bool := false
deriving DecidableEq, Repr

/-- A quarantined tag (R239), with the line it may still write. -/
structure Quar where
  xa : Nat
  rd : Bool
  tag : Nat
  ends : Nat
  line : Nat
  ctx : Nat
deriving DecidableEq, Repr

/-- The credits of one attachment and direction in the current tick (R40), and the service state of R43 to R47. -/
structure Pool where
  b : Nat := 0
  floor : Nat := 0
  shares : Tbl Nat := []
  shared : Nat := 0
  xLeft : Nat := 0
  engLeft : Nat := 0
  /-- the reclaim point has released the shares (R48) -/
  released : Bool := false
  deficit : List Nat := [0, 0, 0, 0, 0, 0, 0, 0]
  level : Nat := 0
  last : List Nat := [0, 0, 0, 0, 0, 0, 0, 0]
  xLast : Nat := 0
  ttLast : Nat := 0
  /-- Engineering requester served last in each of the three ranks of R252 -/
  engLast : List Nat := [0, 0, 0]
deriving DecidableEq, Repr

/-- A reservation (R50). -/
structure Resv where
  qrd : Nat
  qwr : Nat
  xset : Nat
  rRd : Nat
  rWr : Nat
  /-- served (from the boundary after its admission) -/
  live : Bool := false
  /-- what SQ_MODIFY made of it from the next boundary: Q_RD, Q_WR, members -/
  next : Option (Nat × Nat × Nat) := none
deriving DecidableEq, Repr

/-- A rate limiter (R59): its TTB_LIMCFG image, E in 1/256 share unit, tokens in 1/256 B. -/
structure Limiter where
  cfg : Word := 0
  e : Nat := 0
  tok : Int := 0
  /-- slot of the timing wheel, as a tick count -/
  wheel : Option Nat := none
  marked : Bool := false
  lastMarked : Bool := false
  /-- the E that refills at the boundary ending this tick, where RATE changed in it (R62) -/
  eTick : Nat := 0
  /-- when TTB_LIMCTL.ZERO took positive tokens away: a grant of the same cycle is still debited (R63) -/
  zeroAt : Option Nat := none
deriving DecidableEq, Repr

/-- The gate list of one class (R55 to R58). -/
structure Gate where
  banks : List (Tbl (Word × Word)) := [[], []]
  active : Nat := 0
  inForce : Bool := false
  tBase : Int := 0
  cycle : Nat := 0
  /-- an activation that awaits its boundary: bank, tick, fabric time of the boundary in ns -/
  pend : Option (Nat × Int × Nat) := none
  /-- fabric time in ns of the boundary at which the list in force took effect -/
  base : Nat := 0
  late : Bool := false
  rejected : Bool := false
  acts : Nat := 0
  /-- ENABLE and STRICT in force (a write takes effect at the next boundary) -/
  enable : Bool := false
  strict : Bool := false
deriving DecidableEq, Repr

/-- A high-water mark (R66). -/
structure Hwm where
  peak : Nat := 0
  thresh : Nat := 0
  crossed : Bool := false
deriving DecidableEq, Repr

/-- The Timetable and its tick keeper. Times in ps. -/
structure Timetable where
  running : Bool := false
  /-- fabric time the keeper holds -/
  time : Nat := 0
  timeValid : Bool := false
  everValid : Bool := false
  holdover : Bool := false
  /-- fabric time minus the keeper's time, still to be slewed -/
  slew : Int := 0
  /-- the time to step to, with the clock at which it was sampled -/
  stepTo : Option (Nat × Nat) := none
  stepped : Bool := false
  overrun : Bool := false
  passCycles : Nat := 0
  tickNum : Nat := 0
  /-- boundaries passed since reset (the count limiters and timeouts use) -/
  ticks : Nat := 0
  /-- fabric time of the boundary that began this tick, and its end -/
  tickStart : Nat := 0
  tickEnd : Nat := 0
  /-- LEN and PHASE in force -/
  len : Nat := 2
  phase : Nat := 0
  /-- LEN and PHASE of TTB_TICKCFG, and whether the tick in progress is the transitional one (R39) -/
  cfgLen : Nat := 2
  cfgPhase : Nat := 0
  transitional : Bool := false
  reclaimed : Bool := false
  /-- class configuration in force: CAP, RECLAIM and OVERFLOW, weights, CEIL -/
  cap : Nat := 8
  reclaim : Nat := 48
  overflow : Bool := true
  weights : List Nat := [0x80, 0x40, 0x20, 0x10, 0x08, 0x04, 0x02, 0x01]
  ceil : Nat := 64
  gates : List Gate := [{}, {}, {}, {}]
  limit : Nat := 80
  refused : Nat := 0
  resv : Tbl Resv := []
  /-- credits by attachment and direction: read of XA n at 2n, write at 2n + 1 -/
  pools : List Pool := [{}, {}, {}, {}, {}, {}, {}, {}, {}, {}, {}, {}, {}, {}, {}, {}]
  /-- the work item whose burst each Mover issued last (R19) -/
  mvLast : Tbl Nat := []
  lims : Tbl Limiter := []
  hwm : Tbl Hwm := []
deriving DecidableEq, Repr

/-- A window (attributes of the windows section and R336). -/
structure Window where
  station : Nat
  tenant : Nat
  port : Nat
  mem : Bool
  rd : Bool
  wr : Bool
  base : Nat
  size : Nat
  offset : Int
deriving DecidableEq, Repr

/-- A result slot of a tenant page (R104). -/
structure ResultSlot where
  valid : Bool := false
  busy : Bool := false
  status : Nat := 0
  tag : Nat := 0
  info : Nat := 0
  data : Word := 0
  /-- word 1 as the last read of word 0 froze it (RL, R12) -/
  hi : Option Word := none
deriving DecidableEq, Repr

/-- A tenant: quotas of TENANT_SET and its page's flags. -/
structure Tenant where
  enabled : Bool := false
  maxSq : Nat := 0
  maxCr : Nat := 0
  classes : Nat := 0
  bestPrio : Nat := 0
  limiter : Nat := 0
  limEn : Bool := false
  /-- image of the words of the last TENANT_SET -/
  set0 : Word := 0
  set1 : Word := 0
  irqRing : Bool := false
  irqSiding : Bool := false
  irqBacked : Bool := false
  irqHeld : Bool := false
  irqError : Bool := false
  irqBadDb : Bool := false
  lastRing : Nat := 0
  lastSq : Nat := 0
  slots : List ResultSlot := List.replicate 16 {}
deriving DecidableEq, Repr

/-- Queue states (R224) and the states of a Dispatch Queue (R324). -/
inductive QSt where
  | active | backed | draining | disabled | held | error | stopping
deriving DecidableEq, Repr

/-- How far an entry has come. -/
inductive EPh where
  | seen | admitted | started | done
deriving DecidableEq, Repr

/-- An entry of a submission queue, from the scan that saw it to the write-back of its header. -/
structure Ent where
  uid : Nat
  unit : Nat
  wrap : Bool
  hdr : Nat
  /-- words 0 .. 2*LEN16-1 of the entry as far as read: word index to value -/
  words : Tbl Word := []
  /-- outstanding body lines -/
  bodyLeft : Nat := 0
  /-- 1: longer than the prefetch space there was, its body is fetched when it is admitted (R29); 2: it has been asked for -/
  late : Nat := 0
  /-- its admission found no Mover with a place (R66) -/
  noPlace : Bool := false
  /-- header or body failure reason (entry failure), with INFO[15:8] for a Dispatch Queue -/
  bad : Option Nat := none
  ph : EPh := .seen
  /-- its header write-back has received its response, or has failed -/
  wb : Bool := false
  /-- its data is finished and its completion waits for ORDERED -/
  fin : Bool := false
  /-- the FENCE store, or the completion, is out -/
  storing : Bool := false
  /-- translated address and port of a FENCE store, as admission found them -/
  stAt : Nat × Option Nat := (0, none)
  st : Nat := 0
  info : Nat := 0
  res : Word := 0
  csum : Word := 0
  time : Nat := 0
  /-- forwarded to another Station; at the owner, its tenant and SEQ -/
  fwd : Bool := false
  fwdTen : Nat := 0
  fwdSeq : Nat := 0
deriving DecidableEq, Repr

/-- A submission queue, or a Dispatch Queue (R322). -/
structure Queue where
  dq : Bool := false
  tenant : Nat := 0
  db : Nat := 0
  /-- fabric addresses of the ring and the Head Word, with the ports and memory kinds of their windows -/
  base : Nat := 0
  log2n : Nat := 8
  head : Nat := 0
  port : Option Nat := none
  headPort : Option Nat := none
  coh : Bool := false
  ring : Nat := 0
  cls : Nat := 2
  prio : Nat := 0
  xset : Nat := 255
  lim : Option Nat := none
  /-- changes of SQ_MODIFY that take effect at the next boundary -/
  next : Option (Nat × Nat × Nat × Option Nat × Nat) := none
  st : QSt := .active
  sp : Nat := 0
  spWrap : Bool := false
  scanning : Bool := false
  rescan : Bool := false
  /-- the line in hand: its line number and data -/
  line : Option (Nat × Line) := none
  reading : Bool := false
  /-- the read in flight: an answer to an earlier one counts no more -/
  scanId : Nat := 0
  /-- a doorbell recorded in a mode without scans (R403) -/
  rung : Bool := false
  ents : List Ent := []
  starts : Nat := 0
  sinceHw : Nat := 0
  hwDue : Bool := false
  hwBusy : Bool := false
  /-- the Head Word as last written -/
  hwIdx : Nat := 0
  hwStarts : Nat := 0
  hwWrap : Bool := false
  errUnit : Option Nat := none
  heldSet : List Nat := []
  quiesced : Bool := false
  /-- a Dispatch Queue stopped by a fence (R280) -/
  fenced : Bool := false
  /-- last BACKED cause was raised (R96) -/
  short : Bool := false
  /-- ERR of TEN_DQBASE, and ADDR written since the last enable -/
  err : Nat := 0
  addrNew : Bool := true
  /-- WAIT_EVENT in force: uid, kind, number, station, tick of admission, timeout in ticks -/
  wait : Option (Nat × Nat × Nat × Nat × Nat × Nat) := none
deriving DecidableEq, Repr

/-- A completion (R90). -/
structure Cpl where
  q : Nat
  uid : Nat
  st : Nat
  sq : Nat
  tag : Nat
  info : Nat
  res : Word
  csum : Word
  time : Nat
  irq : Bool
  /-- holds a claim (R96) -/
  claim : Bool := true
  /-- has been placed in the Siding -/
  sided : Bool := false
deriving DecidableEq, Repr

/-- A completion ring. -/
structure Ring where
  dq : Bool := false
  tenant : Nat := 0
  c : Nat := 0
  base : Nat := 0
  port : Option Nat := none
  coh : Bool := false
  log2m : Nat := 4
  e32 : Bool := false
  vec : Option Nat := none
  sidingMax : Nat := 256
  /-- completions placed in slots so far, in flight included: slot and wrap bit of the next one follow from it -/
  pos : Nat := 0
  /-- places from `pos` on that hold a completion already, after a lost write took `pos` back (R444) -/
  ahead : List Nat := []
  /-- slots from `pos` on that are known free -/
  free : Nat := 0
  /-- the slot after the known free ones was last read with OWN = 0 -/
  edge : Bool := false
  looking : Bool := false
  /-- slots whose OWN the read in flight can tell: those that hold no completion in flight (R378) -/
  lookN : Nat := 0
  /-- a re-read is wanted after the one in flight -/
  relook : Bool := false
  /-- completions that wait for the lookahead to show a slot -/
  wait : List Cpl := []
  /-- R235: read again only on a TEN_CRARM write after UP -/
  hold : Bool := false
  siding : List Cpl := []
  claims : Nat := 0
  /-- completion writes in flight: place, counted as `pos` counts, and completion -/
  fly : List (Nat × Cpl) := []
  rdIdx : Nat := 0
  rdWrap : Bool := false
  armed : Bool := false
deriving DecidableEq, Repr

/-- A translated range of an entry: fabric address, length, tenant address, window, port, range code (R116). -/
structure Rng where
  fa : Nat
  len : Nat
  /-- its tenant address -/
  ta : Nat := 0
  win : Nat := 0
  port : Option Nat := none
  code : Nat := 0
deriving DecidableEq, Repr

/-- An anomaly of a data entry (R135): the lowest offset wins, the earliest among equals. -/
structure Anom where
  off : Nat
  st : Nat
  /-- attachment of the failed transaction, if one was issued -/
  att : Option Nat := none
  port : Option Nat := none
  /-- INFO[15:8] where the status has its own -/
  info : Nat := 0
  /-- order among anomalies of one place (R165) -/
  rank : Nat := 0
  /-- GREDUCE: RESULT[63:32] -/
  aux : Nat := 0
  src : Bool := true
deriving DecidableEq, Repr

/-- A work item of a data entry: a segment, a bag group or a poison pass (R16, R159). -/
structure Work where
  uid : Nat
  /-- 0 an entry, 1 a channel, 2 a Transit window, 3 a scrub region, 4 a telemetry ring, 5 forwarded work; and which -/
  who : Nat := 0
  which : Nat := 0
  cls : Nat := 2
  seg : Nat
  mover : Option Nat
  /-- reads done so far, per stream: next logical offset; limits of the segment -/
  lo : Nat
  hi : Nat
  rdAt : List Nat := []
  wrAt : List Nat := []
  /-- phase: 0 normal, 1 read back, 2 poison -/
  ph : Nat := 0
  /-- lines presented, granted or outstanding -/
  out : Nat := 0
  /-- a read, or a write per destination, is presented and not yet granted -/
  rdBusy : Bool := false
  wrBusy : List Bool := []
  units : Nat := 0
  quad : Option Nat := none
  issued : Bool := false
  /-- stopped: issues nothing further -/
  stop : Bool := false
  /-- progress of the gather and reduce sequencers -/
  pos : Nat := 0
  pos2 : Nat := 0
  bag : Nat := 0
  bag2 : Nat := 0
  /-- accumulator lanes of the open bag, contributing rows so far, last contributing position -/
  acc : List Nat := []
  n : Nat := 0
  lastPos : Nat := 0
  /-- output rows waiting to be written: bag and bytes -/
  rows : Tbl (List Nat) := []
  /-- reads of one element or row, or of a table, that are cut and wait to be presented: stream, lines, port (R18) -/
  todo : List (Nat × List LineOp × Option Nat) := []
  /-- ends of the read bursts presented, and how far each destination's writes have been issued (R129) -/
  cuts : List Nat := []
  wrIss : List Nat := []
  /-- the destination served last (R129) -/
  dstLast : Option Nat := none
  /-- row reads outstanding or waiting: position and its fabric address -/
  live : Tbl Nat := []
deriving DecidableEq, Repr

/-- A data entry in execution. -/
structure Job where
  q : Nat
  op : Nat
  tag : Nat
  flags : Nat
  tenant : Nat
  len : Nat
  srcs : List Rng := []
  dsts : List Rng := []
  tabs : List Rng := []
  csumR : Option Rng := none
  pat : Word := 0
  verify : Bool := false
  stream : Bool := false
  coh : Bool := false
  alg : Nat := 0
  cont : Bool := false
  seed : Nat := 0
  /-- 0 wait for seed grant, 1 seed outstanding, 2 running, 3 poison pass, 4 checksum store, 5 ended -/
  ph : Nat := 2
  nextSeg : Nat := 0
  segs : Nat := 0
  flying : List Nat := []
  /-- lines read: (key, line number) and data -/
  got : List (Nat × Nat × Line) := []
  /-- bytes written with a good response: (destination, from, to) -/
  good : List (Nat × Nat × Nat) := []
  anoms : List Anom := []
  dead : List Nat := []
  poisoned : List Nat := []
  abort : Bool := false
  /-- a Mover with work of this entry was fenced: nothing further is issued (R32) -/
  halt : Bool := false
  moved : Bool := false
  started : Bool := false
  csumFail : Option (Nat × Option Nat × Option Nat) := none
  stored : Bool := false
  /-- fields of GATHER, SCATTER and GREDUCE -/
  esize : Nat := 0
  iw : Nat := 4
  stride : Nat := 0
  nrows : Nat := 0
  abs : Bool := false
  oorSkip : Bool := false
  rcfg : Nat := 0
  nidx : Nat := 0
  /-- skipped positions -/
  skipped : List Nat := []
  /-- flags seen by the reduce array: NaN, infinity, saturated, empty bag -/
  seen : Nat := 0
  /-- SCATTER: windows in force at admission, for absolute indices (R141) -/
  wins : Tbl Window := []
  /-- positions (elements) or bags finished with good responses -/
  ok : List Nat := []
  /-- outstanding element writes: position and lines left -/
  left : Tbl Nat := []
  fwdFrom : Option (Nat × Nat) := none
  /-- order of admission (R165), and the Mover of its first segment (R27) -/
  adm : Nat := 0
  mover : Option Nat := none
deriving DecidableEq, Repr

end Sys2Proof.Machine
end

