-- ==== Sys2Proof/Machine/TypesB.lean ====
section
/-! DEFINITION. State types, part B: what leaves the ports, faults, interrupts, the Signal Box, power. -/

namespace Sys2Proof.Machine

/-- What leaves the block at its ports in one step, in order. -/
inductive Out where
  /-- a request slot on XA<n>_RQ (R374) -/
  | rq (xa : Nat) (slot : Word)
  /-- a write-data slot on XA<n>_DT (R376) -/
  | dt (xa tag : Nat) (data : Line) (mask : Mask)
  /-- an interrupt message (R388) -/
  | irq (vec tenant : Nat)
  /-- RQL_ACK and EVO pulses (R387) -/
  | ack (line : Nat)
  | evo (line : Nat)
  /-- a decoder request (R391): operation, window, binding, base page, pages -/
  | dec (op win bind base pages : Nat)
  /-- an MCTP packet or message (R389) -/
  | mgt (bytes : List Nat)
  /-- a Peer Link frame (R355) -/
  | peer (frame : Word)
  /-- a fault message in its four beats (R396) -/
  | flt (msg : Nat)
deriving DecidableEq, Repr

/-- A fault message before the Signal Box applies a class (R275). -/
structure Msg where
  source : Nat
  kind : Nat := 0
  addr : Nat := 0
  ctx : Nat := 0
  time : Nat := 0
deriving DecidableEq, Repr

/-- A fabric port (R233). -/
structure Port where
  up : Bool := true
  epoch : Nat := 0
deriving DecidableEq, Repr

/-- An interrupt vector (R99, R102): assignment, mask, due message, messages sent, the moment of the last one. -/
structure Vec where
  tenant : Nat := 0
  assigned : Bool := false
  mask : Bool := false
  due : Bool := false
  /-- the HOLDOFF in force when the message became due, in ps -/
  hold : Nat := 0
  /-- when it became due, or its mask was last cleared, in ps -/
  at_ : Nat := 0
  sent : Nat := 0
  last : Option Nat := none
deriving DecidableEq, Repr

/-- The answer of the register target to the last access (R384). -/
structure Rsp where
  rdata : Word := 0
  err : Bool := false
deriving DecidableEq, Repr

/-- A journal entry (R350), before its layout. -/
structure JEnt where
  time : Nat
  kind : Nat
  path : Nat
  role : Nat
  origin : Nat
  result : Nat
  target : Nat
  old : Word
  new : Word
deriving DecidableEq, Repr

/-- A Tap event's raw 72 bits (R303). -/
abbrev Tap := BitVec 72

/-- The reset values of SBX_SEV0 to SBX_SEV23 (R299). -/
def sevReset : List Word :=
  [0x2222222222222222, 0x2222222222222222, 0x2222222222222222, 0x2222222222222222,
   0x2222222211111111, 0x0000000133333333, 0x0000000003010111, 0,
   0x0000000000030111, 0, 0x0000000022222222, 0,
   0x0000000003111100, 0, 0x0000000000221010, 0,
   0x0000000000000102, 0, 0x0000000011010100, 0,
   0x0000000000000211, 0, 0x3310123123333333, 0x4444440000001110]

/-- The Signal Box (chapter 10). -/
structure Sbx where
  /-- messages on their way to it -/
  inbox : List Msg := []
  /-- fenced attachments, Movers, data banks, reduce quadrants: masks -/
  fxa : Nat := 0
  fmv : Nat := 0
  fbank : Nat := 0
  frq : Nat := 0
  /-- fences of the Channel Sequencer, the Dispatch Processor, the Peer Link, trace -/
  fchn : Bool := false
  fdsp : Bool := false
  fpeer : Bool := false
  ftrc : Bool := false
  /-- the fences as GLB_STATUS shows them, from the boundary after the fence -/
  sxa : Nat := 0
  smv : Nat := 0
  sbank : Nat := 0
  srq : Nat := 0
  /-- SBX_FIRST, and the upper word as a read of the lower one froze it -/
  first : Option Nat := none
  hi : Option Word := none
  worst : Nat := 0
  ovf : Bool := false
  ovfCount : Nat := 0
  ovfLast : Nat := 0
  sev : List Word := sevReset
  raw : List Word := [0, 0, 0, 0, 0, 0]
  counts : Tbl Nat := []
  /-- SBX_SAFESTAT -/
  sub : Nat := 0
  cause : Nat := 0
  source : Nat := 0x1FF
  ackUs : Nat := 0
  lost : Bool := false
  entered : Nat := 0
  /-- the TERMINAL latch -/
  terminal : Bool := false
  /-- a warm reset, a request for OFF held until SETTLED (R296, R404) -/
  warmHeld : Bool := false
  offHeld : Bool := false
  /-- pins: FLT_FORCE_SAFE, FLT_N, FLT_SAFE_ACK -/
  forceSafe : Bool := false
  fltN : Bool := false
  ack : Bool := false
  /-- SBX_TESTKEY: 0 idle, 1 first write seen, 2 armed; since -/
  key : Nat := 0
  keyAt : Nat := 0
  /-- SBX_INJ, and a detector stuck at 0 (KIND 0x6) -/
  inj : Word := 0
  stuck : Option Nat := none
  /-- the memory log: buffer, SEQ, index, wrap, drops, records in flight -/
  logBuf : List Nat := []
  logSeq : Nat := 0
  logWr : Nat := 0
  logWrap : Bool := false
  logDrop : Nat := 0
  logOut : Nat := 0
  /-- the FLT_MSG_* queue -/
  fltq : List Nat := []
  /-- this read is served by the bypass -/
  bypass : Bool := false
deriving DecidableEq, Repr

/-- A mode transition in progress: the target mode's code, the group of off requests under way, and since when. -/
structure Trans where
  target : Nat
  stage : Nat := 0
deriving DecidableEq, Repr

/-- The power state of the 98 domains and the mode controller (chapter 15). Masks have bit d for domain d. -/
structure Pwr where
  /-- on and out of reset -/
  up : Nat := 0
  /-- PWR_DREQ -/
  req : Nat := 0
  /-- RETAIN requested, and held -/
  retReq : Nat := 0
  ret : Nat := 0
  /-- requests not yet answered, with the moment they were raised -/
  wait : Tbl Nat := []
  failed : Nat := 0
  /-- off requests that were denied and are wanted again -/
  again : Nat := 0
  lastDeny : Nat := 0xFF
  denies : Nat := 0
  coreMhz : Nat := 1600
  mvMin : Nat := 64
  mvIdle : Nat := 100
  rqIdle : Nat := 100
  qpark : Nat := 0
  tmo : Nat := 100
  /-- since when a Mover or quadrant has been idle -/
  mvSince : Tbl Nat := []
  rqSince : Tbl Nat := []
  /-- COLD_INIT: 0 not begun, 1 powering, 2 the wait of 1 µs, 3 memory BIST, 4 the Staging clear, 5 done -/
  init : Nat := 0
  initAt : Nat := 0
  mbistGo : Bool := false
  mbistDone : Bool := false
  mbistFail : Bool := false
  /-- GLB_MODE.REQ, GLB_STATUS.MODE_ERR -/
  modeReq : Nat := 1
  modeErr : Nat := 0
  trans : Option Trans := none
  recovery : Bool := false
  /-- parking in force: 0 none, 1 light, 2 deep -/
  parked : Nat := 0
  /-- the wake counter's monitors: last measured kHz; domains outside their band in the last window -/
  clkMeas : Tbl Nat := []
  clkBad : Nat := 0
  supply : List Nat := [0, 0, 0, 0]
  /-- supplies found misordered at the power-on release of PD_AON; VDD_ANA and VDD_AON found out of range since -/
  misordered : Bool := false
  early : List Nat := []
  /-- causes of `held`: RST_COLD_N low, DFT_TEST_MODE, VDD_AON lost -/
  coldLow : Bool := true
  testMode : Bool := false
  dark : Bool := false
deriving DecidableEq, Repr

end Sys2Proof.Machine
end

