-- ==== Sys2Proof/Machine/TypesC.lean ====
section
/-! DEFINITION. State types, part C: Transit (chapter 6). -/

namespace Sys2Proof.Machine

/-- Phases of a Transit window (R182). -/
inductive TPh where
  | idle | open_ | sweep | orbit | mirror | recall | conjunction | close | failed
deriving DecidableEq, Repr

/-- The parameters of TRANSIT_OPEN (R189). -/
structure TParam where
  served : Nat := 0
  size : Nat := 0
  dst : Nat := 0
  src : Nat := 0
  bitmap : Nat := 0
  bind : Nat := 0
  mem : Bool := false
  cls : Nat := 2
  prio : Nat := 0
  lim : Option Nat := none
  zeroSrc : Bool := false
  waitMirror : Bool := false
  orbitMax : Nat := 8
  bill : Nat := 0
  mirrorPages : Nat := 65536
  conjMax : Nat := 64
  xset : Nat := 255
  srcPort : Nat := 0
  dstPort : Nat := 0
  /-- bytes 64 to 79 of the body, as written -/
  params : Word := 0
  limits : Word := 0
deriving DecidableEq, Repr

/-- A page being copied (R172, R175). -/
structure PCopy where
  page : Nat
  wid : Nat
  /-- lines read: index and data, none for poison -/
  got : List (Nat × Option Line) := []
  rdLeft : Nat := 64
  wrLeft : Nat := 64
  issued : Bool := false
  wrSent : Bool := false
  tries : Nat := 0
  bad : Bool := false
  /-- its Mover was fenced: it starts over (R32, R187) -/
  redo : Bool := false
  conflict : Bool := false
  conj : Bool := false
  /-- when its last write response arrived -/
  doneAt : Option Nat := none
deriving DecidableEq, Repr

/-- How a window is being ended: by an abort, a failure, a failure whose release is already asked for, or CLOSE after
a Conjunction. -/
inductive TEnd where
  | abort | fail | failAbort | close
deriving DecidableEq, Repr

/-- A Conjunction attempt (R178). -/
structure TConj where
  tH : Nat
  acked : Bool := false
  fromRecall : Bool := false
  /-- rebind request issued at -/
  rebind : Option Nat := none
  abandoning : Bool := false
  abort : Bool := false
  fail : Bool := false
deriving DecidableEq, Repr

/-- A Transit window. -/
structure TWin where
  ph : TPh := .idle
  p : TParam := {}
  /-- the command that opened it, until it completes: queue and entry; none for a wear step -/
  openCmd : Option (Nat × Nat) := none
  /-- an armed TRANSIT_CONJOIN: queue, entry, tries left; queue 0x3000 for a wear step -/
  conjoin : Option (Nat × Nat × Nat) := none
  abortCmd : Option (Nat × Nat) := none
  wear : Bool := false
  waiting : Bool := false
  proceed : Bool := false
  toMirror : Bool := false
  mirrored : Bool := false
  recalled : Bool := false
  fullPass : Bool := false
  passFull : Bool := false
  pass : Nat := 0
  outcome : Nat := 0
  cursor : Nat := 0
  /-- bitmap lines held in the cache, those not yet written back, and those being fetched -/
  cache : Tbl Line := []
  cdirty : List Nat := []
  fetching : List Nat := []
  /-- bits set in lines that are not held -/
  away : Tbl Nat := []
  dirty : Nat := 0
  prevD : Option Nat := none
  conflicts : Tbl Nat := []
  deferred : List Nat := []
  copies : List PCopy := []
  /-- the current copy unit: work item, its last page, pages so far -/
  unit : Option (Nat × Nat × Nat) := none
  reading : Bool := false
  /-- zero-fill of the bitmap buffer, lines done; bitmap writes outstanding -/
  fill : Nat := 0
  bmOut : Nat := 0
  dec : Option (Nat × Nat) := none
  conj : Option TConj := none
  ending : Option TEnd := none
  /-- step of the ending: 0 copies, 1 mirror off, 2 disarm, 3 write back, 4 zero -/
  step : Nat := 0
  zeroAt : Nat := 0
  zeroOut : Nat := 0
  zeroWid : Option Nat := none
  zeroBad : Bool := false
  /-- an abort or QUIESCE stopped the zeroing (R183, R186) -/
  zeroStop : Bool := false
  /-- a mirror-on request has been sent -/
  mirReq : Bool := false
  last : Nat := 0
  max : Nat := 0
  attempts : Nat := 0
  abandons : Nat := 0
  lost : Nat := 0
deriving DecidableEq, Repr

/-- The Transit unit. -/
structure Trn where
  wins : List TWin := List.replicate 8 {}
  /-- the notification queue: window and page -/
  nq : List (Nat × Nat) := []
  /-- TRN_CTL.DTRLAT as the last Conjunction attempt took it over (R194) -/
  dtrLat : Nat := 20
deriving DecidableEq, Repr

end Sys2Proof.Machine
end

