-- ==== Sys2Proof/Machine/TypesD.lean ====
section
/-! DEFINITION. State types, part D: hardware channels (chapter 7). -/

namespace Sys2Proof.Machine

/-- Channel states (CH_STATUS.STATE). -/
inductive ChSt where
  | disabled | active | parked | pausing | paused | stopping | stopped | fenced
deriving DecidableEq, Repr

/-- A fetched descriptor (R199). -/
structure ChDesc where
  uid : Nat
  slot : Nat
  wrap : Bool
  /-- fabric address of its ring and the port of the ring's window -/
  ring : Nat
  port : Option Nat
  /-- it lies on a ring that a hand-over has replaced -/
  old : Bool := false
  w : List Nat
  /-- translation of source, destination and table: window offset and port -/
  so : Int := 0
  sp : Option Nat := none
  do_ : Int := 0
  dp : Option Nat := none
  to_ : Int := 0
  tp : Option Nat := none
  wins : Tbl Window := []
  /-- lowest anomaly: offset and code -/
  err : Option (Nat × Nat) := none
  /-- its Mover work item, once started -/
  wid : Option Nat := none
  /-- offset up to which requests have been presented, and were retired with good writes -/
  pos : Nat := 0
  ok : Nat := 0
  /-- source bytes of retired requests, where CTRL.CSUM asks for them -/
  cs : List Nat := []
  wb : Bool := false
deriving DecidableEq, Repr

/-- A presented request (R199, R206). -/
structure ChReq where
  id : Nat
  d : Nat
  off : Nat
  len : Nat
  /-- 0 index read, 1 reads, 2 writes -/
  ph : Nat
  /-- bursts still to present -/
  todo : List (List LineOp) := []
  /-- a burst is presented and not yet issued -/
  busy : Bool := false
  out : Nat := 0
  /-- address offset of the indexed block, fabric -/
  blk : Nat := 0
  bp : Option Nat := none
  got : List (Nat × Line) := []
  /-- destination lines whose write received a good response -/
  good : List Nat := []
  poison : Option Nat := none
  failed : Bool := false
  acked : Bool := false
  /-- the line it is acknowledged on, none for a free-running channel -/
  line : Option Nat := none
deriving DecidableEq, Repr

/-- A hardware channel. -/
structure Chan where
  /-- the dictionary object 0x4000 + n (R195) -/
  granted : Bool := false
  tenant : Nat := 0
  cls : Nat := 2
  prio : Nat := 7
  xset : Nat := 255
  limiter : Nat := 0
  qrd : Nat := 0
  qwr : Nat := 0
  st : ChSt := .disabled
  /-- the state before a pause -/
  back : ChSt := .active
  enable : Bool := false
  stop : Bool := false
  pause : Bool := false
  /-- ENABLE written while dropped descriptors still count (R241) -/
  enableNext : Bool := false
  alg : Nat := 0
  /-- active registers: RINGBASE, RINGCFG, PTR, REQCFG, EVTCFG; and their shadows -/
  act : List Word := [0, 4, 0, 0x4000, 0]
  sh : List Word := [0, 4, 0, 0x4000, 0]
  pend : Nat := 0
  arm : Nat := 0
  /-- the armed tick boundary has come -/
  armDue : Bool := false
  hcount : Nat := 0
  htick : Nat := 0
  kick : Bool := false
  reqcnt : Nat := 0
  /-- level-burst: a request exists; the last acknowledge -/
  lvl : Bool := false
  lastAck : Option Nat := none
  reqOvf : Bool := false
  evtOvf : Bool := false
  badSeen : Bool := false
  cfgErr : Bool := false
  csInv : Bool := false
  done : Nat := 0
  lastErr : Nat := 0
  csum : Word := 0
  /-- fetch pointer; a fetch is out; the fetch has stopped (R207) -/
  fp : Nat := 0
  fw : Bool := false
  fetching : Bool := false
  fstop : Bool := false
  /-- the fetch in flight belongs to a place the channel no longer reads -/
  fstale : Bool := false
  descs : List ChDesc := []
  reqs : List ChReq := []
  /-- bursts withheld by a pause -/
  parked : List Burst := []
  quiesced : Bool := false
  /-- when the last done or error pulse fell due, and on which line (R250) -/
  pulsed : Option (Nat × Nat) := none
deriving DecidableEq, Repr

/-- The Channel Sequencer: channels, pulses due on EVO lines, the moment of the last pulse of each line. -/
structure Chn where
  chans : Tbl Chan := []
  evo : Tbl Nat := []
  evoLast : Tbl Nat := []
deriving DecidableEq, Repr

end Sys2Proof.Machine
end

