-- ==== Sys2Proof/Machine/TypesE.lean ====
section
/-! DEFINITION. State types, part E: Engineering Services (chapter 9). -/

namespace Sys2Proof.Machine

/-- A rewrite in progress (R258): its line, and the step: Hold asked, re-read, write. -/
inductive RwPh where
  | hold | reread | write
deriving DecidableEq, Repr

/-- A patrol scrub region (R256 to R259). -/
structure Scrub where
  active : Bool := false
  base : Nat := 0
  size : Nat := 0
  period : Nat := 0
  xset : Nat := 255
  mem : Bool := false
  rewrite : Bool := false
  logring : Nat := 0
  logCorr : Bool := false
  bill : Nat := 0
  /-- accumulator, 1/256 B -/
  acc : Nat := 0
  cursor : Nat := 0
  passes : Nat := 0
  passStart : Nat := 0
  corr : Nat := 0
  uncorr : Nat := 0
  err : Nat := 0
  behind : Bool := false
  catchup : Bool := false
  /-- a burst was issued this tick -/
  tickDone : Bool := false
  /-- the unit in flight: work item, offset read, lines outstanding, its burst issued -/
  unit : Option (Nat × Nat) := none
  out : Nat := 0
  issued : Bool := false
  /-- the unit starts over once nothing of it is on its way (R254) -/
  redo : Bool := false
  /-- corrected lines still to rewrite, and the rewrite in progress -/
  todo : List Nat := []
  rw_ : Option (Nat × RwPh × Nat) := none
  stopCmd : Option (Nat × Nat) := none
deriving DecidableEq, Repr

/-- A telemetry ring (R268, R269). -/
structure Tel where
  active : Bool := false
  base : Nat := 0
  prod : Nat := 0
  log2n : Nat := 6
  lo : Nat := 0
  hi : Nat := 0
  feed : Bool := false
  xset : Nat := 255
  bill : Nat := 0
  wr : Nat := 0
  wrWrap : Bool := false
  rd : Nat := 0
  rdWrap : Bool := false
  seq : Nat := 0
  drops : Nat := 0
  dropping : Bool := false
  /-- staged records: time, type, payload of 48 bytes -/
  staged : List (Nat × Nat × Nat) := []
  unit : Option Nat := none
  out : Nat := 0
  /-- the record writes of the unit in flight, and whether it starts over (R254) -/
  ops : List LineOp := []
  redo : Bool := false
  /-- a PROD write is due, one is out; a record in this tick; PROD was written since the last record -/
  prodDue : Bool := false
  prodOut : Bool := false
  recTick : Bool := true
  told : Bool := false
  stopCmd : Option (Nat × Nat) := none
deriving DecidableEq, Repr

/-- The wear plan (R265 to R267). -/
structure Wear where
  active : Bool := false
  table : Nat := 0
  nsteps : Nat := 0
  loop_ : Bool := false
  interval : Nat := 0
  tries : Nat := 0
  step : Nat := 0
  rounds : Nat := 0
  win : Nat := 0
  inStep : Bool := false
  /-- within INTERVAL, since -/
  waiting : Option Nat := none
  failed : Bool := false
  /-- the step's record, once read; its read is out -/
  rec_ : Option (List Word) := none
  fetching : Bool := false
deriving DecidableEq, Repr

/-- Latency of one attachment and direction (R260). -/
structure Lat where
  avg : Nat := 0
  max : Nat := 0
  samples : Nat := 0
  curMax : Nat := 0
  curN : Nat := 0
  issued : Nat := 0
deriving DecidableEq, Repr

/-- The rate model of one attachment (R261, R262). -/
structure RateM where
  rdEst : Nat := 0
  wrEst : Nat := 0
  fMeas : Nat := 0
  fLow : Bool := false
deriving DecidableEq, Repr

/-- Engineering Services. -/
structure Bgs where
  scr : Tbl Scrub := []
  tel : Tbl Tel := []
  wear : Wear := {}
  unmatched : Nat := 0
  behind : Bool := false
  lat : List Lat := List.replicate 16 {}
  rate : List RateM := List.replicate 8 {}
  temp : Int := 0
  vcore : Nat := 0
  /-- the sensor that reported `temp` -/
  hot : Nat := 0
  trim : Int := 0
  range : Bool := false
  lastErr : Int := 0
  updates : Nat := 0
  /-- calibration fenced (R280) -/
  calOff : Bool := false
deriving DecidableEq, Repr

end Sys2Proof.Machine
end

