-- ==== Sys2Proof/Machine/TypesF.lean ====
section
/-! DEFINITION. State types, part F: waiting admin commands, sessions, the dictionary's register path and the audit
journal (chapter 12). -/

namespace Sys2Proof.Machine

/-- Why an admitted admin command waits. -/
inductive WaitK where
  /-- every started entry of a queue has completed; then the queue is deleted, or only the command completes -/
  | sqDisable (q : Nat)
  | sqDelete (q : Nat)
  | sqDrain (q : Nat)
  /-- the next tick boundary (SQ_MODIFY) -/
  | boundary
  /-- the work items admitted under a window's old state: jobs, and channel descriptors -/
  | win (jobs : List Nat) (descs : List (Nat × Nat))
  /-- a read of fabric memory: gate entries, or a dictionary value -/
  | gate (cls bank first count src : Nat)
  | value (index sub len buf : Nat)
  /-- a dictionary value is being written to the command's buffer; the RESULT -/
  | store (res : Nat)
deriving DecidableEq, Repr

/-- An admin command in progress (R326): its queue and entry, the objects it names, what it waits for, its result
slot, and the transfers of its buffer. -/
structure CmdWait where
  q : Nat
  uid : Nat
  objs : List (Nat × Nat) := []
  k : WaitK
  slot : Option (Nat × Nat) := none
  left : Nat := 0
  got : List (Nat × Line) := []
  bad : Option Nat := none
deriving DecidableEq, Repr

/-- A session (R348): role 2 Installer or 3 Maker, and the moment of the last access on its path. -/
structure Sess where
  role : Nat
  last : Nat
deriving DecidableEq, Repr

/-- A nonce in force: its number in the sequence issued, and when it was issued. -/
structure Nonce where
  n : Nat
  at_ : Nat
deriving DecidableEq, Repr

/-- The Dispatch Processor and the session engine. Paths are numbered 0 for the register path, 1 + e for MCTP
endpoint e. -/
structure Dct where
  waits : List CmdWait := []
  sess : Tbl Sess := []
  nonces : Tbl Nonce := []
  /-- nonce reads refused until -/
  lock : Tbl Nat := []
  nonceCtr : Nat := 0
  fails : Nat := 0
  idleS : Nat := 900
  /-- INSTALLER_KEY: its non-volatile cells and the session engine's working copy, byte 0 in bits [7:0] -/
  keyCells : Nat := 0
  key : Nat := 0
  /-- the working copy of the Maker key is loaded -/
  maker : Bool := false
  /-- ODW: the value buffer, byte 0 in bits [7:0]; ODW_STATUS -/
  buf : Nat := 0
  valid : Bool := false
  stale : Bool := true
  result : Nat := 0
  len : Nat := 0
  seq : Nat := 0
  /-- the journal: entries lost, spill index, the group being written, writes outstanding, a write failed, full raised -/
  lost : Nat := 0
  wr : Nat := 0
  wrWrap : Bool := false
  spill : List JEnt := []
  spillOut : Nat := 0
  spillBad : Bool := false
  fullRaised : Bool := false
  /-- the block's own MCTP endpoint ID -/
  eid : Nat := 0
deriving DecidableEq, Repr

end Sys2Proof.Machine
end

