-- ==== Sys2Proof/Machine/TypesG.lean ====
section
/-! DEFINITION. State types, part G: the Weighbridge (chapter 11), the Station and its Peer Link (chapter 13). -/

namespace Sys2Proof.Machine

/-- A Dallor record (R308), before its layout in bytes; `key` is the key its TAG is made with. -/
structure WRec where
  station : Nat := 0
  kind : Nat := 0
  sealed_ : Bool := false
  holdover : Bool := false
  tapLost : Bool := false
  tickChanged : Bool := false
  seq : Nat := 0
  interval : Nat := 0
  start : Nat := 0
  end_ : Nat := 0
  ovh : Nat := 0
  lost : Nat := 0
  tamper : Nat := 0
  ctr : Tbl Nat := []
  tickNs : Nat := 0
  /-- the last chained record's SHA-256, byte 0 in bits [7:0] -/
  prev : Nat := 0
  key : Option Nat := none
deriving DecidableEq, Repr

/-- A record slot (R310). -/
structure WSlot where
  rec_ : Option WRec := none
  ready : Bool := false
  acked : Bool := false
deriving DecidableEq, Repr

/-- The Weighbridge. Counters and the pending array have key 8 t + q. -/
structure Wbg where
  /-- 0 UNSEALED, 1 SEALED, 2 BROKEN -/
  st : Nat := 0
  /-- the one-time cells: OVH, L, KCV -/
  cells : Option (Nat × Nat × Nat) := none
  ovh : Nat := 0
  secs : Nat := 3600
  key : Option Nat := none
  keyStat : Nat := 0
  /-- release of cold reset, ps -/
  relAt : Nat := 0
  /-- Weighbridge time, ps, and whether TIME_VALID is high -/
  time : Nat := 0
  valid : Bool := false
  pend : Tbl Nat := []
  ctr : Tbl Nat := []
  lost : Nat := 0
  missed : Nat := 0
  tamper : Nat := 0
  lastKind : Nat := 0
  tapLost : Bool := false
  /-- a chain is open; its SEQ, the open interval and its start in ns; flags of the open interval -/
  chain : Bool := false
  seq : Nat := 0
  n : Nat := 0
  ivStart : Nat := 0
  ivHold : Bool := false
  ivTap : Bool := false
  ivTick : Bool := false
  /-- the last chained record -/
  last : Option WRec := none
  iv : WSlot := {}
  snap : WSlot := {}
  sel : Bool := false
  /-- the first sealing code has been written -/
  sealing : Bool := false
deriving DecidableEq, Repr

/-- What a present Station reports (R358). -/
structure Pres where
  at_ : Nat
  dist : Nat
  len : Nat
  phase : Nat
  log2l : Nat
  fwdEn : Bool
  modeOk : Bool
deriving DecidableEq, Repr

/-- An entry this Station has forwarded: lane w, SEQ, origin queue and entry (R364, R367). -/
structure FwdOut where
  w : Nat
  seq : Nat
  q : Nat
  uid : Nat
  slot : Nat := 0
  /-- the slot write: issued at, lines outstanding -/
  issued : Option Nat := none
  left : Nat := 2
  bad : Bool := false
  /-- quarantined since -/
  quar : Option Nat := none
  /-- ports of the entry's windows (R234) -/
  ports : List Nat := []
deriving DecidableEq, Repr

/-- A forwarded slot this Station reads as owner. -/
structure FwdIn where
  o : Nat
  slot : Nat
  left : Nat := 2
  got : List (Nat × Line) := []
  bad : Bool := false
deriving DecidableEq, Repr

/-- The Station and its Peer Link. -/
structure Stn where
  id : Nat := 0
  nonce : Nat := 0
  aligned : Bool := false
  holdover : Bool := false
  broken : Bool := false
  mismatch : Bool := false
  dup : Bool := false
  crcErrs : Nat := 0
  seen : Tbl Pres := []
  /-- Line correction C in ps, LAST_ERR in 10 ps; boundaries in a row with |e| ≤ 1 ns -/
  corr : Int := 0
  lastErr : Int := 0
  good : Nat := 0
  /-- the correction due at the next boundary: a slew in ps, or a step to C, with the upstream boundary it was taken from,
  its instant and its tick number -/
  slew : Int := 0
  step : Option (Int × Int × Int) := none
  /-- boundaries passed since the last usable TICK frame; 2 where none arrive -/
  quiet : Nat := 2
  /-- a TICK frame is due, for the boundary at -/
  tick : Option Nat := none
  relay : List Word := []
  own : List Word := []
  /-- next SEQ by lane; entries forwarded; slots being read as owner; record reads of returns -/
  seqs : Tbl Nat := []
  fwd : List FwdOut := []
  ins : List FwdIn := []
  failed : Nat := 0
  executed : Nat := 0
deriving DecidableEq, Repr

end Sys2Proof.Machine
end

