-- ==== Sys2Proof/Machine/State.lean ====
section
/-! DEFINITION. The machine's state, its faults and refusals, and the state right after reset. -/

namespace Sys2Proof.Machine

/-- The machine. -/
structure State where
  /-- commands waiting, first in, first out (the model's own) -/
  pending : List Instr := []
  /-- the block is held in reset: RST_COLD_N low, DFT_TEST_MODE high, or VDD_AON lost (R399, R400, R421) -/
  held : Bool := true
  /-- the monotonic clock that times every timer, in ps (the model's own) -/
  clk : Nat := 0
  /-- what left the ports in the last command, in order (the model's own; log entry 10) -/
  out : List Out := []
  /-- the last answer of the register target (R384) -/
  rsp : Rsp := {}
  /-- plain configuration registers by aperture offset; one absent reads its reset value (R426 to R441) -/
  cfg : Tbl Word := []
  /-- the operating mode in force (R402) -/
  mode : Mode := .coldInit
  /-- the Timetable and its tick keeper (R36 to R67) -/
  tt : Timetable := {}
  /-- bursts waiting for a grant (R22) -/
  bursts : List Burst := []
  /-- bursts granted and not yet issued (R22, R43) -/
  granted : List Burst := []
  /-- outstanding transactions (R41, R238) -/
  txns : List Txn := []
  /-- quarantined tags (R239) -/
  quar : List Quar := []
  /-- Holds in force or asked for (R375) -/
  holds : List Hold := []
  /-- the next number for a burst, an entry or a work item (the model's own) -/
  nextId : Nat := 1
  /-- the 4,096 windows that are set (R336) -/
  wins : Tbl Window := []
  /-- the 256 tenants (R69, R334) -/
  tenants : Tbl Tenant := []
  /-- the 8,192 submission queues and 257 Dispatch Queues that exist (R70, R321) -/
  queues : Tbl Queue := []
  /-- the 2,048 completion rings and those of Dispatch Queues that exist (R70, R321) -/
  rings : Tbl Ring := []
  /-- data entries in execution (R16) -/
  jobs : Tbl Job := []
  /-- work items of Movers and reduce quadrants (R16, R17, R159) -/
  works : Tbl Work := []
  /-- the 256 fabric ports (R233) -/
  ports : Tbl Port := []
  /-- the 2,048 interrupt vectors (R99, R431) -/
  vecs : Tbl Vec := []
  /-- the on-block audit journal, oldest first (R350, R351) -/
  journal : List JEnt := []
  /-- Tap events between the Tap and the Weighbridge, oldest first (R303) -/
  tap : List Tap := []
  /-- the Signal Box (R275 to R299) -/
  sbx : Sbx := {}
  /-- power domains, modes, start-up and clock monitors (R402 to R425) -/
  pwr : Pwr := {}
  /-- the Station and its Peer Link (R353 to R370) -/
  stn : Stn := {}
  /-- the Transit unit (R167 to R194) -/
  trn : Trn := {}
  /-- the Channel Sequencer (R195 to R222) -/
  chn : Chn := {}
  /-- Engineering Services (R252 to R274) -/
  bgs : Bgs := {}
  /-- the Dispatch Processor, the dictionary path and the session engine (R321 to R352) -/
  dct : Dct := {}
  /-- the Weighbridge (R300 to R320) -/
  wbg : Wbg := {}
  /-- how many free values have been drawn (the model's own; log entry 8) -/
  freeCtr : Nat := 0
deriving DecidableEq, Repr

/-- Faults: none is raised by this block's commands; every misuse the spec describes has an answer of its own. -/
inductive Fault where
  /-- Raised by nobody (safe): it exists so that the type has a value. -/
  | none
deriving DecidableEq, Repr

/-- Refusals. -/
inductive Refusal where
  /-- A command whose meaning is not written yet; raised by the arm of exec alone (safe: the machine stops). -/
  | notModelled (mnemonic : String)
deriving DecidableEq, Repr

/-- The machine right after reset. -/
def State.reset : State := {}

end Sys2Proof.Machine
end

