-- ==== Sys2Proof/Machine/Ops.lean ====
section
/-! DEFINITION. The named operations over the state that every family shares: time, port outputs, the register file,
fault messages, the journal, ports, windows and attachments. -/

namespace Sys2Proof.Machine

/-- Read a stored register by aperture offset; an offset never written reads as the given reset value. -/
def State.reg (s : State) (off : Nat) (rst : Nat) : Word := Tbl.getD off (BitVec.ofNat 64 rst) s.cfg

/-- Store a register. -/
def State.setReg (s : State) (off : Nat) (v : Word) : State := { s with cfg := Tbl.put off v s.cfg }

/-- Emit at a port. -/
def State.emit (s : State) (o : Out) : State := { s with out := s.out ++ [o] }

/-- Fabric time as the block holds it, in ns: TIME_NS of completions and records. -/
def State.ns (s : State) : Nat := s.tt.time / 1000

/-- Advance time by ps: the monotonic clock, the keeper's time and Weighbridge time together. -/
def State.advance (s : State) (ps : Nat) : State :=
  { s with clk := s.clk + ps, tt := { s.tt with time := s.tt.time + (if s.tt.everValid then ps else 0) },
           wbg := { s.wbg with time := s.wbg.time + ps } }

/-- Advance the monotonic clock to a moment that a timer row stands for, if it is still ahead. -/
def State.reach (s : State) (at_ : Nat) : State := s.advance (at_ - s.clk)

/-- A detector sends a fault message to the Signal Box (R275): it waits in the inbox until FAULT_MESSAGE. -/
def State.raise (s : State) (source kind addr ctx : Nat) : State :=
  { s with sbx := { s.sbx with inbox := s.sbx.inbox ++ [⟨source, kind, addr, ctx, s.ns⟩] } }

/-- Raise a source without kind or address. -/
def State.raise0 (s : State) (source ctx : Nat) : State := s.raise source 0 0 ctx

/-- Modes in which data issues (R403). -/
def Mode.dataIssue : Mode → Bool
  | .run | .degraded | .factoryTest => true
  | _ => false

/-- Modes in which the Timetable grants (R22 item 4). -/
def Mode.grants : Mode → Bool
  | .run | .degraded | .factoryTest | .configure | .quiesce => true
  | _ => false

/-- Modes in which admin commands run (R403). -/
def Mode.admin : Mode → Bool
  | .run | .degraded | .factoryTest | .configure | .quiesce => true
  | _ => false

/-- Admin commands may run now: not with the Dispatch Processor fenced (R280), nor on the way to OFF (R422 item 1). -/
def State.adminNow (s : State) : Bool :=
  s.mode.admin && !s.sbx.fdsp && !(match s.pwr.trans with | some t => t.target == 0 | none => false)

/-- Data work may start now: not once QUIESCE or OFF has been asked for (R244, R422). -/
def State.dataNow (s : State) : Bool :=
  s.mode.dataIssue && !(match s.pwr.trans with | some t => t.target == 0 || t.target == 6 | none => false)

/-- The code of a mode (R402). -/
def Mode.code : Mode → Nat
  | .off => 0 | .coldInit => 1 | .factoryTest => 2 | .configure => 3
  | .run => 4 | .degraded => 5 | .quiesce => 6 | .safe => 7

/-- Domain numbers of R398: Mover m, attachment n, reduce quadrant r, Staging bank b, and the six single units. -/
def domMv (m : Nat) : Nat := m
def domXa (n : Nat) : Nat := 64 + n
def domRq (r : Nat) : Nat := 72 + r
def domSs (b : Nat) : Nat := 76 + b
def domQM : Nat := 92
def domTT : Nat := 93
def domDSP : Nat := 94
def domTRN : Nat := 95
def domCHN : Nat := 96
def domBGS : Nat := 97

/-- Whether a switched domain is on. -/
def State.isOn (s : State) (d : Nat) : Bool := s.pwr.up.testBit d

def State.xaFenced (s : State) (n : Nat) : Bool := s.sbx.fxa.testBit n
def State.mvFenced (s : State) (m : Nat) : Bool := s.sbx.fmv.testBit m
def State.rqFenced (s : State) (r : Nat) : Bool := s.sbx.frq.testBit r

/-- GLB_XA<n>CFG word 0. -/
def State.xaCfg (s : State) (n : Nat) : Word := s.reg (0x100 + 0x20 * n) 0x0000C35000000640
def State.xaFreq (s : State) (n : Nat) : Nat := fld (s.xaCfg n) 0 11
/-- TMO of an attachment in ps. -/
def State.xaTmo (s : State) (n : Nat) : Nat := fld (s.xaCfg n) 32 20 * 1000000

/-- Attachments that can take new bursts. -/
def State.xaUsable (s : State) (n : Nat) : Bool :=
  !s.xaFenced n && s.isOn (domXa n) && decide (s.xaFreq n ≠ 0)

/-- Whether some member of an attachment set is unfenced. -/
def State.setAlive (s : State) (xset : Nat) : Bool :=
  (List.range 8).any (fun n => xset.testBit n && !s.xaFenced n)

def State.port (s : State) (p : Nat) : Port := Tbl.getD p {} s.ports
def State.portUp (s : State) (p : Option Nat) : Bool :=
  match p with
  | none => true
  | some p => (s.port p).up

def State.queue (s : State) (q : Nat) : Queue := Tbl.getD q {} s.queues
def State.ring (s : State) (r : Nat) : Ring := Tbl.getD r {} s.rings
def State.tenant (s : State) (t : Nat) : Tenant := Tbl.getD t {} s.tenants
def State.updQueue (s : State) (q : Nat) (f : Queue → Queue) : State := { s with queues := Tbl.upd q f s.queues }
def State.updRing (s : State) (r : Nat) (f : Ring → Ring) : State := { s with rings := Tbl.upd r f s.rings }
def State.updTenant (s : State) (t : Nat) (f : Tenant → Tenant) : State :=
  { s with tenants := Tbl.put t (f (s.tenant t)) s.tenants }
def State.updJob (s : State) (u : Nat) (f : Job → Job) : State := { s with jobs := Tbl.upd u f s.jobs }
def State.updWork (s : State) (w : Nat) (f : Work → Work) : State := { s with works := Tbl.upd w f s.works }

/-- A value the spec leaves open: it is used, and the counter moves on. -/
def State.freeVal (s : State) : Nat × State := ((Config.freeWord s.freeCtr).toNat, { s with freeCtr := s.freeCtr + 1 })

/-- Unspilled entries on-block (R351). -/
def State.jHeld (s : State) : Nat := s.journal.length + s.dct.spill.length

/-- ODW_JOURNAL. -/
def State.jCfg (s : State) : Word := s.reg 0x30200 0

/-- A journalled change is refused: the on-block store is full and STRICT is 1 (R351). -/
def State.jFull (s : State) : Bool := fbit s.jCfg 1 && decide (1024 ≤ s.jHeld)

/-- Append to the journal (R350); on a full store the oldest unspilled entry is overwritten (R351). -/
def State.journalE (s : State) (kind path role origin result target : Nat) (old new : Word) : State :=
  let e : JEnt := ⟨s.ns, kind, path, role, origin, result, target, old, new⟩
  if s.jHeld < 1024 then { s with journal := s.journal ++ [e] }
  else { s with journal := s.journal.drop 1 ++ [e], dct := { s.dct with lost := min 65535 (s.dct.lost + 1) } }

def State.vec (s : State) (v : Nat) : Vec := Tbl.getD v {} s.vecs
def State.updVec (s : State) (v : Nat) (f : Vec → Vec) : State := { s with vecs := Tbl.put v (f (s.vec v)) s.vecs }

/-- A due interrupt message on a vector (R102): it merges with one already due, and keeps the HOLDOFF of its moment. -/
def State.irqDue (s : State) (v : Option Nat) : State :=
  match v with
  | none => s
  | some v => s.updVec v (fun x =>
      if x.due then x else { x with due := true, hold := fld (s.reg 0x9000 0) 0 16 * 100000, at_ := s.clk })

/-- Signed address plus offset. -/
def addOff (a : Nat) (o : Int) : Nat := ((a : Int) + o).toNat

/-- The windows of a table that cover a tenant range whole (R116 item 1), with a right test. -/
def findWin (ws : Tbl Window) (t a len : Nat) : Option (Nat × Window) :=
  ws.find? (fun p => p.2.tenant == t && decide (p.2.base ≤ a) && decide (a + len ≤ p.2.base + p.2.size))

/-- What one CORE cycle is in ps, rounded up. -/
def State.corePs (s : State) : Nat := ceilDiv 1000000 (max 1 s.pwr.coreMhz)

end Sys2Proof.Machine
end

