-- ==== Sys2Proof/Machine/Flags.lean ====
section
/-! DEFINITION. The entry header (R73, R74), its FLAGS, and the header checks of R75. -/

namespace Sys2Proof.Machine

def hdrOwn (h : Nat) : Bool := bit h 0
def hdrLen (h : Nat) : Nat := bits h 1 6
def hdrOpc (h : Nat) : Nat := bits h 8 8
def hdrFlags (h : Nat) : Nat := bits h 16 16
def fCsum (h : Nat) : Bool := bit h 16
def fCont (h : Nat) : Bool := bit h 17
def fStream (h : Nat) : Bool := bit h 18
def fCoh (h : Nat) : Bool := bit h 19
def fFence (h : Nat) : Bool := bit h 20
def fQuiet (h : Nat) : Bool := bit h 21
def fIrq (h : Nat) : Bool := bit h 22
def fOrdered (h : Nat) : Bool := bit h 23
def fAlg (h : Nat) : Nat := bits h 24 4

/-- Data opcodes a submission queue accepts (R107). -/
def dataOpc : List Nat := [1, 2, 3, 4, 5, 6, 8, 9, 10, 0x10, 0x11, 0x12, 0x14]

/-- LEN16 values an opcode of a submission queue permits (R107, R138). -/
def lenOk (opc n : Nat) : Bool :=
  if opc ≤ 4 then decide (n = 2 ∨ n = 3)
  else if opc = 5 then decide (n = 2)
  else if opc = 6 then decide (3 ≤ n ∧ n ≤ 6)
  else if opc = 8 ∨ opc = 9 then decide (n = 5)
  else if opc = 10 then decide (n = 6)
  else if opc = 0x11 then true
  else decide (n = 2)

/-- Admin opcodes with the LEN16 they permit and whether a Tenant Dispatch Queue may name them (R329). -/
def adminOps : List (Nat × List Nat × Bool) :=
  [(0x80, [4], true), (0x81, [2], true), (0x82, [3], true), (0x83, [2], true), (0x84, [4], true), (0x85, [2], true),
   (0x86, [2], true), (0x87, [2], true), (0x88, [4], false), (0x89, [2], false), (0x8A, [2], false),
   (0x90, [3], false), (0x91, [2], false), (0x92, [2], false), (0x98, [5], false), (0x99, [2], false),
   (0x9A, [2], false), (0x9B, [2], false), (0xA0, [3], true), (0xA1, [3], true), (0xA8, [5], false), (0xB0, [2], true)]

def adminLenOk (opc n : Nat) : Bool :=
  match adminOps.find? (fun x => x.1 == opc) with
  | some x => x.2.1.contains n
  | none => if opc = 0x11 then true else decide (n = 2)

/-- Whether a queue accepts the opcode (R75, R325). -/
def accepts (dq tdq : Bool) (opc : Nat) : Bool :=
  if dq then opc == 0x10 || opc == 0x11 || opc == 0x12 || adminOps.any (fun x => x.1 == opc && (x.2.2 || !tdq))
  else dataOpc.contains opc

/-- A header failure that the header alone shows (R75): the length or the next entry's place cannot be trusted. -/
def headerFail (dq tdq : Bool) (unit n h : Nat) : Bool :=
  let l := hdrLen h
  decide (l < 2 ∨ 32 < l) || decide (unit + l > n) ||
  (accepts dq tdq (hdrOpc h) && hdrOpc h != 0x11 && !(if dq then adminLenOk (hdrOpc h) l else lenOk (hdrOpc h) l))

/-- LINK's TARGET (R128). -/
def linkOk (unit n tgt : Nat) : Bool := decide (unit + 2 ≤ tgt) && decide (tgt + 2 ≤ n)

/-- Zero fields of a LINK that are not zero (R112): AUX and the body apart from TARGET. -/
def linkBad (aux w2 w3 : Word) : Bool := decide (w3 ≠ 0) || decide (aux ≠ 0) || decide (fld w2 20 44 ≠ 0)

/-- Opcodes that take no FLAGS but FENCE, QUIET, IRQ and ORDERED (R111). -/
def plainOpc (opc : Nat) : Bool := opc == 0x10 || opc == 0x11 || opc == 0x12 || opc == 0x14

/-- Whether FLAGS.CSUM may be 1 (R107, R138), by opcode and length. -/
def csumOk (opc len : Nat) : Bool :=
  if opc ≤ 4 then decide (len = 3) else opc == 5 || opc == 6 || opc == 8 || opc == 9

/-- An entry failure of R75 on a submission queue, from header, TAG word and AUX. -/
def entryFail (w0 w1 : Word) : Bool :=
  let h := bits w0.toNat 0 32
  let opc := hdrOpc h
  if opc = 0x11 then bit h 7 || decide (bits h 28 4 ≠ 0) || decide (fld w0 48 16 ≠ 0) ||
    decide (bits h 16 4 ≠ 0) || decide (fAlg h ≠ 0)
  else
  bit h 7 || decide (bits h 28 4 ≠ 0) || decide (fld w0 48 16 ≠ 0) || !dataOpc.contains opc ||
  (plainOpc opc && (decide (bits h 16 4 ≠ 0) || decide (fAlg h ≠ 0))) ||
  (fCont h && !fCsum h) || (fCsum h && !csumOk opc (hdrLen h)) || (opc == 5 && !fCsum h) ||
  (if fCsum h then decide (fAlg h = 0 ∨ 3 < fAlg h) else decide (fAlg h ≠ 0)) ||
  (fCsum h && decide (fld w1 0 3 ≠ 0))

/-- The flags a Dispatch Queue entry may set (R325). -/
def dqEntryFail (w0 : Word) : Bool :=
  let h := bits w0.toNat 0 32
  bit h 7 || decide (bits h 28 4 ≠ 0) || decide (fld w0 48 16 ≠ 0) || decide (bits h 16 4 ≠ 0) || decide (fAlg h ≠ 0)

end Sys2Proof.Machine
end

