-- ==== Sys2Proof/Machine/Float.lean ====
section
/-! DEFINITION. The element types and the arithmetic of GREDUCE (R153 to R157): values are exact dyadics, and each
operation rounds once to nearest even. -/

namespace Sys2Proof.Machine

/-- A value: NaN, an infinity, or (-1)^neg * m * 2^e. -/
inductive Fv where
  | nan
  | inf (neg : Bool)
  | fin (neg : Bool) (m : Nat) (e : Int)
deriving DecidableEq, Repr

/-- A binary format: precision p, exponent of the last place of its subnormals and of its largest finite value, the
significand of that value, the width, and whether it has infinities. -/
structure Fmt where
  p : Nat
  tmin : Int
  tmax : Int
  maxM : Nat
  w : Nat
  hasInf : Bool
  qnan : Nat
deriving DecidableEq, Repr

def fp32 : Fmt := ⟨24, -149, 104, 16777215, 32, true, 0x7FC00000⟩
def fp16 : Fmt := ⟨11, -24, 5, 2047, 16, true, 0x7E00⟩
def bf16 : Fmt := ⟨8, -133, 120, 255, 16, true, 0x7FC0⟩
def e4m3 : Fmt := ⟨4, -9, 5, 14, 8, false, 0x7F⟩
def e5m2 : Fmt := ⟨3, -16, 13, 7, 8, true, 0x7E⟩

/-- The format of a type code 0x0 to 0x4 (R153). -/
def fmtOf (c : Nat) : Fmt :=
  if c = 1 then fp16 else if c = 2 then bf16 else if c = 3 then e4m3 else if c = 4 then e5m2 else fp32

/-- Bytes of an element of a type code; the row scale of INT8S is not counted. -/
def elemBytes (c : Nat) : Nat :=
  if c = 0 then 4 else if c = 1 then 2 else if c = 2 then 2 else if c = 6 then 4 else 1

/-- The value of an encoding. -/
def Fv.decode (f : Fmt) (x : Nat) : Fv :=
  let neg := bit x (f.w - 1)
  let be := bits x (f.p - 1) (f.w - f.p)
  let mant := bits x 0 (f.p - 1)
  let top := 2 ^ (f.w - f.p) - 1
  if be = top ∧ f.hasInf then (if mant = 0 then .inf neg else .nan)
  else if be = top ∧ mant = 2 ^ (f.p - 1) - 1 ∧ !f.hasInf then .nan
  else if be = 0 then .fin neg mant f.tmin
  else .fin neg (mant + 2 ^ (f.p - 1)) (f.tmin + (be : Int) - 1)

/-- Round m * 2^e to nearest even at precision p, subnormals at tmin: significand and exponent of its last place. -/
def roundNE (f : Fmt) (m : Nat) (e : Int) : Nat × Int :=
  if m = 0 then (0, f.tmin) else
  let len : Int := (Nat.log2 m + 1 : Nat)
  let t := max (e + len - (f.p : Int)) f.tmin
  let q :=
    if t ≤ e then m * 2 ^ (e - t).toNat
    else
      let d := (t - e).toNat
      let lo := m / 2 ^ d
      let r := m % 2 ^ d
      if 2 * r > 2 ^ d ∨ (2 * r = 2 ^ d ∧ lo % 2 = 1) then lo + 1 else lo
  if q = 2 ^ f.p then (2 ^ (f.p - 1), t + 1) else (q, t)

/-- Whether a rounded magnitude exceeds the largest finite value of the format. -/
def overflows (f : Fmt) (q : Nat) (t : Int) : Bool :=
  decide (q ≠ 0) && (decide (t > f.tmax) || (decide (t = f.tmax) && decide (q > f.maxM)))

/-- The encoding of a rounded finite value. -/
def packFin (f : Fmt) (neg : Bool) (q : Nat) (t : Int) : Nat :=
  let s := b2n neg * 2 ^ (f.w - 1)
  if q < 2 ^ (f.p - 1) then s + q
  else s + ((t - f.tmin).toNat + 1) * 2 ^ (f.p - 1) + (q - 2 ^ (f.p - 1))

/-- Output conversion (R156): the encoding, and whether a finite result was saturated. -/
def Fv.encode (f : Fmt) (osat : Bool) : Fv → Nat × Bool
  | .nan => (f.qnan, false)
  | .inf neg => if f.hasInf then (b2n neg * 2 ^ (f.w - 1) + (2 ^ (f.w - f.p) - 1) * 2 ^ (f.p - 1), false)
                else (f.qnan, false)
  | .fin neg m e =>
    let r := roundNE f m e
    if overflows f r.1 r.2 then
      if osat then (packFin f neg f.maxM f.tmax, true)
      else if f.hasInf then (b2n neg * 2 ^ (f.w - 1) + (2 ^ (f.w - f.p) - 1) * 2 ^ (f.p - 1), false)
      else (f.qnan, false)
    else (packFin f neg r.1 r.2, false)

/-- Round a value to FP32 and keep it as a value: one IEEE rounding (R154). -/
def Fv.round32 (v : Fv) : Fv := Fv.decode fp32 (Fv.encode fp32 false v).1

/-- The exact sum. Zeros of opposite sign, and x + (-x), give +0 (R154). -/
def Fv.addX : Fv → Fv → Fv
  | .nan, _ => .nan
  | _, .nan => .nan
  | .inf a, .inf b => if a = b then .inf a else .nan
  | .inf a, _ => .inf a
  | _, .inf b => .inf b
  | .fin n1 m1 e1, .fin n2 m2 e2 =>
    if m1 = 0 ∧ m2 = 0 then .fin (n1 && n2) 0 0 else
    let e := min e1 e2
    let a : Int := (m1 * 2 ^ (e1 - e).toNat : Nat)
    let b : Int := (m2 * 2 ^ (e2 - e).toNat : Nat)
    let z := (if n1 then -a else a) + (if n2 then -b else b)
    if z = 0 then .fin false 0 0 else .fin (decide (z < 0)) z.natAbs e

/-- The exact product. -/
def Fv.mulX : Fv → Fv → Fv
  | .nan, _ => .nan
  | _, .nan => .nan
  | .inf a, .inf b => .inf (xor a b)
  | .inf a, .fin n m _ => if m = 0 then .nan else .inf (xor a n)
  | .fin n m _, .inf b => if m = 0 then .nan else .inf (xor n b)
  | .fin n1 m1 e1, .fin n2 m2 e2 => .fin (xor n1 n2) (m1 * m2) (e1 + e2)

def Fv.add (a b : Fv) : Fv := (Fv.addX a b).round32

/-- w * x + acc with one rounding. -/
def Fv.fma (w x acc : Fv) : Fv := (Fv.addX (Fv.mulX w x) acc).round32

def Fv.mul (a b : Fv) : Fv := (Fv.mulX a b).round32

/-- acc / n, correctly rounded, for an exact integer n > 0 (R154, MEAN). The last bit of the quotient is sticky. -/
def Fv.divN (a : Fv) (n : Nat) : Fv :=
  match a with
  | .fin neg m e =>
    let k : Nat := 96
    let q := m * 2 ^ k / n
    let r := m * 2 ^ k % n
    (Fv.fin neg (2 * q + (if r = 0 then 0 else 1)) (e - (k : Int) - 1)).round32
  | x => x

/-- Whether a < b, for values that are no NaN; +0 counts as greater than -0. -/
def Fv.lt : Fv → Fv → Bool
  | .inf a, .inf b => a && !b
  | .inf a, .fin _ _ _ => a
  | .fin _ _ _, .inf b => !b
  | .fin n1 m1 e1, .fin n2 m2 e2 =>
    if m1 = 0 ∧ m2 = 0 then n1 && !n2 else
    let e := min e1 e2
    let a : Int := (m1 * 2 ^ (e1 - e).toNat : Nat)
    let b : Int := (m2 * 2 ^ (e2 - e).toNat : Nat)
    decide ((if n1 then -a else a) < (if n2 then -b else b))
  | _, _ => false

/-- MAX (R154): NaN if either operand is NaN. -/
def Fv.maxV (a b : Fv) : Fv :=
  match a, b with
  | .nan, _ => .nan
  | _, .nan => .nan
  | _, _ => if Fv.lt a b then b else a

def Fv.isNan : Fv → Bool | .nan => true | _ => false
def Fv.isInf : Fv → Bool | .inf _ => true | _ => false

/-- An INT8S element: RNE(scale * q) (R154). -/
def int8Val (scale : Fv) (q : Nat) : Fv :=
  let z := signed q 8
  Fv.mul scale (.fin (decide (z < 0)) z.natAbs 0)

/-- INT32 saturation (R157). -/
def sat32 (z : Int) : Int := if z > 2147483647 then 2147483647 else if z < -2147483648 then -2147483648 else z

/-- z / n to nearest, ties to even (R157). -/
def divNE (z : Int) (n : Nat) : Int :=
  let a := z.natAbs
  let q := a / n
  let r := a % n
  let q' := if 2 * r > n ∨ (2 * r = n ∧ q % 2 = 1) then q + 1 else q
  if z < 0 then -(q' : Int) else (q' : Int)

end Sys2Proof.Machine
end

