-- ==== Sys2Proof/Machine/Operands.lean ====
section
/-! DEFINITION. The bodies of the data opcodes (R108 to R111, R142, R147) and the checks of admission (R112 to R116,
R132, R138 to R151). -/

namespace Sys2Proof.Machine

def Ent.w (e : Ent) (i : Nat) : Word := Tbl.getD i 0 e.words
def Ent.opc (e : Ent) : Nat := hdrOpc e.hdr
def Ent.len16 (e : Ent) : Nat := hdrLen e.hdr
def Ent.tag (e : Ent) : Nat := fld (e.w 0) 32 16
def Ent.aux (e : Ent) : Nat := (e.w 1).toNat

/-- A range to check: tenant start, length, rights RD and WR, range code, role (0 source, 1 destination, 2 table,
3 checksum). -/
structure Chk where
  a : Nat
  len : Nat
  rd : Bool
  wr : Bool
  code : Nat
  role : Nat
deriving DecidableEq, Repr

/-- What admission finds. -/
inductive Adm where
  /-- completes at once: status, INFO, RESULT -/
  | done (st info : Nat) (res : Word)
  /-- runs here -/
  | run (j : Job)
  /-- runs at the owning Station (R132) -/
  | fwd (owner : Nat) (j : Job)
  /-- a range lies on a DOWN port (R234) -/
  | down (port : Nat)
deriving DecidableEq, Repr

def hiZero (a : Nat) : Bool := decide (a < 2 ^ 52)

/-- Check the ranges in order (R116): the first failure, or the translated ranges with their Stations. -/
def checkRanges (s : State) (t : Nat) (coh : Bool) : List Chk → Except (Nat × Nat) (List (Chk × Rng × Nat))
  | [] => .ok []
  | c :: rest =>
    match findWin s.wins t c.a c.len with
    | none => .error (c.a, c.code)
    | some (k, w) =>
      if (c.rd && !w.rd) || (c.wr && !w.wr) || (coh && !w.mem) then .error (c.a, c.code)
      else match checkRanges s t coh rest with
        | .error e => .error e
        | .ok l => .ok ((c, { fa := addOff c.a w.offset, len := c.len, ta := c.a, win := k, port := some w.port, code := c.code },
                         w.station) :: l)

/-- The alignment failure of an entry: the offending address (R113, R139, R149). -/
abbrev AlignR := Option Nat

/-- Field errors of a body (R112, R138, R139, R142, R147). -/
def bodyBad (e : Ent) : Bool :=
  let h := e.hdr
  let o := e.opc
  let w := fun i => (e.w i).toNat
  let len := if o = 5 then w 3 else if o = 6 then fld (e.w 3) 0 47 else if e.len16 = 2 then w 1 else w 4
  let csumBad := fCsum h && !hiZero (w 1)
  let auxBad := !fCsum h && decide (w 1 ≠ 0)
  if o ≤ 4 then
    decide (len > 2 ^ 46) || csumBad || (e.len16 == 3 && (auxBad || decide (w 5 ≠ 0))) ||
    (if o = 1 ∨ o = 4 then !hiZero (w 2) || !hiZero (w 3) else !hiZero (w 2)) ||
    (o == 3 && decide (w 3 ≥ 2)) ||
    (o == 1 && overlap (w 2) len (w 3) len)
  else if o = 5 then decide (len > 2 ^ 46) || csumBad || !hiZero (w 2)
  else if o = 6 then
    let nd := fld (e.w 3) 48 4
    let ds := (List.range nd).map (fun i => w (4 + i))
    decide (nd = 0 ∨ 8 < nd) || decide (e.len16 ≠ 2 + ceilDiv nd 2) || decide (len > 2 ^ 46) || fbit (e.w 3) 47 ||
    decide (fld (e.w 3) 52 12 ≠ 0) || !hiZero (w 2) || ds.any (fun d => !hiZero d) || csumBad || auxBad ||
    (decide (nd % 2 = 1) && decide (w (4 + nd) ≠ 0)) ||
    ds.any (fun d => overlap (w 2) len d len) ||
    (List.range nd).any (fun i => (List.range i).any (fun j => overlap (w (4 + i)) len (w (4 + j)) len))
  else if o = 8 ∨ o = 9 then
    let ab := fbit (e.w 8) 26
    let es := fld (e.w 8) 0 17
    fStream h || csumBad || auxBad || !hiZero (w 2) || !hiZero (w 3) || !hiZero (w 4) ||
    decide (fld (e.w 5) 32 32 ≠ 0) || decide (fld (e.w 6) 47 17 ≠ 0) || decide (fld (e.w 7) 40 24 ≠ 0) ||
    decide (es = 0 ∨ 65536 < es) || decide (fld (e.w 8) 17 7 ≠ 0) || decide (fld (e.w 8) 28 36 ≠ 0) ||
    decide (w 9 ≠ 0) || decide (2 ≤ fld (e.w 8) 24 2) ||
    (if ab then decide (fld (e.w 8) 24 2 = 0) || decide (w 3 ≠ 0) || decide (w 6 ≠ 0) || decide (w 7 ≠ 0)
     else decide (w 6 > 2 ^ 46) || decide (w 7 = 0 ∨ 2 ^ 40 < w 7))
  else if o = 10 then
    let ab := fbit (e.w 10) 28
    fStream h || decide (w 1 ≠ 0) || !hiZero (w 2) || !hiZero (w 3) || !hiZero (w 4) || !hiZero (w 5) || !hiZero (w 6) ||
    decide (fld (e.w 8) 47 17 ≠ 0) || decide (fld (e.w 9) 40 24 ≠ 0) || decide (fld (e.w 10) 32 32 ≠ 0) ||
    decide (w 11 ≠ 0) || decide (2 ≤ fld (e.w 10) 26 2) ||
    (if ab then decide (fld (e.w 10) 26 2 = 0) || decide (w 4 ≠ 0) || decide (w 8 ≠ 0) || decide (w 9 ≠ 0)
     else decide (w 8 > 2 ^ 46) || decide (w 9 = 0 ∨ 2 ^ 40 < w 9))
  else if o = 0x10 then decide (w 3 ≠ 0) || decide (w 1 % 8 ≠ 0) || !hiZero (w 1)
  else if o = 0x12 then linkBad (e.w 1) (e.w 2) (e.w 3)
  else if o = 0x14 then decide (w 3 ≠ 0) || decide (w 1 ≠ 0) || decide (2 ≤ fld (e.w 2) 0 2) ||
    decide (fld (e.w 2) 2 6 ≠ 0) || decide (fld (e.w 2) 20 12 ≠ 0) ||
    (decide (fld (e.w 2) 0 2 = 0) && decide (fld (e.w 2) 16 4 ≠ 0))
  else false

/-- LENGTH of an entry of R108 to R110. -/
def Ent.length (e : Ent) : Nat :=
  let o := e.opc
  if o = 5 then (e.w 3).toNat else if o = 6 then fld (e.w 3) 0 47
  else if e.len16 = 2 then (e.w 1).toNat else (e.w 4).toNat

/-- Row bytes, output row bytes and row alignment of GREDUCE (R149). -/
def rowBytes (rcfg : Nat) : Nat :=
  let dim := bits rcfg 0 16
  let it := bits rcfg 16 4
  if it = 5 then dim + 4 else dim * elemBytes it
def outBytes (rcfg : Nat) : Nat := bits rcfg 0 16 * elemBytes (bits rcfg 20 4)
def rowAlign (it : Nat) : Nat := if it = 1 ∨ it = 2 then 2 else if it = 3 ∨ it = 4 then 1 else 4

/-- REDUCE_INVALID before any range is checked (R151): the code. -/
def reduceBad (e : Ent) : Option Nat :=
  let r := (e.w 10).toNat
  let it := bits r 16 4
  let ot := bits r 20 4
  let op := bits r 24 2
  let dim := bits r 0 16
  let okTypes := if it = 6 then (ot == 6 || ot == 0) && op != 3 else decide (it ≤ 5) && decide (ot ≤ 4)
  if !okTypes then some 1
  else if dim = 0 ∨ 16384 < dim ∨ (it = 5 ∧ dim % 4 ≠ 0) then some 2
  else if (op = 3 ∧ (e.w 6).toNat = 0) ∨ (op ≠ 3 ∧ (e.w 6).toNat ≠ 0) then some 3
  else none

/-- The offending address of an alignment failure (R113, R139, R147, R149). -/
def alignBad (e : Ent) : AlignR :=
  let h := e.hdr
  let o := e.opc
  let w := fun i => (e.w i).toNat
  let len := e.length
  if (o = 1 ∧ fStream h) then
    if w 3 % 64 ≠ 0 then some (w 3) else if len % 64 ≠ 0 then some (w 3 + len) else none
  else if (o = 3 ∧ w 3 = 1) then
    if w 2 % 64 ≠ 0 then some (w 2) else if len % 64 ≠ 0 then some (w 2 + len) else none
  else if o = 6 then
    let nd := fld (e.w 3) 48 4
    let ds := (List.range nd).map (fun i => w (4 + i))
    match (if fStream h then ds.find? (fun d => d % 64 != 0) else none) with
    | some d => some d
    | none =>
      match ds.find? (fun d => d % 64 != w 4 % 64) with
      | some d => some d
      | none => if fStream h ∧ len % 64 ≠ 0 then some (w 4 + len) else none
  else if o = 8 ∨ o = 9 then
    let iw := if fld (e.w 8) 24 2 = 0 then 4 else 8
    if w 2 % iw ≠ 0 then some (w 2) else none
  else if o = 10 then
    let r := (e.w 10).toNat
    let iw := if bits r 26 2 = 0 then 4 else 8
    let al := rowAlign (bits r 16 4)
    if w 2 % iw ≠ 0 then some (w 2)
    else if w 3 % iw ≠ 0 then some (w 3)
    else if w 6 % 4 ≠ 0 then some (w 6)
    else if w 4 % al ≠ 0 ∨ w 8 % al ≠ 0 then some (w 4)
    else if w 5 % elemBytes (bits r 20 4) ≠ 0 then some (w 5)
    else none
  else none

/-- The ranges of an entry in the order of R116, R144 and R150. -/
def Ent.ranges (e : Ent) : List Chk :=
  let h := e.hdr
  let o := e.opc
  let w := fun i => (e.w i).toNat
  let len := e.length
  let cs : List Chk := if fCsum h then [⟨w 1, 8, fCont h, true, 2, 3⟩] else []
  if o = 1 then [⟨w 2, len, true, false, 0, 0⟩, ⟨w 3, len, false, true, 1, 1⟩] ++ cs
  else if o = 2 then [⟨w 2, len, false, true, 1, 1⟩] ++ cs
  else if o = 3 then [⟨w 2, len, decide (w 3 = 1), true, 1, 1⟩] ++ cs
  else if o = 4 then [⟨w 2, len, true, false, 0, 0⟩, ⟨w 3, len, true, false, 1, 0⟩] ++ cs
  else if o = 5 then [⟨w 2, len, true, false, 0, 0⟩] ++ cs
  else if o = 6 then
    [⟨w 2, len, true, false, 0, 0⟩] ++
    (List.range (fld (e.w 3) 48 4)).map (fun i => ⟨w (4 + i), len, false, true, 0x10 + i, 1⟩) ++ cs
  else if o = 8 ∨ o = 9 then
    let iw := if fld (e.w 8) 24 2 = 0 then 4 else 8
    let cnt := fld (e.w 5) 0 32
    let es := fld (e.w 8) 0 17
    let g := o == 8
    [⟨w 2, cnt * iw, true, false, 4, 2⟩] ++
    (if fbit (e.w 8) 26 then [] else [⟨w 3, (w 7 - 1) * w 6 + es, g, !g, 7, if g then 0 else 1⟩]) ++
    [⟨w 4, cnt * es, !g, g, if g then 1 else 0, if g then 1 else 0⟩] ++ cs
  else if o = 10 then
    let r := (e.w 10).toNat
    let iw := if bits r 26 2 = 0 then 4 else 8
    let nb := fld (e.w 7) 0 32
    let ni := fld (e.w 7) 32 32
    [⟨w 2, ni * iw, true, false, 4, 2⟩, ⟨w 3, (nb + 1) * iw, true, false, 5, 2⟩] ++
    (if bits r 24 2 = 3 then [⟨w 6, ni * 4, true, false, 6, 2⟩] else []) ++
    (if bit r 28 then [] else [⟨w 4, (w 9 - 1) * w 8 + rowBytes r, true, false, 7, 0⟩]) ++
    [⟨w 5, nb * outBytes r, false, true, 1, 1⟩]
  else if o = 0x10 then (if w 1 = 0 then [] else [⟨w 1, 8, false, true, 3, 3⟩])
  else []

/-- Overlaps and spans that make a gather, scatter or reduce entry MALFORMED (R144, R150). -/
def rangesBad (e : Ent) : Bool :=
  let rs := e.ranges
  let o := e.opc
  let meets := fun (x : Chk) (ys : List Chk) => ys.any (fun y => overlap x.a x.len y.a y.len)
  if o = 8 then
    rs.any (fun r => r.code == 7 && decide (r.a + r.len > 2 ^ 52)) ||
    rs.any (fun r => r.code == 1 && meets r (rs.filter (fun y => y.code == 4 || y.code == 7)))
  else if o = 9 then
    rs.any (fun r => r.code == 7 && decide (r.a + r.len > 2 ^ 52)) ||
    rs.any (fun r => r.code == 7 && meets r (rs.filter (fun y => y.code == 4 || y.code == 0)))
  else if o = 10 then
    rs.any (fun r => r.code == 7 && decide (r.a + r.len > 2 ^ 52)) ||
    rs.any (fun r => r.code == 1 && meets r (rs.filter (fun y => y.code != 1)))
  else false

/-- Nothing to do (R114): LENGTH, COUNT or NBAGS of 0. -/
def Ent.isZero (e : Ent) : Bool :=
  let o := e.opc
  if o ≤ 6 then decide (e.length = 0)
  else if o = 8 ∨ o = 9 then decide (fld (e.w 5) 0 32 = 0)
  else if o = 10 then decide (fld (e.w 7) 0 32 = 0)
  else false

/-- Segments or bag groups of an entry (R16, R146, R159). -/
def segCount (o len esize rcfg : Nat) : Nat :=
  if o ≤ 6 then ceilDiv len 262144
  else if o = 10 then ceilDiv len (max 1 (262144 / (64 * ceilDiv (bits rcfg 0 16) 16)))
  else ceilDiv len (max 1 (262144 / esize))

/-- The job of an admitted data entry. -/
def mkJob (s : State) (qid : Nat) (q : Queue) (e : Ent) (rs : List (Chk × Rng × Nat)) : Job :=
  let o := e.opc
  let h := e.hdr
  let role := fun k => (rs.filter (fun x => x.1.role == k)).map (fun x => x.2.1)
  let r := if o = 10 then (e.w 10).toNat else 0
  let g := o == 8 || o == 9
  let len := if g then fld (e.w 5) 0 32 else if o = 10 then fld (e.w 7) 0 32 else e.length
  let es := if g then fld (e.w 8) 0 17 else 0
  { q := qid, op := o, tag := e.tag, flags := h, tenant := q.tenant, len := len,
    srcs := role 0, dsts := role 1, tabs := role 2, csumR := (role 3).head?,
    pat := if o = 2 then e.w 3 else 0, verify := o == 3 && decide ((e.w 3).toNat = 1),
    stream := fStream h && (o == 1 || o == 6), coh := fCoh h, alg := if fCsum h then fAlg h else 0, cont := fCont h,
    ph := if fCont h then 0 else 2,
    segs := segCount o len es r,
    esize := es,
    iw := if g then (if fld (e.w 8) 24 2 = 0 then 4 else 8) else if bits r 26 2 = 0 then 4 else 8,
    stride := if g then (e.w 6).toNat else if o = 10 then (e.w 8).toNat else 0,
    nrows := if g then (e.w 7).toNat else if o = 10 then (e.w 9).toNat else 0,
    abs := if g then fbit (e.w 8) 26 else bit r 28,
    oorSkip := if g then fbit (e.w 8) 27 else bit r 29,
    rcfg := r, nidx := if o = 10 then fld (e.w 7) 32 32 else 0,
    adm := s.nextId,
    wins := if (g && fbit (e.w 8) 26) || (o == 10 && bit r 28) then
      s.wins.filter (fun w => w.2.tenant == q.tenant) else [] }

/-- INFO[0] of an entry that stored no checksum (R134, R164). -/
def Ent.noCsum (e : Ent) : Nat := if fCsum e.hdr && e.opc != 10 then 1 else 0

/-- The admission checks of a data entry in their order. DESIGN CHOICE (log entry 79): alignment is tested before LENGTH,
COUNT or NBAGS of 0, so a misaligned entry with nothing to do completes with ALIGNMENT. A range on a DOWN port holds the
queue (R234), wherever the entry would run. The owner of a forwarded entry repeats the checks and runs it, whichever
Stations its windows name (R132, R365). -/
def judgeAt (owner : Bool) (s : State) (qid : Nat) (q : Queue) (e : Ent) : Adm :=
  let csi : Nat := e.noCsum
  if e.bad.isSome || bodyBad e then .done 0x17 csi 0
  else match (if e.opc = 10 then reduceBad e else none) with
  | some c => .done 0x1B (c * 256) 0
  | none =>
  match alignBad e with
  | some a => .done 0x16 csi (BitVec.ofNat 64 a)
  | none =>
  if rangesBad e then .done 0x17 csi 0
  else if e.isZero then .done 0 csi 0
  else match checkRanges s q.tenant (fCoh e.hdr) e.ranges with
  | .error (a, code) => .done 0x15 (code * 256 + csi) (BitVec.ofNat 64 a)
  | .ok rs =>
    let remote := if owner then [] else rs.filter (fun x => x.2.2 != s.stn.id)
    match remote.find? (fun x => some x.2.2 != (remote.head?.map (·.2.2))) with
    | some x => .done 0x15 (x.1.code * 256 + csi) (BitVec.ofNat 64 x.1.a)
    | none =>
      match rs.find? (fun x => !s.portUp x.2.1.port) with
      | some x => .down (x.2.1.port.getD 0)
      | none =>
        match remote.head? with
        | none => .run (mkJob s qid q e rs)
        | some r0 => .fwd r0.2.2 (mkJob s qid q e rs)

/-- The admission checks at the Station of the queue. -/
def judgeEntry (s : State) (qid : Nat) (q : Queue) (e : Ent) : Adm := judgeAt false s qid q e

end Sys2Proof.Machine
end

