-- ==== Sys2Proof/Machine/Timetable.lean ====
section
/-! DEFINITION. The Timetable (chapter 2): ticks, budgets, gates, reservations, limiters, grants, high-water marks. -/

namespace Sys2Proof.Machine

/-! ### Ticks (R36 to R39) -/

/-- Tick length of a LEN code, in ps. -/
def tickPs (len : Nat) : Nat := 250000 * 2 ^ len

/-- The first boundary of R36 later than t, with the Line correction in the phase p. -/
def bndAfter (len : Nat) (p : Int) (t : Nat) : Nat :=
  let T : Int := (tickPs len : Int)
  (p + max 0 (((t : Int) - p) / T + 1) * T).toNat

/-- The first boundary of R36 at or after t. -/
def bndFrom (len : Nat) (p : Int) (t : Nat) : Nat :=
  let T : Int := (tickPs len : Int)
  (p + max 0 (-((p - (t : Int)) / T)) * T).toNat

/-- The tick number R36 gives at t, with the Line correction in the phase p. -/
def tickNumIn (len : Nat) (p : Int) (t : Nat) : Nat := (((t : Int) - p) / (tickPs len : Int)).toNat

/-- PHASE and the Line correction, ps. -/
def State.phasePs (s : State) (phase : Nat) : Int := (phase * 1000 : Nat) + s.stn.corr

def State.T (s : State) : Nat := tickPs s.tt.len

/-- Length of the tick in progress, ps. -/
def State.tickLen (s : State) : Nat := s.tt.tickEnd - s.tt.tickStart

/-- Time left in the tick, ps. -/
def State.timeLeft (s : State) : Nat := s.tt.tickEnd - s.tt.time

/-! ### Gates (R55 to R58) -/

/-- Sum of DURATION up to the first entry with LAST, if the list is well formed (R55); the fuel is 1,024 entries. -/
def gateCycle (bank : Tbl (Word × Word)) : Nat → Nat → Option Nat
  | 0, _ => none
  | n + 1, i =>
    let e := Tbl.getD i (0, 0) bank
    let d := fld e.1 32 32
    if d = 0 ∨ d > 65536 ∨ fld e.1 16 16 ≠ 0 ∨ fld e.2 1 63 ≠ 0 then none
    else if fbit e.2 0 then some d
    else (gateCycle bank n (i + 1)).map (· + d)

/-- The entry in force at position p of the cycle, and its index. -/
def gateAt (bank : Tbl (Word × Word)) : Nat → Nat → Nat → Nat × (Word × Word)
  | 0, i, _ => (i, Tbl.getD i (0, 0) bank)
  | n + 1, i, p =>
    let e := Tbl.getD i (0, 0) bank
    let d := fld e.1 32 32
    if p < d ∨ fbit e.2 0 then (i, e) else gateAt bank n (i + 1) (p - d)

def State.gate (s : State) (c : Nat) : Gate := s.tt.gates.getD c {}

/-- Position in the cycle: ticks since the list took effect, modulo the cycle. -/
def State.gatePos (s : State) (c : Nat) : Nat :=
  (((s.tt.tickNum : Int) - (s.gate c).tBase) % ((s.gate c).cycle : Int)).toNat

def State.gateNow (s : State) (c : Nat) : Nat × (Word × Word) :=
  gateAt ((s.gate c).banks.getD (s.gate c).active []) 1024 0 (s.gatePos c)

/-- Whether the gate of class c is open on XA n in a direction. With no list in force the gates are open. -/
def State.gateOpen (s : State) (c n : Nat) (rd : Bool) : Bool :=
  if !(s.gate c).enable || !(s.gate c).inForce then true
  else fbit (s.gateNow c).2.1 (if rd then n else 8 + n)

/-! ### Budgets (R40, R44 to R48) -/

/-- B = floor(2 f T) for a tick of T ps. -/
def budgetB (freqMhz tPs : Nat) : Nat := 2 * freqMhz * tPs / 1000000

def State.pool (s : State) (n : Nat) (rd : Bool) : Pool := s.tt.pools.getD (2 * n + (if rd then 0 else 1)) {}
def State.updPool (s : State) (n : Nat) (rd : Bool) (f : Pool → Pool) : State :=
  { s with tt := { s.tt with pools := updAt (2 * n + (if rd then 0 else 1)) f s.tt.pools } }

/-- Share of a reservation on one member, in a direction. -/
def Resv.share (r : Resv) (rd : Bool) : Nat := if rd then r.rRd else r.rWr

/-- r = ceil(ceil(Q / 64) / k) (R50). -/
def shareOf (q xset : Nat) : Nat :=
  let k := ((List.range 8).filter (fun n => xset.testBit n)).length
  ceilDiv (ceilDiv q 64) (max 1 k)

/-- The sum of shares on an attachment and direction over a list of reservations. -/
def sumShares (rs : List Resv) (n : Nat) (rd : Bool) : Nat :=
  (rs.filter (fun r => r.xset.testBit n)).foldl (fun a r => a + r.share rd) 0

/-- A reservation is suspended while a member of its attachment set is fenced or off; its stream is served as Freight on
the others (Dependencies and fencing). -/
def State.suspended (s : State) (r : Resv) : Bool :=
  (List.range 8).any (fun n => r.xset.testBit n && (s.xaFenced n || !s.isOn (domXa n)))

/-- The credits of one attachment and direction for the tick that begins (R40, R44, R47, R56). A reservation whose gate is
closed is not owed: its share counts as 0. -/
def State.newPool (s : State) (n : Nat) (rd : Bool) : Pool :=
  let old := s.pool n rd
  if s.xaUsable n then
    let b := budgetB (s.xaFreq n) s.T
    let f := ceilDiv b 64
    let owed := s.gateOpen 1 n rd
    let shares : Tbl Nat :=
      (s.tt.resv.filter (fun p => p.2.live && !s.suspended p.2 && p.2.xset.testBit n && decide (0 < p.2.share rd))).map
        (fun p => (p.1, if owed then p.2.share rd else 0))
    let sum := shares.foldl (fun a p => a + p.2) 0
    let sh := b - f - sum
    { old with b := b, floor := f, shares := shares, shared := sh, xLeft := min (s.tt.cap * b / 64) sh,
               engLeft := s.tt.ceil * b / 64, released := false }
  else { old with b := 0, floor := 0, shares := [], shared := 0, xLeft := 0, engLeft := 0, released := false }

def State.newPools (s : State) : State :=
  { s with tt := { s.tt with
      pools := (List.range 16).map (fun i => s.newPool (i / 2) (i % 2 == 0)) } }

/-- N_MAX (R51), T and CORE as programmed. -/
def State.resMax (s : State) : Nat :=
  let tbl := if s.tt.len = 0 then 1024 else if s.tt.len = 1 then 2048 else 4096
  min tbl (4 * (s.T * s.pwr.coreMhz / 1000000 - 96))

/-- Length of a scheduling pass over N reservations, CORE cycles (R51). -/
def passLen (n : Nat) : Nat := 96 + ceilDiv n 4

/-- A reservation of these figures. -/
def mkResv (qrd qwr xset : Nat) : Resv :=
  { qrd := qrd, qwr := qwr, xset := xset, rRd := shareOf qrd xset, rWr := shareOf qwr xset }

/-- The reservation as admission judges it: with a change that is waiting for the boundary made (R331). -/
def Resv.judged (r : Resv) : Resv :=
  match r.next with
  | none => r
  | some n => { mkResv n.1 n.2.1 n.2.2 with live := r.live }

/-- Whether a reservation is admitted (R50) against a set of others. -/
def State.resvFits (s : State) (others : Tbl Resv) (r : Resv) : Bool :=
  decide (others.length + 1 ≤ s.resMax) &&
  (List.range 8).all (fun n =>
    !r.xset.testBit n ||
    ([true, false].all (fun rd =>
      decide (sumShares ((Tbl.vals others).map Resv.judged) n rd + r.share rd ≤ s.tt.limit * budgetB (s.xaFreq n) s.T / 100))))

/-- TTB_ADMIT.OVER (R52). -/
def State.admitOver (s : State) : Bool :=
  (List.range 8).any (fun n => [true, false].any (fun rd =>
    decide (sumShares ((Tbl.vals s.tt.resv).map Resv.judged) n rd > s.tt.limit * budgetB (s.xaFreq n) s.T / 100)))

/-! ### Limiters (R59 to R64) -/

def Limiter.rate (l : Limiter) : Nat := fld l.cfg 0 20
def Limiter.enable (l : Limiter) : Bool := fbit l.cfg 20
def Limiter.dir (l : Limiter) : Nat := fld l.cfg 21 2
def Limiter.adapt (l : Limiter) : Bool := fbit l.cfg 23
def Limiter.k (l : Limiter) : Nat := fld l.cfg 24 4
/-- Depth in 1/256 B. -/
def Limiter.depth (l : Limiter) : Int := ((4096 * 2 ^ (fld l.cfg 28 4) * 256 : Nat) : Int)
def Limiter.ovh (l : Limiter) : Nat := fld l.cfg 32 8
def Limiter.stepU (l : Limiter) : Nat := fld l.cfg 40 20

/-- Whether the limiter counts a direction. -/
def Limiter.counts (l : Limiter) (rd : Bool) : Bool :=
  l.enable && (decide (l.dir = 2) || (if rd then decide (l.dir = 0) else decide (l.dir = 1)))

/-- Refill of E (1/256 share unit) over a tick of T ps, in 1/256 B: 3.125 B per share unit and µs. DESIGN CHOICE (log
entry 19): what lies below 1/256 B is cut off. -/
def refillOf (e tPs : Nat) : Int := ((e * 3125 * tPs / 1000000000 : Nat) : Int)

/-- Put a limiter whose tokens are not positive on the wheel (R61), in the slot of the tick whose refill helps; the next
refill uses the E of this tick (R62). -/
def Limiter.slot (l : Limiter) (ticks tPs : Nat) : Limiter :=
  if l.tok > 0 then { l with wheel := none }
  else
    let t := l.tok + refillOf l.eTick tPs
    let r := refillOf l.e tPs
    let n := if t > 0 then 1 else if r = 0 then 1023 else 2 + ((-t) / r).toNat
    { l with wheel := some (ticks + min 1023 n) }

/-- E after a tick (R64). -/
def Limiter.adaptE (l : Limiter) : Nat :=
  if !l.adapt then l.rate * 256
  else if l.rate = 0 then 0
  else
    let e := if l.marked then l.e * (2 ^ l.k - 1) / 2 ^ l.k else min (l.rate * 256) (l.e + l.stepU * 256)
    max 256 (min e (l.rate * 256))

/-- A limiter at a boundary: refill at the E of the tick that ends, adaptation, the wheel. -/
def Limiter.boundary (l : Limiter) (ticks tPs lenPs : Nat) : Limiter :=
  let tok := min l.depth (l.tok + refillOf l.eTick lenPs)
  let e := l.adaptE
  let l' := { l with tok := tok, e := e, eTick := e, lastMarked := l.marked, marked := false }
  match l.wheel with
  | none => if l.tok > 0 then l' else l'.slot ticks tPs
  | some w => if w ≤ ticks ∨ e ≠ l.e then l'.slot ticks tPs else l'

/-- The effect on a limiter of a write to TTB_LIMCFG (R62, R64). DESIGN CHOICE (log entry 69): a write that raises RATE
from 0 with ADAPT 1 before and after leaves E at min(E, RATE) = 0, as R64's write rule gives it, until the next boundary
lifts it to 1 share unit. -/
def Limiter.write (l : Limiter) (v : Word) (ticks tPs : Nat) : Limiter :=
  let l1 := { l with cfg := v }
  let e := if !l1.adapt then l1.rate * 256
           else if !l.adapt then l1.rate * 256
           else min l.e (l1.rate * 256)
  let l2 := { l1 with e := e, tok := if l.tok > 0 then min l.tok l1.depth else l.tok }
  if l.wheel.isSome ∨ l2.tok ≤ 0 then l2.slot ticks tPs else l2

/-- TTB_LIMCTL.ZERO (R63): a grant of the same CORE cycle is applied after it. -/
def Limiter.zero (l : Limiter) (ticks tPs clk : Nat) : Limiter :=
  ({ l with tok := 0, zeroAt := if l.tok > 0 ∧ l.wheel.isNone then some clk else none }).slot ticks tPs
def Limiter.fill (l : Limiter) : Limiter := { l with tok := l.depth, wheel := none, zeroAt := none }
def Limiter.resetAdapt (l : Limiter) (ticks tPs : Nat) : Limiter :=
  let l' := { l with e := l.rate * 256 }
  if l.wheel.isSome then l'.slot ticks tPs else l'

/-- The values a TTB_LIMCFG write may hold. -/
def limCfgOk (v : Word) : Bool :=
  decide (fld v 21 2 ≠ 3) && decide (fld v 28 4 ≤ 12) &&
  (!fbit v 23 || (decide (1 ≤ fld v 24 4) && decide (fld v 24 4 ≤ 8)))

def State.limiter (s : State) (i : Nat) : Limiter := Tbl.getD i {} s.tt.lims
def State.setLimiter (s : State) (i : Nat) (l : Limiter) : State :=
  { s with tt := { s.tt with lims := Tbl.put i l s.tt.lims } }

/-- TTB_LIMSTAT of a limiter. -/
def Limiter.stat (l : Limiter) : Word :=
  mkWord [(0, 40, unsign (l.tok / 256) 40), (40, 20, l.e / 256), (60, 1, b2n (decide (l.tok ≤ 0 ∧ l.wheel.isSome))),
          (61, 1, b2n l.lastMarked)]

/-! ### Grants (R22, R25, R41 to R48) -/

/-- Payload of a line operation (R301). -/
def LineOp.payload (rd : Bool) (o : LineOp) : Nat :=
  if rd then 64 else ((List.range 64).filter (fun i => o.mask.toNat.testBit i)).length

def Burst.payload (b : Burst) : Nat := b.lines.foldl (fun a o => a + o.payload b.rd) 0

/-- Tags of an attachment and direction in use: outstanding or quarantined (R66, R239). -/
def State.tagsOut (s : State) (n : Nat) (rd : Bool) : Nat :=
  (s.txns.filter (fun t => t.xa == n && t.rd == rd)).length + (s.quar.filter (fun t => t.xa == n && t.rd == rd)).length

/-- Lines granted and not yet issued, of the bursts that satisfy a test. -/
def State.linesGranted (s : State) (f : Burst → Bool) : Nat :=
  (s.granted.filter f).foldl (fun a b => a + b.lines.length) 0

/-- Tags in use or promised to granted bursts. -/
def State.tagsUsed (s : State) (n : Nat) (rd : Bool) : Nat :=
  s.tagsOut n rd + s.linesGranted (fun b => b.xa == n && b.rd == rd)

/-- Of those, the ones of grants out of reservations. -/
def State.tagsResv (s : State) (n : Nat) (rd : Bool) : Nat :=
  (s.txns.filter (fun t => t.xa == n && t.rd == rd && t.rs)).length +
  s.linesGranted (fun b => b.xa == n && b.rd == rd && b.rs)

def tagTotal (rd : Bool) : Nat := if rd then 8192 else 4096

/-- Tags held for grants out of reservations (R42). -/
def State.tagsHeld (s : State) (n : Nat) (rd : Bool) : Nat :=
  min (sumShares ((Tbl.vals s.tt.resv).filter (fun r => r.live && !s.suspended r)) n rd) (if rd then 4096 else 2048)

/-- Free tags cover every line of the burst (R41, R42). -/
def State.tagsFit (s : State) (n : Nat) (rd rs : Bool) (k : Nat) : Bool :=
  if rs then decide (s.tagsUsed n rd + k ≤ tagTotal rd)
  else decide (s.tagsUsed n rd + k ≤ tagTotal rd) &&
       decide (s.tagsUsed n rd - s.tagsResv n rd + k ≤ tagTotal rd - s.tagsHeld n rd)

/-- The attachment horizon and the Mover horizon (R41). -/
def State.horizonFit (s : State) (b : Burst) (n : Nat) : Bool :=
  decide ((s.linesGranted (fun c => c.xa == n && c.rd == b.rd) + b.lines.length) * 1000000 ≤ 2 * s.xaFreq n * s.timeLeft) &&
  (match b.mover with
   | none => true
   | some m => decide ((s.linesGranted (fun c => c.mover == some m) + b.lines.length) * 2000000 ≤ s.pwr.coreMhz * s.timeLeft))

/-- How a burst would be paid for on an attachment. -/
inductive Pay where
  | conj | express | share | freight | eng (fromFloor : Nat)
deriving DecidableEq, Repr

/-- Whether the stream holds a share in this direction on some usable member of the set (R45). -/
def State.hasShare (s : State) (b : Burst) : Bool :=
  match b.resv with
  | none => false
  | some r =>
    match Tbl.get r s.tt.resv with
    | none => false
    | some v => decide (0 < v.share b.rd) && !s.suspended v &&
        (List.range 8).any (fun n => b.xset.testBit n && v.xset.testBit n && s.xaUsable n)

/-- The limiter of a burst holds it back (R59, R61): it counts the direction, and its tokens are not positive or it is on
the wheel. A grant in the cycle of a ZERO is judged by the tokens before it (R63, R65). -/
def State.limHeld (s : State) (b : Burst) : Bool :=
  match b.lim with
  | none => false
  | some i =>
    let l := s.limiter i
    l.counts b.rd && !(decide (l.tok > 0) && l.wheel.isNone) && l.zeroAt != some s.clk

/-- The limiter lets the burst pass. Grants out of a reservation and the Conjunction copy are not judged. -/
def State.limPass (s : State) (b : Burst) (p : Pay) : Bool := p == .share || p == .conj || !s.limHeld b

/-- What a stream's share still holds on a member, before its release at the reclaim point (R45, R48). -/
def State.shareLeft (s : State) (b : Burst) (n : Nat) : Nat := Tbl.getD (b.resv.getD 0) 0 (s.pool n b.rd).shares

/-- Whether a Timetabled burst is overflow, or of a stream without a share (R45): more lines than its share has left on
every member it may use. -/
def State.overflows (s : State) (b : Burst) : Bool :=
  !s.hasShare b || !(List.range 8).any (fun n => b.xset.testBit n && s.xaUsable n && decide (b.lines.length ≤ s.shareLeft b n))

/-- Remaining credit of the burst's class on a member (R25). DESIGN CHOICE (log entry 70): a member whose gate is closed
for the class counts as holding no credit of it, but for the Engineering floor, which a closed gate leaves (R56). -/
def State.creditOn (s : State) (b : Burst) (n : Nat) : Nat :=
  let p := s.pool n b.rd
  let freight := if s.gateOpen 2 n b.rd then p.shared else 0
  if b.cls = 0 then (if s.gateOpen 0 n b.rd then (if b.conj then p.shared else min p.shared p.xLeft) else 0)
  else if b.cls = 1 then (if s.overflows b then freight else if p.released then 0 else s.shareLeft b n)
  else if b.cls = 2 then freight
  else p.floor + (if s.gateOpen 3 n b.rd then min p.shared p.engLeft else 0)

/-- The member of the set with the most remaining credit, lowest-numbered among equals (R25). -/
def State.chooseXa (s : State) (b : Burst) : Option Nat :=
  let ms := (List.range 8).filter (fun n => b.xset.testBit n && s.xaUsable n)
  ms.foldl (fun a n => match a with
    | none => some n
    | some m => if s.creditOn b n > s.creditOn b m then some n else some m) none

/-- Engineering above the floor is served only when no Express or Freight request is pending on that attachment and
direction (R47): one that would go there, and whose limiter is not on the wheel (R61). -/
def State.frontPending (s : State) (n : Nat) (rd : Bool) : Bool :=
  s.bursts.any (fun b => b.rd == rd && (b.cls == 0 || b.cls == 2 || (b.cls == 1 && s.overflows b)) &&
    s.chooseXa b == some n && (b.conj || !s.limHeld b))

/-- The way the burst is paid for on attachment n, if its class and credit allow (R22 items 1 and 2, R44 to R48). The
Conjunction copy runs as Express (R185), free of the cap and the limiter only (R179). -/
def State.payOn (s : State) (b : Burst) (n : Nat) : Option Pay :=
  let p := s.pool n b.rd
  let k := b.lines.length
  let freight := if s.gateOpen 2 n b.rd && decide (k ≤ p.shared) then some Pay.freight else none
  if b.conj then (if s.gateOpen 0 n b.rd && decide (k ≤ p.shared) then some .conj else none)
  else if b.cls = 0 then
    if s.gateOpen 0 n b.rd && decide (k ≤ p.shared) && decide (k ≤ p.xLeft) then some .express else none
  else if b.cls = 1 then
    if !s.hasShare b then freight
    else if !Tbl.has (b.resv.getD 0) p.shares then none
    else if k ≤ s.shareLeft b n then (if p.released then none else some .share)
    else if s.tt.overflow then freight else none
  else if b.cls = 2 then freight
  else
    let f := min p.floor k
    if f = k then some (.eng f)
    else if s.gateOpen 3 n b.rd && !s.frontPending n b.rd && decide (k - f ≤ p.shared) && decide (k ≤ p.engLeft)
    then some (.eng f) else none

/-- A burst whose range meets a held range is not granted, except the holder's own copy (R179). -/
def State.withheld (s : State) (b : Burst) : Bool :=
  s.holds.any (fun h => b.win ≠ some h.hid &&
    b.lines.any (fun o => decide (h.line ≤ o.line) && decide (o.line < h.line + h.lines)))

/-- A write of the block to the line is outstanding, granted, or may still land (R378, R239). -/
def State.lineBusy (s : State) (line : Nat) : Bool :=
  s.txns.any (fun t => !t.rd && t.op.line == line) || s.quar.any (fun t => !t.rd && t.line == line) ||
  s.granted.any (fun b => !b.rd && b.lines.any (fun o => o.line == line))

/-- Bursts of one work item: of the same work, or of the same owner where no work item is behind them. -/
def Burst.sameItem (b c : Burst) : Bool :=
  if b.own.k == OwnK.work then c.own.k == OwnK.work && c.own.a == b.own.a else c.own == b.own

/-- Bursts of a hardware channel. -/
def State.ofChannel (s : State) (b : Burst) : Bool :=
  b.own.k == OwnK.chFetch || b.own.k == OwnK.chWb ||
  (b.own.k == OwnK.work && ((Tbl.get b.own.a s.works).map (·.who)) == some 1)

/-- The mode lets the burst go out (R22 item 4); no burst of a channel in CONFIGURE (R197, R403). -/
def State.burstMode (s : State) (b : Burst) : Bool :=
  s.mode.grants && !(s.mode == .configure && s.ofChannel b)

/-- The attachment and payment with which a waiting burst can be granted now, apart from the order of R43. Lines that a
fenced attachment gave back go ahead of every other burst of their work item (R443). -/
def State.grantable (s : State) (b : Burst) : Option (Nat × Pay) :=
  match s.chooseXa b with
  | none => none
  | some n =>
    match s.payOn b n with
    | none => none
    | some p =>
      if s.burstMode b && s.isOn domTT && s.tt.running && s.portUp b.port && !s.withheld b &&
         s.limPass b p && s.tagsFit n b.rd (p == .share) b.lines.length && s.horizonFit b n &&
         (b.rd || b.lines.all (fun o => !s.lineBusy o.line)) &&
         (b.front || !s.bursts.any (fun c => c.front && b.sameItem c))
      then some (n, p) else none

/-- Service rank of R43: the Conjunction copy, Express, reservations, Freight and overflow, Engineering. -/
def Pay.rank : Pay → Nat
  | .conj => 0 | .express => 1 | .share => 2 | .freight => 3 | .eng _ => 4

/-- Order of R252 among Engineering requesters: Dispatch Queue control traffic, telemetry records, the rest. -/
def Burst.engRank (b : Burst) : Nat :=
  if decide (0x2000 ≤ b.rq) && decide (b.rq < 0x2200) then 0 else if b.own.k = .feedW then 1 else 2

/-- Cyclic order after `last`: the keys above it first, then the others, each lowest first. -/
def cyc (last key : Nat) : Nat := if last < key then key else 2 ^ 64 + key

/-- Turn of an MCOPY destination at its Mover (R129, R136): after the one served last; lowest first to begin with. -/
def State.dstKey (s : State) (b : Burst) : Nat :=
  match Tbl.get b.own.a s.works with
  | some w => (match w.dstLast with | some l => cyc l b.own.b | none => b.own.b)
  | none => 0

/-- Write bursts of one work item of a queue. -/
def State.sameDsts (s : State) (b c : Burst) : Bool :=
  b.own.k == OwnK.work && !b.rd && !c.rd && b.sameItem c && ((Tbl.get b.own.a s.works).map (·.who)) == some 0

/-- The Freight level served next by deficit-weighted round robin: the candidates with their next burst's lines. -/
def drrPick (p : Pool) (weights : List Nat) (cand : List (Nat × Nat)) : Nat × List Nat :=
  let w := fun l => max 1 (weights.getD l 1)
  let need := fun (c : Nat × Nat) => ceilDiv (c.2 - p.deficit.getD c.1 0) (w c.1)
  let k := (cand.map need).foldl min 1000000
  let d := (List.range 8).map (fun l =>
    if cand.any (fun c => c.1 == l) then p.deficit.getD l 0 + k * w l else 0)
  let ok := cand.filter (fun c => decide (c.2 ≤ d.getD c.1 0))
  (((argmin (fun (c : Nat × Nat) => (c.1 + 8 - p.level) % 8) ok).map (·.1)).getD 0, d)

/-- The burst served next on an attachment and direction among the grantable ones (R43 to R47), destinations of one work
item apart. DESIGN CHOICE (log entry 71): Express requesters of one priority level take turns by queue number. -/
def State.pickItem (s : State) (n : Nat) (rd : Bool) : Option (Burst × Pay) :=
  let c := s.bursts.filterMap (fun b =>
    if b.rd == rd then (match s.grantable b with
      | some (m, p) => if m = n then some (b, p) else none
      | none => none) else none)
  let pl := s.pool n rd
  match argmin (fun (x : Burst × Pay) => x.2.rank) c with
  | none => none
  | some best =>
    let r := best.2.rank
    let c := c.filter (fun x => x.2.rank == r)
    if r = 1 then argmin (fun (x : Burst × Pay) => x.1.prio * 2 ^ 66 + cyc pl.xLast x.1.rq) c
    else if r = 2 then argmin (fun (x : Burst × Pay) => cyc pl.ttLast x.1.rq) c
    else if r = 3 then
      let first := fun l => argmin (fun (x : Burst × Pay) => cyc (pl.last.getD l 0) x.1.rq)
        (c.filter (fun x => x.1.prio == l))
      let cand := (List.range 8).filterMap (fun l => (first l).map (fun x => (l, x.1.lines.length)))
      first (drrPick pl s.tt.weights cand).1
    else if r = 4 then argmin (fun (x : Burst × Pay) => x.1.engRank * 2 ^ 66 + cyc (pl.engLast.getD x.1.engRank 0) x.1.rq) c
    else some best

/-- The burst served next, with the destinations of an MCOPY in their turn. -/
def State.pick (s : State) (n : Nat) (rd : Bool) : Option (Burst × Pay) :=
  match s.pickItem n rd with
  | none => none
  | some x =>
    argmin (fun (y : Burst × Pay) => s.dstKey y.1)
      (x :: (s.bursts.filter (fun c => s.sameDsts x.1 c)).filterMap (fun c =>
        match s.grantable c with
        | some (m, p) => if m = n ∧ p.rank = x.2.rank then some (c, p) else none
        | none => none))

/-- Another destination of the same work item could be granted now and comes before this one (R129, R136). -/
def State.dstLater (s : State) (b : Burst) : Bool :=
  s.bursts.any (fun c => s.sameDsts b c && decide (s.dstKey c < s.dstKey b) &&
    (match s.grantable c with
     | some (m, _) => ((s.pick m false).map (fun x => x.1.id)) == some c.id
     | none => false))

/-- Debit a grant (R22, R44 to R47, R59): credits, limiter, horizons. -/
def State.debit (s : State) (b : Burst) (n : Nat) (p : Pay) : State :=
  let k := b.lines.length
  let pl := s.pool n b.rd
  let s1 := s.updPool n b.rd (fun q =>
    match p with
    | .conj => { q with shared := q.shared - k }
    | .express => { q with shared := q.shared - k, xLeft := q.xLeft - k, xLast := b.rq }
    | .share => { q with shares := Tbl.upd (b.resv.getD 0) (· - k) q.shares, ttLast := b.rq }
    | .freight =>
      let cand := (List.range 8).filterMap (fun l =>
        let c := s.bursts.filter (fun x => x.rd == b.rd && x.prio == l &&
          (match s.grantable x with | some (m, q) => m == n && q == .freight | none => false))
        (argmin (fun (x : Burst) => cyc (pl.last.getD l 0) x.rq) c).map (fun x => (l, x.lines.length)))
      let d := (drrPick pl s.tt.weights cand).2
      { q with shared := q.shared - k, level := b.prio, deficit := setAt b.prio (d.getD b.prio 0 - k) d,
               last := setAt b.prio b.rq q.last }
    | .eng f => { q with floor := q.floor - f, shared := q.shared - (k - f), engLeft := q.engLeft - k,
                         engLast := setAt b.engRank b.rq q.engLast })
  match b.lim with
  | none => s1
  | some i =>
    let l := s1.limiter i
    if p = .share ∨ p = .conj ∨ !l.counts b.rd then s1
    else
      let cost : Int := (((b.payload + l.ovh) * 256 : Nat) : Int)
      let l' := { l with tok := l.tok - cost, zeroAt := none }
      s1.setLimiter i (if l'.tok > 0 then l' else l'.slot s1.tt.ticks s1.T)

/-- Release at the reclaim point (R48): what the shares still hold joins the shared pool. A burst that such a share would
have held waits for the next tick; one with more lines than it had left is overflow (R45). -/
def Pool.reclaim (p : Pool) : Pool :=
  let un := p.shares.foldl (fun a x => a + x.2) 0
  { p with shared := p.shared + un + p.floor, floor := 0, released := true }

/-! ### High-water marks (R66) -/

/-- Completions that hold Siding space: those waiting there, and those on their way to the ring whose write response has
not arrived (R96, R444). -/
def Ring.inSiding (r : Ring) : List Cpl := r.siding ++ (r.fly.map (·.2)).filter (·.sided)
/-- Siding slots a ring's completions hold, in 16 B slots. -/
def Ring.sidingSlots (r : Ring) : Nat := r.inSiding.length * (if r.e32 then 2 else 1)
/-- Claims and Siding completions of a ring, in completions; one that keeps its claim counts once (R96, R444). -/
def Ring.wants (r : Ring) : Nat := r.claims + (r.inSiding.filter (fun c => !c.claim)).length
/-- Its claims and Siding completions in slots. -/
def Ring.shareSlots (r : Ring) : Nat := r.wants * (if r.e32 then 2 else 1)

/-- The quantity of an index of TTB_HWMSEL. -/
def State.hwmVal (s : State) (i : Nat) : Nat :=
  if i = 0 then (Tbl.vals s.rings).foldl (fun a r => a + r.sidingSlots) 0
  else if i = 1 then s.tt.passCycles
  else if i < 10 then s.tagsOut (i - 2) true
  else if i < 18 then s.tagsOut (i - 10) false
  else if i = 18 then (Tbl.vals s.tt.lims).foldl (fun a l => max a ((-(l.tok / 256)).toNat)) 0
  else if i = 19 then s.tt.resv.length
  else if i = 20 then ((Tbl.vals s.works).filter (fun w => w.mover.isSome)).length
  else if i = 21 then (Tbl.vals s.queues).foldl (fun a q =>
    a + (q.ents.filter (fun e => e.ph == .seen && e.noPlace)).length) 0
  else 0

/-- Sample one mark: keep the peak; a crossing raises 0x082 once (R66). -/
def State.sample1 (s : State) (i : Nat) : State :=
  let v := s.hwmVal i
  let h := Tbl.getD i {} s.tt.hwm
  let cross := decide (h.thresh ≠ 0) && decide (v > h.thresh) && !h.crossed
  if v > h.peak ∨ cross then
    let s1 := { s with tt := { s.tt with hwm := Tbl.put i { h with peak := max h.peak v, crossed := h.crossed || cross } s.tt.hwm } }
    if cross then s1.raise0 0x082 0 else s1
  else s

/-- Sample every mark. -/
def State.sample (s : State) : State := (List.range 22).foldl State.sample1 s

/-- The end of a command: the marks are sampled, and the queue of waiting commands is what it was. -/
def State.done (s t : State) : State := { t.sample with pending := s.pending }

/-- The outcome of a command: nothing while the block is held in reset or dark; else its effect, on ports emptied of the
last step's outputs, and a sample of the marks. -/
def State.act (s : State) (f : State → State) : Host.Outcome State Fault Refusal :=
  .next (if s.held then s else s.done (f { s with out := [] }))

end Sys2Proof.Machine
end

