-- ==== Sys2Proof/Machine/Bursts.lean ====
section
/-! DEFINITION. Bursts and transactions: presenting, granting, issuing, ending (R18 to R24, R238, R239, R373 to R378,
R443). -/

namespace Sys2Proof.Machine

/-- A line operation that writes bytes at a fabric byte address, within one line. -/
def wrBytes (fa : Nat) (bs : List Nat) : LineOp :=
  let o := fa % 64
  { line := fa / 64, mask := maskOf o (o + bs.length), data := BitVec.ofNat 512 (leNat bs * 2 ^ (8 * o)) }

/-- A whole line write. -/
def wrLine (fa : Nat) (l : Line) : LineOp := { line := fa / 64, mask := fullMask, data := l }

/-- The lines that hold a byte range, as reads. -/
def rdLines (fa len key : Nat) : List LineOp :=
  if len = 0 then [] else (List.range ((fa + len - 1) / 64 - fa / 64 + 1)).map (fun i => { line := fa / 64 + i, key := key })

/-- Cut lines in ascending order into bursts: at most so many lines each, none across a 4 KiB boundary (R18). -/
def splitLines (maxL : Nat) : List LineOp → List (List LineOp)
  | [] => []
  | o :: t =>
    match splitLines maxL t with
    | [] => [[o]]
    | c :: r =>
      if c.length < maxL ∧ (c.head?.map (fun x => x.line / 64)) = some (o.line / 64) then (o :: c) :: r else [o] :: c :: r

/-- Put a burst among those waiting for a grant. -/
def State.present (s : State) (b : Burst) : State :=
  { s with bursts := s.bursts ++ [{ b with id := s.nextId }], nextId := s.nextId + 1 }

/-- A control burst of a queue (R24): in its class, priority, attachment set and limiter; Engineering for a Dispatch
Queue. -/
def State.ctl (s : State) (qid : Nat) (rd : Bool) (lines : List LineOp) (own : Own) (port : Option Nat) (coh : Bool) : State :=
  let q := s.queue qid
  s.present { id := 0, rd := rd, coh := coh, lines := lines, own := own, port := port, rq := qid, ctx := qid,
              cls := if q.dq then 3 else q.cls, prio := if q.dq then 0 else q.prio,
              xset := if q.dq then 255 else q.xset, lim := if q.dq then none else q.lim,
              resv := if !q.dq && q.cls == 1 then some qid else none }

/-- Engineering-class control traffic that no window governs. -/
def State.engCtl (s : State) (rq ctx : Nat) (rd : Bool) (lines : List LineOp) (own : Own) : State :=
  s.present { id := 0, rd := rd, lines := lines, own := own, rq := rq, ctx := ctx, cls := 3 }

/-- The request KIND of R374. -/
def reqKind (rd coh : Bool) (o : LineOp) : Nat :=
  if rd then (if coh then 1 else 0) else if o.poison then 4 else if o.mask = fullMask then 2 else 3

/-- The request slot of R374. -/
def reqSlot (kind tag cls line : Nat) : Word := mkWord [(0, 3, kind), (3, 13, tag), (16, 2, cls), (18, 46, line)]

/-- Issue one line of a granted burst under a tag: the request slot, its write data, the transaction. Every 256th one
of an attachment and direction is sampled (R260). -/
def State.issueLine (s : State) (b : Burst) (o : LineOp) (tag : Nat) : State :=
  let s1 := s.emit (.rq b.xa (reqSlot (reqKind b.rd b.coh o) tag b.cls o.line))
  let s2 := if b.rd then s1 else s1.emit (.dt b.xa tag (if o.poison then 0 else o.data) o.mask)
  let k := 2 * b.xa + (if b.rd then 0 else 1)
  let n := (s.bgs.lat.getD k {}).issued + 1
  let s3 := { s2 with bgs := { s2.bgs with lat := updAt k (fun l => { l with issued := n % 256 }) s2.bgs.lat } }
  { s3 with txns := s3.txns ++ [{ smp := decide (n = 256), xa := b.xa, rd := b.rd, tag := tag, op := o, own := b.own, issued := s.clk,
                                  tmo := s.xaTmo b.xa, port := b.port, lim := b.lim, ctx := b.ctx, cls := b.cls,
                                  mover := b.mover, rs := b.rs, tenant := b.tenant }] }

/-- A tag that no outstanding or quarantined transaction of the attachment and direction holds. -/
def State.tagFree (s : State) (xa : Nat) (rd : Bool) (tag : Nat) : Bool :=
  decide (tag < tagTotal rd) && !s.txns.any (fun t => t.xa == xa && t.rd == rd && t.tag == tag) &&
  !s.quar.any (fun t => t.xa == xa && t.rd == rd && t.tag == tag)

/-- No number twice. -/
def distinct : List Nat → Bool
  | [] => true
  | a :: t => !t.contains a && distinct t

/-- A granted burst can be issued under these tags now. -/
def State.canIssue (s : State) (b : Burst) (tags : List Nat) : Bool :=
  decide (tags.length = b.lines.length) && distinct tags && tags.all (s.tagFree b.xa b.rd) &&
  !s.xaFenced b.xa &&
  (b.rd || b.lines.all (fun o => !s.txns.any (fun t => !t.rd && t.op.line == o.line) &&
                                 !s.quar.any (fun t => !t.rd && t.line == o.line)))

/-- A burst leaves the granted ones. -/
def State.ungrant (s : State) (b : Burst) : State := { s with granted := s.granted.filter (fun c => c.id != b.id) }

/-- Take waiting and granted bursts away. -/
def State.dropBursts (s : State) (f : Burst → Bool) : State :=
  { s with bursts := s.bursts.filter (fun b => !f b), granted := s.granted.filter (fun b => !f b) }

/-- Remove a waiting burst. -/
def State.unwait (s : State) (id : Nat) : State := { s with bursts := s.bursts.filter (fun b => b.id != id) }

/-- How a transaction ended: good, or a status code of R133 (0x10 or 0x11 error, 0x12 poison, 0x14 target lost,
0x19 timeout). -/
inductive Res where
  | good (line : Line)
  | bad (st : Nat)
deriving DecidableEq, Repr

/-- The congestion mark of a response (R64). -/
def State.mark (s : State) (lim : Option Nat) (cm : Bool) : State :=
  match lim with
  | none => s
  | some i => if cm then s.setLimiter i { s.limiter i with marked := true } else s

/-- A Tap event of 72 bits (R303). -/
def tapWord (qty tenant ntx amount : Nat) : Tap :=
  let lo := (qty % 8) + (tenant % 256) * 2 ^ 4 + (ntx % 65536) * 2 ^ 12 + (amount % 2 ^ 36) * 2 ^ 28
  let par := (List.range 8).foldl (fun a i => a + b2n (parity 8 (bits lo (8 * i) 8)) * 2 ^ i) 0
  BitVec.ofNat 72 (lo + par * 2 ^ 64)

/-- A sender puts an event on the Metering Tap. -/
def State.meter (s : State) (qty tenant ntx amount : Nat) : State :=
  { s with tap := s.tap ++ [tapWord qty tenant ntx amount] }

end Sys2Proof.Machine
end

