-- ==== Sys2Proof/Machine/Rings.lean ====
section
/-! DEFINITION. Completion rings, the Siding and interrupts (R90 to R103, R235, R444). -/

namespace Sys2Proof.Machine

/-- Queue numbers of forwarded work, one for each originating Station (R365): they have no ring and no Head Word. -/
def isFwdQ (q : Nat) : Bool := decide (0xC200 ≤ q)

def Ring.size (r : Ring) : Nat := 2 ^ r.log2m
def Ring.esize (r : Ring) : Nat := if r.e32 then 32 else 16
/-- FULL (R92): no slot known free and the slot at the write index last read with OWN = 0. -/
def Ring.full (r : Ring) : Bool := (r.edge && decide (r.free = 0)) || r.hold
/-- Fabric address of slot i. -/
def Ring.slot (r : Ring) (i : Nat) : Nat := r.base + r.esize * (i % r.size)

/-- Completions written to the ring: those before the oldest one still in flight. A completion counts as written when its
write response arrives (R444); DEDUCED (log entry 73) that WR_INDEX and the arm check of R100 count them so. -/
def Ring.written (r : Ring) : Nat := (r.fly.map (·.1)).foldl min r.pos
/-- WR_INDEX and WR_WRAP. -/
def Ring.wr (r : Ring) : Nat := r.written % r.size
def Ring.wrWrap (r : Ring) : Bool := r.written / r.size % 2 == 1

/-- SIDED (R95): a completion waits in the Siding, or is on its way from there to the ring. -/
def Ring.sided (r : Ring) : Bool := !r.siding.isEmpty || r.fly.any (fun p => p.2.sided)

/-- Slots beyond those known free whose OWN a read can tell: not those of completions in flight (R378), nor those that
hold one already. -/
def Ring.room (r : Ring) : Nat :=
  (r.ahead.map (fun a => a - (r.pos + r.free))).foldl min (r.written + r.size - (r.pos + r.free))

/-- The queues bound to a ring. -/
def State.boundQ (s : State) (r : Nat) : List (Nat × Queue) := s.queues.filter (fun p => p.2.ring == r)

/-- The queue a ring's lookahead is charged to (R91): best class, then best priority, then lowest ID. -/
def State.lookQ (s : State) (r : Nat) : Option Nat :=
  (argmin (fun (p : Nat × Queue) => p.2.cls * 2 ^ 20 + p.2.prio * 2 ^ 16 + p.1) (s.boundQ r)).map (·.1)

/-- Read the first slot not known free (R91, R97), unless a read is out, the ring waits for its port, or that slot holds a
completion in flight. DESIGN CHOICE (log entry 74): a ring with no queue bound is read as Freight of priority 7 on every
attachment. -/
def State.lookRead (s : State) (r : Nat) : State :=
  let g := s.ring r
  if g.looking || g.hold || g.room == 0 then s
  else
    let i := (g.pos + g.free) % g.size
    let s1 := s.updRing r (fun g => { g with looking := true, lookN := g.room })
    let op : LineOp := { line := g.slot i / 64, key := i }
    match s.lookQ r with
    | none => s1.present { id := 0, rd := true, coh := g.coh, lines := [op], own := ⟨.look, r, 0⟩, port := g.port, rq := r,
                           ctx := 0xFFFF, cls := 2, prio := 7 }
    | some q => s1.ctl q true [op] ⟨.look, r, 0⟩ g.port g.coh

/-- Read ahead (R91), unless that slot was last read with OWN = 0. -/
def State.look (s : State) (r : Nat) : State := if (s.ring r).edge then s else s.lookRead r

/-- Read ahead while fewer slots are known free than completions may want one. -/
def State.lookAhead (s : State) (r : Nat) : State :=
  let g := s.ring r
  if decide (g.free < g.claims + g.wait.length + g.siding.length) then s.look r else s

/-- The bytes of a completion entry (R90). -/
def cplBytes (e32 : Bool) (c : Cpl) : List Nat :=
  [0, c.st] ++ leBytes 2 c.sq ++ leBytes 2 c.tag ++ leBytes 2 c.info ++ leBytes 8 c.res.toNat ++
  (if e32 then leBytes 8 c.csum.toNat ++ leBytes 8 c.time else [])

/-- The place after one that is taken, past those that hold a completion already. -/
def nextPlace : List Nat → Nat → Nat
  | [], p => p
  | a :: t, p => if a = p then nextPlace t (p + 1) else nextPlace t p

/-- Write a completion into the next slot (R91). -/
def State.writeCpl (s : State) (r : Nat) (c : Cpl) : State :=
  let g := s.ring r
  let i := g.pos
  let nx := nextPlace g.ahead (i + 1)
  let s1 := s.updRing r (fun g => { g with
    pos := nx, ahead := g.ahead.filter (fun a => decide (nx ≤ a)), free := g.free - 1, fly := g.fly ++ [(i, c)] })
  s1.ctl c.q false [{ wrBytes (g.slot i) (cplBytes g.e32 c) with key := i }] ⟨.cpl, r, i⟩ g.port false

/-- A completion write that found its target lost (R444): its place is the next one again, and the places behind it that
hold a completion are passed over. -/
def Ring.takeBack (r : Ring) (i : Nat) : Ring :=
  let p := min i r.pos
  let held := (List.range (r.pos - p)).map (· + p) ++ r.ahead
  { r with pos := p, ahead := held.filter (fun a => a != i && decide (p < a)), free := 0, edge := true, hold := true }

/-- Place a completion in the Siding (R95): its claim is released. -/
def State.side (s : State) (r : Nat) (c : Cpl) : State :=
  let g := s.ring r
  let s1 := s.updRing r (fun g => { g with siding := g.siding ++ [{ c with claim := false, sided := true }],
                                           claims := g.claims - (if c.claim then 1 else 0) })
  let s2 := s1.updQueue c.q (fun q => { q with ents := q.ents.map (fun e => if e.uid = c.uid then { e with ph := .done } else e) })
  if g.sided then s2 else s2.updTenant g.tenant (fun t => { t with irqSiding := true })

/-- Move waiting completions: from the Siding first, then those that wait for a lookahead; what finds the ring full
goes to the Siding. -/
def State.drain (s : State) (r : Nat) : Nat → State
  | 0 => s
  | n + 1 =>
    let g := s.ring r
    match g.siding with
    | c :: t =>
      if 0 < g.free ∧ !g.hold then
        State.drain ((s.updRing r (fun g => { g with siding := t })).writeCpl r c) r n
      else s
    | [] =>
      match g.wait with
      | [] => s
      | c :: t =>
        if 0 < g.free ∧ !g.hold then
          State.drain ((s.updRing r (fun g => { g with wait := t })).writeCpl r c) r n
        else if g.full ∧ !g.dq then State.drain ((s.updRing r (fun g => { g with wait := t })).side r c) r n
        else s

/-- Completions of a ring behind others in the Siding go there too; then drain, and read ahead where it helps. -/
def State.pumpRing (s : State) (r : Nat) : State :=
  let g := s.ring r
  let s1 := if g.dq || g.siding.isEmpty then s
    else g.wait.foldl (fun s c => s.side r c) (s.updRing r (fun g => { g with wait := [] }))
  (s1.drain r (g.siding.length + g.wait.length + 1)).lookAhead r

/-- Give a finished completion to its ring (R95). -/
def State.postCpl (s : State) (r : Nat) (c : Cpl) : State :=
  (s.updRing r (fun g => { g with wait := g.wait ++ [c] })).pumpRing r

/-- Slots of the Siding in use by completions and claims, whole block. -/
def State.sidingUsed (s : State) : Nat :=
  (Tbl.vals s.rings).foldl (fun a g => if g.dq then a else a + g.shareSlots) 0

/-- The two start tests of R96: the ring's share, then the shared pool. -/
def State.shareOk (s : State) (r : Nat) : Bool := let g := s.ring r; decide (g.wants < g.sidingMax)
def State.poolOk (s : State) (r : Nat) : Bool :=
  let g := s.ring r
  decide (s.sidingUsed + (if g.e32 then 2 else 1) ≤ 131072)
def State.claimOk (s : State) (r : Nat) : Bool := isFwdQ r || (s.ring r).dq || (s.shareOk r && s.poolOk r)

/-- An interrupt of a ring becomes due (R101): the arm bit clears, RING and LAST_RING are set. -/
def State.ringDue (s : State) (r : Nat) : State :=
  let g := s.ring r
  let s1 := s.updRing r (fun g => { g with armed := false })
  let s2 := s1.updTenant g.tenant (fun t => { t with irqRing := true, lastRing := g.c })
  s2.irqDue g.vec

/-- An interrupting completion (R101). -/
def Cpl.interrupting (c : Cpl) : Bool := c.irq || decide (0x10 ≤ c.st)

/-- Release a claim. -/
def State.unclaim (s : State) (r : Nat) (c : Cpl) : State :=
  s.updRing r (fun g => { g with claims := g.claims - (if c.claim then 1 else 0) })

/-- Mark an entry completed in its queue. -/
def State.entDone (s : State) (q uid : Nat) : State :=
  s.updQueue q (fun q => { q with ents := q.ents.map (fun e => if e.uid = uid then { e with ph := .done } else e) })

/-- The slots from slot `i` on that lie in line `ln` and carry OWN = 1, consecutively. -/
def freeRun (r : Ring) (ln : Nat) (l : Line) : Nat → Nat → Nat
  | 0, _ => 0
  | n + 1, i =>
    if decide (r.slot i / 64 = ln) && bit (lineByte l (r.slot i % 64)) 0 then 1 + freeRun r ln l n (i + 1) else 0

/-- A lookahead read answered (R91, R92, R444): slots found free, or the slot counts as OWN = 0. -/
def State.lookDone (s : State) (r i : Nat) (res : Res) : State :=
  let g := s.ring r
  let s1 := s.updRing r (fun g => { g with looking := false })
  if i ≠ (g.pos + g.free) % g.size then (s1.updRing r (fun g => { g with relook := false })).pumpRing r
  else
  let s2 := match res with
    | .good l =>
      let k := freeRun g (g.slot i / 64) l (min (min (64 / g.esize) g.lookN) (g.size - i)) i
      s1.updRing r (fun g => { g with free := g.free + k, edge := decide (k = 0) })
    | .bad st =>
      if st = 0x14 ∧ !g.dq then s1.updRing r (fun g => { g with edge := true, hold := true })
      else s1.updRing r (fun g => { g with edge := true })
  let s3 := (s2.updRing r (fun g => { g with relook := false })).pumpRing r
  if g.relook && (s2.ring r).edge then s3.lookRead r else s3

/-- Re-read a full ring (R97): at a boundary or on a TEN_CRARM write. A read that is not issued yet serves; one that is
out is followed by another (R103). -/
def State.reread (s : State) (r : Nat) : State :=
  let g := s.ring r
  if g.hold then s
  else if g.looking then
    if (s.bursts ++ s.granted).any (fun b => b.own.k == OwnK.look && b.own.a == r) then s
    else s.updRing r (fun g => { g with relook := true })
  else if g.edge then s.lookRead r
  else s

end Sys2Proof.Machine
end

