-- ==== Sys2Proof/Machine/Queues.lean ====
section
/-! DEFINITION. Submission queues: scan, prefetch, start, Head Word, states and completion order (R75, R79 to R89,
R96, R224 to R236), for submission queues and Dispatch Queues alike. -/

namespace Sys2Proof.Machine

def Queue.n (g : Queue) : Nat := 2 ^ g.log2n
def Queue.unitAddr (g : Queue) (u : Nat) : Nat := g.base + 16 * u
def Ent.isStarted (e : Ent) : Bool := e.ph == .started || e.ph == .done
def Queue.tdq (g : Queue) : Bool := g.dq && g.ring != 0x2000

/-- Advance a unit index with its wrap bit. -/
def Queue.next_ (g : Queue) (u : Nat) (w : Bool) (k : Nat) : Nat × Bool :=
  if u + k ≥ g.n then (u + k - g.n, !w) else (u + k, w)

/-- INDEX and WRAP of the Head Word (R85): the oldest entry not yet started, else the scan pointer. -/
def Queue.headIdx (g : Queue) : Nat × Bool :=
  match g.ents.find? (fun e => !e.isStarted) with
  | some e => (e.unit, e.wrap)
  | none => (g.sp, g.spWrap)

/-- The Head Word's value (R85). -/
def Queue.headWord (g : Queue) : Word :=
  mkWord [(0, 20, g.headIdx.1), (20, 1, b2n g.headIdx.2), (32, 32, g.starts)]

/-- Bytes and number of entries seen and not yet admitted (R83). -/
def Queue.seenEnts (g : Queue) : List Ent := g.ents.filter (fun e => e.ph == .seen)
def Queue.seenBytes (g : Queue) : Nat := g.seenEnts.foldl (fun a e => a + 16 * e.len16) 0
/-- Of those, the bytes that hold prefetch space: not those of an entry whose body waits for its admission (R29). -/
def Queue.heldBytes (g : Queue) : Nat := (g.seenEnts.filter (fun e => e.late == 0)).foldl (fun a e => a + 16 * e.len16) 0

/-- Bytes of the shared prefetch pool in use (R29). -/
def State.prefetchUsed (s : State) : Nat :=
  (Tbl.vals s.queues).foldl (fun a g => a + (g.heldBytes - 256)) 0

/-- The shared pool has room for what a further entry of n bytes takes of it: its bytes beyond the queue's own 256. -/
def State.prefetchFits (s : State) (g : Queue) (n : Nat) : Bool :=
  decide (g.heldBytes + n ≤ 256 ∨ s.prefetchUsed + ((g.heldBytes + n - 256) - (g.heldBytes - 256)) ≤ 2752 * 1024)

/-- Modes in which a queue is scanned: data queues where data issues, Dispatch Queues where admin commands run (R403). -/
def State.scanMode (s : State) (g : Queue) : Bool :=
  s.isOn domQM && (if g.dq then s.adminNow && s.isOn domDSP && s.pwr.parked != 2 else s.dataNow)

/-- Write the Head Word where it is due and every passed entry's write-back has been answered (R85, R86). -/
def State.pumpHw (s : State) (q : Nat) : State :=
  let g := s.queue q
  if g.hwDue && !g.hwBusy && g.ents.all (fun e => !e.isStarted || e.wb) then
    let v := g.headWord
    let s1 := s.updQueue q (fun g => { g with hwDue := false, hwBusy := true, sinceHw := 0,
                                              hwIdx := g.headIdx.1, hwWrap := g.headIdx.2, hwStarts := g.starts })
    s1.ctl q false [wrBytes g.head (leBytes 8 v.toNat)] ⟨.headWord, q, 0⟩ g.headPort false
  else s

/-- Mark the Head Word due. -/
def State.hwNow (s : State) (q : Nat) : State :=
  if isFwdQ q then s else (s.updQueue q (fun g => { g with hwDue := true })).pumpHw q

/-- Take an unstarted entry's work away: its job, work items and bursts, and its forwarding (R225). -/
def State.killJob (s : State) (uid : Nat) : State :=
  let ws := Tbl.keys (s.works.filter (fun p => p.2.uid == uid && (p.2.who == 0 || p.2.who == 5)))
  let out := s.stn.fwd.filter (fun o => o.uid == uid)
  let s1 := s.dropBursts (fun b =>
    (b.own.k == .work && ws.contains b.own.a) || (b.own.k == .seed && b.own.a == uid) || (b.own.k == .body && b.own.b == uid) ||
    (b.own.k == .fwdWr && out.any (fun o => o.w == b.own.a && o.seq == b.own.b)))
  { s1 with works := s1.works.filter (fun p => !ws.contains p.1), jobs := Tbl.del uid s1.jobs,
            stn := { s1.stn with fwd := s1.stn.fwd.filter (fun o => o.uid != uid) } }

/-- No further unit of the ring is read (R226): the scan stops, and a read of it not issued yet is dropped. -/
def State.stopScan (s : State) (q : Nat) : State :=
  (s.dropBursts (fun b => b.own.k == OwnK.scan && b.own.a == q)).updQueue q (fun g => { g with
    scanning := false, rescan := false, line := none, reading := false })

/-- Discard every entry that has not started (R225); the scan pointer returns to the first of them. -/
def State.discard (s : State) (q : Nat) : State :=
  let g := s.queue q
  let h := g.headIdx
  let s1 := (g.ents.filter (fun e => !e.isStarted)).foldl (fun s e => s.killJob e.uid) s
  (s1.stopScan q).updQueue q (fun g => { g with ents := g.ents.filter Ent.isStarted, sp := h.1, spWrap := h.2 })

/-- The status bits and message of a queue that enters HELD, BACKED or ERROR (R103). -/
def State.queueIrq (s : State) (q : Nat) (f : Tenant → Tenant) : State :=
  let g := s.queue q
  if g.dq then s
  else ((s.updTenant g.tenant (fun t => { f t with lastSq := g.db })).irqDue (s.ring g.ring).vec)

/-- ERROR (R231, R232): source 0x062 for a header failure, 0x064 for a structure failure. The scan stops at unit u. The Head
Word is written, unless its own write is what failed (R249). DEDUCED (log entry 75): a HELD queue only raises the source,
since R224 and R236 let only SQ_ENABLE of the Installer lift HELD. -/
def State.enterError (s : State) (q source u : Nat) (w hw : Bool) : State :=
  let g := s.queue q
  if g.st = .held then s.raise0 source q
  else
    let s1 := (s.stopScan q).updQueue q (fun g => { g with st := QSt.error, sp := u, spWrap := w, errUnit := some u })
    if g.st = .error then s1
    else
      let s2 := (s1.raise0 source q).queueIrq q (fun t => { t with irqError := true })
      if hw then s2.hwNow q else s2

/-- A failure of the queue's own structures (R232): unstarted entries are taken back to the oldest, or to the entry
whose body could not be read. -/
def State.structFail (s : State) (q : Nat) (uid : Option Nat) (hw : Bool) : State :=
  let g := s.queue q
  let cut : List Ent := match uid with
    | some u => g.ents.filter (fun e => !e.isStarted && decide (u ≤ e.uid))
    | none => g.ents.filter (fun e => !e.isStarted)
  let at_ : Nat × Bool := match cut.head? with
    | some e => (e.unit, e.wrap)
    | none => (g.sp, g.spWrap)
  let s1 := cut.foldl (fun s e => s.killJob e.uid) s
  let s2 := s1.updQueue q (fun g => { g with ents := g.ents.filter (fun e => !cut.any (fun c => c.uid == e.uid)) })
  s2.enterError q 0x064 at_.1 at_.2 hw

/-- HELD with a port (R234): discards, Head Word, TEN_IRQSTAT.HELD, source 0x065. A Dispatch Queue fails instead. -/
def State.enterHeld (s : State) (q p : Nat) : State :=
  let g := s.queue q
  if isFwdQ q then s
  else if g.dq then s.structFail q none true
  else if g.st = .held then s.updQueue q (fun g => { g with heldSet := if g.heldSet.contains p then g.heldSet else g.heldSet ++ [p] })
  else if g.st = .disabled then s
  else
    let s1 := (s.discard q).updQueue q (fun g => { g with st := .held, heldSet := [p] })
    ((s1.raise0 0x065 q).queueIrq q (fun t => { t with irqHeld := true })).hwNow q

/-- BACKED (R96): 0x060 where the ring's share is exhausted, 0x061 where the pool is. A DRAINING or ERROR queue keeps
its state and only raises. -/
def State.enterBacked (s : State) (q : Nat) : State :=
  let g := s.queue q
  let src := if s.shareOk g.ring then 0x061 else 0x060
  if g.st = .active then
    let s1 := s.updQueue q (fun g => { g with st := .backed })
    ((s1.raise0 src g.ring).queueIrq q (fun t => { t with irqBacked := true })).hwNow q
  else if g.short ∨ g.st = .backed then s
  else (s.updQueue q (fun g => { g with short := true })).raise0 src g.ring

/-- Scan stops on OWN = 0 (R80, R81): with rescan pending the unit is read again. The queue may go idle (R85). -/
def State.scanStop (s : State) (q : Nat) : State :=
  let g := s.queue q
  if g.rescan then s.updQueue q (fun g => { g with rescan := false, line := none })
  else
    let s1 := s.updQueue q (fun g => { g with scanning := false, line := none })
    if g.ents.all Ent.isStarted then s1.hwNow q else s1

/-- Words of a line from a byte offset on, as entry words from index i0. -/
def lineWords (l : Line) (off i0 n : Nat) : Tbl Word :=
  (List.range (min n ((64 - off) / 8))).map (fun k => (i0 + k, lineWord l (off / 8 + k)))

/-- Ask for lines of an entry's body. -/
def State.bodyRead (s : State) (q uid : Nat) (lines : List LineOp) : State :=
  (splitLines 64 lines).foldl (fun s l => s.ctl q true l ⟨.body, q, uid⟩ (s.queue q).port (s.queue q).coh) s

/-- The lines of an entry of n words at fa after its first. -/
def bodyLines (fa n : Nat) : List LineOp :=
  (List.range ((fa + 8 * n - 1) / 64 - fa / 64)).map (fun i => { line := fa / 64 + 1 + i, key := (fa / 64 + 1 + i) * 8 - fa / 8 })

/-- Record an entry as seen (R80, R83) and ask for the lines of its body that the line in hand does not hold; one for which
there is no prefetch space waits for its admission (R29). -/
def State.see (s : State) (q : Nat) (l : Line) (h : Nat) : State :=
  let g := s.queue q
  let fa := g.unitAddr g.sp
  let opc := hdrOpc h
  let known := accepts g.dq g.tdq opc
  let n := if opc = 0x11 ∨ !known then 2 else 2 * hdrLen h
  let ws := lineWords l (fa % 64) 0 n
  let lines := bodyLines fa n
  let bad : Option Nat :=
    if g.dq then
      if !known then some (if adminOps.any (fun x => x.1 == opc) && g.tdq then 3 else 1)
      else none
    else if !known then some 0 else none
  let fits := lines.isEmpty || s.prefetchFits g (16 * hdrLen h)
  let e : Ent := { uid := s.nextId, unit := g.sp, wrap := g.spWrap, hdr := h, words := ws, bodyLeft := lines.length, bad := bad,
                   late := if fits then 0 else 1 }
  let nx := g.next_ g.sp g.spWrap (hdrLen h)
  let s1 := { s with nextId := s.nextId + 1 }
  let s2 := s1.updQueue q (fun g => { g with ents := g.ents ++ [e], sp := nx.1, spWrap := nx.2 })
  if fits then s2.bodyRead q e.uid lines else s2

/-- LINK at the end of the seen entries (R75, R128): the scan moves to TARGET, or the LINK is a header failure; after an
entry failure it goes on at the next unit. -/
def State.linkScan (s : State) (q : Nat) (e : Ent) : State :=
  let g := s.queue q
  let tgt := fld (e.w 2) 0 20
  if linkOk e.unit g.n tgt then
    if (if g.dq then dqEntryFail (e.w 0) else entryFail (e.w 0) (e.w 1)) || linkBad (e.w 1) (e.w 2) (e.w 3) then s
    else s.updQueue q (fun g => { g with sp := tgt, spWrap := e.wrap })
  else
    let s1 := s.updQueue q (fun g => { g with ents := g.ents.filter (fun x => x.uid != e.uid) })
    s1.enterError q 0x062 e.unit e.wrap true

/-- One run of the scan (R80): headers of the line in hand, then the next line. -/
def State.scanRun (s : State) (q : Nat) : Nat → State
  | 0 => s
  | n + 1 =>
    let g := s.queue q
    let linkWait := match g.ents.getLast? with
      | some e => e.opc == 0x12 && e.ph == .seen && decide (e.bodyLeft ≠ 0)
      | none => false
    if !g.scanning || g.reading || linkWait || !(g.st == .active || g.st == .backed) || !s.scanMode g ||
       decide (4 ≤ g.seenEnts.length) then s
    else
      let fa := g.unitAddr g.sp
      match g.line with
      | some (ln, l) =>
        if ln = fa / 64 then
          let h := bits (lineWord l (fa % 64 / 8)).toNat 0 32
          if !hdrOwn h then State.scanRun (s.scanStop q) q n
          else if headerFail g.dq g.tdq g.sp g.n h then s.enterError q 0x062 g.sp g.spWrap true
          else if g.seenBytes + 16 * hdrLen h > 1024 then s
          else if !g.seenEnts.isEmpty ∧ !s.prefetchFits g (16 * hdrLen h) then s
          else
            let s1 := s.see q l h
            let s2 := match (s1.queue q).ents.getLast? with
              | some e => if e.opc = 0x12 ∧ e.bodyLeft = 0 then s1.linkScan q e else s1
              | none => s1
            State.scanRun s2 q n
        else State.scanRun (s.updQueue q (fun g => { g with line := none })) q n
      | none =>
        (s.updQueue q (fun g => { g with reading := true, scanId := s.nextId })).ctl q true [{ line := fa / 64, key := 0 }]
          ⟨.scan, q, s.nextId⟩ g.port g.coh

def State.scan (s : State) (q : Nat) : State := s.scanRun q 40

/-- A scan request (R79, R81). -/
def State.scanReq (s : State) (q : Nat) : State :=
  let g := s.queue q
  if !(g.st == .active || g.st == .backed) then s
  else if !s.scanMode g then s.updQueue q (fun g => { g with rung := true })
  else if g.scanning then s.updQueue q (fun g => { g with rescan := true })
  else (s.updQueue q (fun g => { g with scanning := true, line := none })).scan q

/-- Give an entry its outcome: it completes once its write-back is answered and its turn has come (R20, R88). -/
def State.finish (s : State) (q uid st info : Nat) (res csum : Word) : State :=
  s.updQueue q (fun g => { g with ents := g.ents.map (fun e =>
    if e.uid = uid then { e with fin := true, st := st, info := info, res := res, csum := csum, time := s.ns } else e) })

/-- Start an entry (R84, R96): claim, count, header write-back with OWN = 0. -/
def State.startEnt (s : State) (q uid : Nat) : State :=
  let g := s.queue q
  match g.ents.find? (fun e => e.uid == uid) with
  | none => s
  | some e =>
    if e.isStarted then s
    else
    let s1 := s.updQueue q (fun g => { g with
      starts := (g.starts + 1) % 2 ^ 32, sinceHw := g.sinceHw + 1, short := false,
      ents := g.ents.map (fun x => if x.uid = uid then { x with ph := .started } else x) })
    if isFwdQ q then
      (s1.updQueue q (fun g => { g with ents := g.ents.map (fun x => if x.uid = uid then { x with wb := true } else x) })).meter 2 e.fwdTen 0 1
    else
    let s2 := if g.dq then s1 else (s1.updRing g.ring (fun r => { r with claims := r.claims + 1 })).lookAhead g.ring
    let s3 := s2.ctl q false [wrBytes (g.unitAddr e.unit) (leBytes 4 (e.hdr - e.hdr % 2))] ⟨.hdrWb, q, uid⟩ g.port false
    let s4 := if !g.dq ∧ 1 ≤ e.opc ∧ e.opc ≤ 10 ∧ !e.fwd then s3.meter 2 g.tenant 0 1 else s3
    let g4 := s4.queue q
    if 16 ≤ g4.sinceHw ∨ (!g4.scanning ∧ g4.ents.all Ent.isStarted) ∨
       (g4.st = .error ∧ g4.ents.all Ent.isStarted) then s4.hwNow q else s4

/-- The completion of an entry, for its ring (R90, R133). -/
def mkCpl (q : Nat) (g : Queue) (e : Ent) : Cpl :=
  { q := q, uid := e.uid, st := e.st, sq := if g.dq then 0xFFFF else g.db, tag := e.tag,
    info := e.info, res := e.res, csum := e.csum, time := e.time, irq := fIrq e.hdr }

/-- Complete finished entries in order of their turn (R87 to R89, R130): `prior` says every earlier entry is done. -/
def State.completeRun (s : State) (q : Nat) : List Nat → Bool → State
  | [], _ => s
  | u :: us, prior =>
    let g := s.queue q
    match g.ents.find? (fun e => e.uid == u) with
    | none => State.completeRun s q us prior
    | some e =>
      if e.ph = .done then State.completeRun s q us prior
      else if e.ph = .started ∧ e.opc = 0x10 ∧ !e.fin ∧ !e.storing ∧ prior then
        if e.aux = 0 ∨ e.bad.isSome then
          State.completeRun (s.finish q u 0 0 (e.w 2) 0) q us false
        else
          let s1 := s.updQueue q (fun g => { g with ents := g.ents.map (fun x => if x.uid = u then { x with storing := true } else x) })
          let s2 := s1.ctl q false [wrBytes e.stAt.1 (leBytes 8 (e.w 2).toNat)] ⟨.fenceSt, q, u⟩ e.stAt.2 false
          State.completeRun s2 q us false
      else if e.ph = .started ∧ e.fin ∧ e.wb ∧ (!fOrdered e.hdr || prior) ∧ !e.storing then
        if isFwdQ q then
          let s1 := s.updQueue q (fun g => { g with ents := g.ents.map (fun x => if x.uid = u then { x with storing := true } else x) })
          let w := s.stn.id
          let fa := (Config.retBase (q - 0xC200)).toNat + w * 8192 + 32 * (e.unit % 256)
          let c : Cpl := { q := q, uid := u, st := e.st, sq := e.fwdSeq, tag := 0, info := e.info, res := e.res, csum := e.csum,
                           time := e.time, irq := false }
          let s2 := s1.ctl q false [wrBytes fa (cplBytes true c)] ⟨.retWr, q, u⟩ none false
          State.completeRun s2 q us false
        else if fQuiet e.hdr ∧ e.st = 0 then
          let s1 := s.entDone q u
          let s2 := if g.dq then s1.updRing g.ring (fun r => { r with claims := r.claims - 1 })
                    else s1.updRing g.ring (fun r => { r with claims := r.claims - 1 })
          State.completeRun s2 q us prior
        else
          let s1 := s.updQueue q (fun g => { g with ents := g.ents.map (fun x => if x.uid = u then { x with storing := true } else x) })
          let s2 := s1.postCpl g.ring (mkCpl q g e)
          let dn := match (s2.queue q).ents.find? (fun x => x.uid == u) with | some x => x.ph == .done | none => true
          State.completeRun s2 q us (prior && dn)
      else State.completeRun s q us false

/-- Remove completed entries. -/
def State.prune (s : State) (q : Nat) : State :=
  s.updQueue q (fun g => { g with ents := g.ents.filter (fun e => !(e.ph == .done)) })

/-- Complete what can complete; twice, so that a fence finished in the first pass completes in the second. -/
def State.pumpCpl (s : State) (q : Nat) : State :=
  let s1 := s.completeRun q ((s.queue q).ents.map (·.uid)) true
  let s2 := s1.completeRun q ((s1.queue q).ents.map (·.uid)) true
  let s3 := s2.prune q
  let g := s3.queue q
  if g.st = .draining ∧ g.ents.isEmpty then
    (s3.updQueue q (fun g => { g with st := .disabled })).hwNow q
  else if g.st = .stopping ∧ g.ents.isEmpty then
    s3.updQueue q (fun g => { g with st := if g.fenced then .error else .disabled })
  else s3

/-- Start, in order, entries that start without a burst: finished at admission, or NOP, LINK, FENCE, WAIT_EVENT
(R84). -/
def State.startRun (s : State) (q : Nat) : Nat → State
  | 0 => s
  | n + 1 =>
    let g := s.queue q
    match g.ents.find? (fun e => !e.isStarted) with
    | none => s
    | some e =>
      if e.ph = .admitted ∧ e.fin then
        if s.claimOk g.ring then State.startRun (s.startEnt q e.uid) q n else s.enterBacked q
      else s

def State.pumpStart (s : State) (q : Nat) : State := (s.startRun q ((s.queue q).ents.length + 1)).pumpCpl q

/-- Whether every entry of the queue before this one has started. -/
def Queue.earlierStarted (g : Queue) (uid : Nat) : Bool :=
  (g.ents.takeWhile (fun e => e.uid != uid)).all Ent.isStarted

/-- The oldest entry seen and not admitted. -/
def Queue.oldest (g : Queue) : Option Ent := g.ents.find? (fun e => e.ph == .seen)

/-- The oldest seen entry may be admitted now: queue state, mode, body read, FENCE, WAIT_EVENT (R83, R87, R131). -/
def State.admissible (s : State) (q : Nat) (e : Ent) : Bool :=
  let g := s.queue q
  decide (e.bodyLeft = 0) && s.isOn domQM && g.wait.isNone &&
  (g.st == .active || g.st == .draining || g.st == .error || (g.dq && g.st == .stopping)) &&
  (if g.dq then s.adminNow else s.mode.dataIssue || s.mode == .quiesce) &&
  (!fFence e.hdr || (g.ents.takeWhile (fun x => x.uid != e.uid)).isEmpty)

/-- The body of the oldest seen entry, for which there was no prefetch space, is fetched when it is admitted (R29). -/
def State.lateBody (s : State) (q : Nat) : State :=
  let g := s.queue q
  match g.oldest with
  | none => s
  | some e =>
    if e.late = 1 ∧ s.admissible q { e with bodyLeft := 0 } then
      (s.updQueue q (fun g => { g with ents := g.ents.map (fun x => if x.uid = e.uid then { x with late := 2 } else x) })).bodyRead q e.uid
        (bodyLines (g.unitAddr e.unit) (2 * e.len16))
    else s

def State.setEnt (s : State) (q uid : Nat) (f : Ent → Ent) : State :=
  s.updQueue q (fun g => { g with ents := g.ents.map (fun e => if e.uid = uid then f e else e) })

end Sys2Proof.Machine
end

