-- ==== Sys2Proof/Machine/Works.lean ====
section
/-! DEFINITION. Data entries in execution: segments, bursts, data, anomalies, valid prefix, checksum, outcome
(R16 to R20, R109, R120 to R129, R133 to R135). -/

namespace Sys2Proof.Machine

/-! ### Places -/

/-- Work items a Mover holds, and those of Freight and Engineering. -/
def State.moverLoad (s : State) (m : Nat) : Nat := ((Tbl.vals s.works).filter (fun w => w.mover == some m)).length
def State.moverFE (s : State) (m : Nat) : Nat :=
  ((Tbl.vals s.works).filter (fun w => w.mover == some m && decide (2 ≤ w.cls))).length

/-- The Mover of R17 and R49: unfenced, powered, fewest work items, lowest-numbered. -/
def State.moverFor (s : State) (cls : Nat) : Option Nat :=
  argmin (fun m => s.moverLoad m) ((List.range 64).filter (fun m =>
    !s.mvFenced m && s.isOn (domMv m) && decide (s.moverLoad m < 16) && (decide (cls < 2) || decide (s.moverFE m < 12))))

/-- Buffer pool units of General in use, of 44 (R28, R30). -/
def State.unitsUsed (s : State) : Nat := (Tbl.vals s.works).foldl (fun a w => a + w.units) 0

/-! ### Cutting bursts (R18) -/

def nextPage (a : Nat) : Nat := (a / 4096 + 1) * 4096

/-- End of the burst that starts at logical offset x of a range at fabric address a, within hi: the range's own 4 KiB
boundary, the first line at or beyond a 4 KiB boundary of the other ranges, and at most maxL lines. DEDUCED (log entry
76): a line that itself straddles the other side's boundary belongs to one burst, since R120 reads lines whole and writes
a line that the range covers with one WriteLine. -/
def cutEnd (a : Nat) (others : List Nat) (x hi maxL : Nat) : Nat :=
  let own := nextPage (a + x) - a
  let cap := ((a + x) / 64 + maxL) * 64 - a
  let os := others.map (fun o => ceilDiv (a + (nextPage (o + x) - o)) 64 * 64 - a)
  os.foldl min (min hi (min own cap))

/-- The lines of [x, e) of a range at a, each keyed by the logical offset at which it starts. -/
def linesOf (a x e : Nat) : List LineOp :=
  if e ≤ x then [] else
  (List.range ((a + e - 1) / 64 - (a + x) / 64 + 1)).map (fun i =>
    { line := (a + x) / 64 + i, key := ((a + x) / 64 + i) * 64 - a })

/-! ### Data -/

def Job.src (j : Job) (st : Nat) : Rng := if st = 2 then j.dsts.getD 0 ⟨0, 0, 0, 0, none, 0⟩ else j.srcs.getD st ⟨0, 0, 0, 0, none, 0⟩
def Job.dst (j : Job) (i : Nat) : Rng := j.dsts.getD i ⟨0, 0, 0, 0, none, 0⟩

/-- A line that a stream has read. -/
def Job.line (j : Job) (st ln : Nat) : Option Line := (j.got.find? (fun g => g.1 == st && g.2.1 == ln)).map (·.2.2)

/-- Byte x of a stream, 0 where it has not been read. -/
def Job.byteOf (j : Job) (st x : Nat) : Nat :=
  let fa := (j.src st).fa + x
  match j.line st (fa / 64) with
  | some l => lineByte l (fa % 64)
  | none => 0

/-- Byte x of what is written: the source, the pattern by tenant address (R109), or zero. -/
def Job.outByte (j : Job) (x : Nat) : Nat :=
  if j.op = 2 then bits j.pat.toNat (8 * (((j.dst 0).ta + x) % 8)) 8
  else if j.op = 3 then 0
  else j.byteOf 0 x

/-- Whether every source line of [x, e) of a stream has been read. -/
def Job.have_ (j : Job) (st x e : Nat) : Bool := (linesOf (j.src st).fa x e).all (fun o => (j.line st o.line).isSome)

/-- The write operations of [x, e) of destination i (R120): whole lines, or masks of exactly the range's bytes. -/
def Job.writeOps (j : Job) (i x e : Nat) (poison : Bool) : List LineOp :=
  let d := (j.dst i).fa
  (linesOf d x e).map (fun o =>
    let lo := max (o.line * 64) (d + x)
    let hi := min (o.line * 64 + 64) (d + e)
    if poison then { o with mask := fullMask, poison := true }
    else { o with
      mask := maskOf (lo - o.line * 64) (hi - o.line * 64),
      data := lineOf ((List.range 64).map (fun k =>
        let p := o.line * 64 + k
        if lo ≤ p ∧ p < hi then j.outByte (p - d) else 0)) })

/-! ### Anomalies (R135) -/

def Anom.less (a b : Anom) : Bool := decide (a.off < b.off) || (a.off == b.off && decide (a.rank < b.rank))

def lowest : List Anom → Option Anom
  | [] => none
  | a :: t => match lowest t with
    | none => some a
    | some b => if Anom.less b a then some b else some a

def Job.low (j : Job) : Option Anom := lowest j.anoms
def Job.limit (j : Job) : Option Nat := j.low.map (·.off)

/-- Whether a burst that begins at x may still go out. -/
def Job.allows (j : Job) (x : Nat) : Bool := match j.limit with | none => true | some m => decide (x ≤ m)

/-- Drop waiting and granted bursts of a job that satisfy a test; their lines no longer count as out. -/
def State.stripJob (s : State) (uid : Nat) (f : Burst → Bool) : State :=
  let mine := fun (b : Burst) => b.own.k == OwnK.work &&
    (match Tbl.get b.own.a s.works with | some w => w.uid == uid && w.who == 0 | none => false) && f b
  let gone := s.bursts.filter mine ++ s.granted.filter mine
  gone.foldl (fun s b => s.updWork b.own.a (fun w => { w with
    out := w.out - b.lines.length,
    rdBusy := if b.rd then false else w.rdBusy,
    wrBusy := if b.rd then w.wrBusy else setAt b.own.b false w.wrBusy })) (s.dropBursts mine)

/-- Begin offset of a burst. -/
def Burst.begins (b : Burst) : Nat := (b.lines.head?.map (·.key)).getD 0

/-- A range of a job by its range code. -/
def Job.tab (j : Job) (code : Nat) : Rng :=
  ((j.tabs ++ j.srcs ++ j.dsts).find? (fun r => r.code == code)).getD ⟨0, 0, 0, 0, none, 0⟩

/-- Streams of the tables in a job's lines read: index table, bag offsets, weights; elements and rows by position. -/
def stIdx : Nat := 3
def stOff : Nat := 5
def stWgt : Nat := 6
def stEl (p : Nat) : Nat := 16 + p

/-- A byte of a stream by fabric address. -/
def Job.faByte (j : Job) (st fa : Nat) : Nat :=
  match j.line st (fa / 64) with | some l => lineByte l (fa % 64) | none => 0

def Job.faBytes (j : Job) (st fa n : Nat) : List Nat := (List.range n).map (fun i => j.faByte st (fa + i))

/-- Whether the lines of a byte range of a stream have been read. -/
def Job.hasFa (j : Job) (st fa n : Nat) : Bool := (rdLines fa n 0).all (fun o => (j.line st o.line).isSome)

/-- Entry k of a table of entries of w bytes, if read. -/
def Job.entry (j : Job) (st : Nat) (r : Rng) (w k : Nat) : Option Nat :=
  if j.hasFa st (r.fa + w * k) w then some (leNat (j.faBytes st (r.fa + w * k) w)) else none

/-- OFF[b] of a GREDUCE (R148). -/
def Job.off (j : Job) (b : Nat) : Option Nat := j.entry stOff (j.tab 5) j.iw b

/-- Positions below this may still be read once an anomaly is known (R163): up to the anomalous position, or the bag. -/
def Job.posLimit (j : Job) : Option Nat :=
  match j.low with
  | none => none
  | some a =>
    if j.op ≠ 10 then some (a.off + 1)
    else if a.rank = 0 then some ((j.off a.off).getD 0)
    else if 2 ^ 40 ≤ a.rank then some ((j.off (a.off + 1)).getD (a.rank))
    else some (a.rank / 8 + 1)

/-- An element or row read of a gather, scatter or reduce that may not go out any more. -/
def Job.tooHigh (j : Job) (st key : Nat) : Bool :=
  match j.posLimit with
  | none => false
  | some m => (decide (16 ≤ st) && decide (m ≤ st - 16)) || (j.op == 9 && st == 0 && decide (m ≤ key))

/-- Record an anomaly and drop what begins above the lowest (R135, R163). -/
def State.anomaly (s : State) (uid : Nat) (a : Anom) : State :=
  let s1 := s.updJob uid (fun j => { j with anoms := j.anoms ++ [a] })
  match Tbl.get uid s1.jobs with
  | none => s1
  | some j =>
    if j.op ≤ 6 then s1.stripJob uid (fun b => !j.allows b.begins)
    else
      let s2 := s1.stripJob uid (fun b => b.rd && j.tooHigh b.own.b b.begins)
      { s2 with works := s2.works.map (fun (p : Nat × Work) => (p.1,
          if p.2.uid == uid && p.2.who == 0 then
            { p.2 with todo := p.2.todo.filter (fun x => !j.tooHigh x.1 ((x.2.1.head?.map (·.key)).getD 0)) }
          else p.2)) }

/-! ### Valid prefix (R122) -/

/-- Walk intervals of good bytes from x on. -/
def walkGood (g : List (Nat × Nat × Nat)) (i : Nat) : Nat → Nat → Nat
  | 0, x => x
  | n + 1, x =>
    match g.find? (fun t => t.1 == i && decide (t.2.1 ≤ x) && decide (x < t.2.2)) with
    | some t => walkGood g i n t.2.2
    | none => x

/-- Bytes of destination i from its start that were all written well. -/
def Job.prefixOf (j : Job) (i : Nat) : Nat := min j.len (walkGood j.good i j.good.length 0)

/-- First and one past the last byte a line operation enables. -/
def LineOp.lo (o : LineOp) : Nat := ((List.range 64).find? (fun i => o.mask.toNat.testBit i)).getD 0
def LineOp.hi (o : LineOp) : Nat := (((List.range 64).reverse.find? (fun i => o.mask.toNat.testBit i)).map (· + 1)).getD 0

/-- Source bytes read well from the start of a stream. -/
def Job.readOf (j : Job) (st : Nat) : Nat :=
  let a := (j.src st).fa
  match (linesOf a 0 j.len).find? (fun o => (j.line st o.line).isNone) with
  | none => j.len
  | some o => min j.len (o.line * 64 - a)

/-! ### Bursts of a job -/

def Queue.maxLines (s : State) (qid : Nat) (q : Queue) (rd : Bool) : Nat :=
  if q.cls = 1 then
    match Tbl.get qid s.tt.resv with
    | some r => let k := r.share rd; if 0 < k ∧ k < 64 then k else 64
    | none => 64
  else 64

/-- Present a data burst of a work item. -/
def State.presentWork (s : State) (w : Nat) (j : Job) (rd : Bool) (lines : List LineOp) (code : Nat) (port : Option Nat) : State :=
  let q := s.queue j.q
  let k := (Tbl.get w s.works).map (·.mover)
  let s1 := s.updWork w (fun x => { x with
    out := x.out + lines.length, rdBusy := if rd then true else x.rdBusy,
    wrBusy := if rd then x.wrBusy else setAt code true x.wrBusy })
  s1.present { id := 0, rd := rd, coh := j.coh, lines := lines, own := ⟨.work, w, code⟩, cls := q.cls, prio := q.prio,
               xset := q.xset, lim := q.lim, resv := if q.cls = 1 then some j.q else none, port := port, rq := j.q,
               ctx := j.q, mover := k.getD none, tenant := some j.tenant }

/-- Streams a job's segments read: source, second source of COMPARE. -/
def Job.streams (j : Job) : Nat := if j.op = 4 then 2 else if j.op = 2 ∨ j.op = 3 then 0 else 1
def Job.ndst (j : Job) : Nat := if j.op = 4 ∨ j.op = 5 then 0 else j.dsts.length

/-- A segment's first write, at offset x of a range at d, shares its line with the segment before, which still runs and has
no good response for it: that one goes first (R16, R146). -/
def State.sharedWait (s : State) (w : Work) (j : Job) (i d x lo : Nat) : Bool :=
  decide (0 < w.seg) && decide (x = lo) && decide ((d + lo) % 64 ≠ 0) &&
  (Tbl.vals s.works).any (fun v => v.uid == w.uid && v.who == 0 && v.seg + 1 == w.seg) &&
  !j.good.any (fun t => t.1 == i && t.2.2 == lo)

/-- Present the next read of a stream, if one is due. A STREAM MCOPY reads at most 16 bursts ahead of what its slowest
destination in service has been written (R129). -/
def State.tryRead (s : State) (wid st : Nat) : State :=
  match Tbl.get wid s.works with
  | none => s
  | some w =>
  match Tbl.get w.uid s.jobs with
  | none => s
  | some j =>
    let x := w.rdAt.getD st w.hi
    let k := if w.ph = 1 then 2 else st
    let a := (j.src k).fa
    if w.stop ∨ w.rdBusy ∨ w.hi ≤ x ∨ !j.allows x then s
    else
      let live := (List.range j.ndst).filter (fun i => !j.dead.contains i)
      let slow := (live.map (fun i => w.wrIss.getD i w.hi)).foldl min w.hi
      let behind := w.cuts.filter (fun e => decide (slow < e))
      if j.op = 6 ∧ j.stream ∧ 16 ≤ behind.length then s
      else
        let e := cutEnd a (if w.ph = 1 then [] else (j.dsts.map (·.fa))) x w.hi (Queue.maxLines s j.q (s.queue j.q) true)
        let s1 := s.updWork wid (fun w => { w with rdAt := setAt st e w.rdAt, cuts := behind ++ [e] })
        s1.presentWork wid j true (linesOf a x e) k (j.src k).port

/-- Where the data of a STREAM entry ends at its lowest source anomaly: its line's first byte (R127). -/
def Job.cutAt (j : Job) : Option Nat :=
  match j.low with
  | some a => if j.stream && a.src then some (a.off / 64 * 64) else none
  | none => none

/-- Present the next write of a destination, if its data is ready. -/
def State.tryWrite (s : State) (wid i : Nat) : State :=
  match Tbl.get wid s.works with
  | none => s
  | some w =>
  match Tbl.get w.uid s.jobs with
  | none => s
  | some j =>
    let x := w.wrAt.getD i w.hi
    let d := (j.dst i).fa
    if w.stop ∨ w.wrBusy.getD i true ∨ w.hi ≤ x ∨ (w.ph ≠ 2 && !j.allows x) ∨ j.dead.contains i ∨ w.ph = 1 then s
    else
      let e0 := cutEnd d (j.srcs.map (·.fa)) x w.hi (Queue.maxLines s j.q (s.queue j.q) false)
      let e := if w.ph = 2 then e0 else min e0 (j.cutAt.getD e0)
      let ready :=
        if w.ph = 2 ∨ j.op = 2 ∨ j.op = 3 then true
        else if j.stream then j.have_ 0 x e
        else j.have_ 0 w.lo w.hi && (j.anoms.all (fun a => !a.src || decide (a.off < w.lo ∨ w.hi ≤ a.off)))
      if !ready ∨ e ≤ x ∨ s.sharedWait w j i d x w.lo then s
      else
        let s1 := s.updWork wid (fun w => { w with wrAt := setAt i e w.wrAt })
        s1.presentWork wid j false (j.writeOps i x e (w.ph == 2)) i (j.dst i).port

/-- Everything of a work item has gone out and come back, or may not go out. -/
def State.workDone (s : State) (wid : Nat) : Bool :=
  match Tbl.get wid s.works with
  | none => true
  | some w =>
    match Tbl.get w.uid s.jobs with
    | none => true
    | some j =>
      decide (w.out = 0) &&
      (w.stop ||
       (((List.range j.streams).all (fun st => decide (w.hi ≤ w.rdAt.getD st w.hi) || !j.allows (w.rdAt.getD st w.hi)) || w.ph == 2) &&
        (List.range j.ndst).all (fun i => decide (w.hi ≤ w.wrAt.getD i w.hi) || j.dead.contains i || w.ph == 1 ||
          (w.ph != 2 && !j.allows (w.wrAt.getD i w.hi)) ||
          (w.ph != 2 && (match j.cutAt with | some p => decide (p ≤ w.wrAt.getD i w.hi) | none => false)) ||
          (w.ph != 2 && j.anoms.any (fun a => a.src && !j.stream && decide (w.lo ≤ a.off ∧ a.off < w.hi)))) &&
        (w.ph != 1 || decide (w.hi ≤ w.rdAt.getD 0 w.hi) || !j.allows (w.rdAt.getD 0 w.hi))))

/-- One round of presenting for a work item. -/
def State.pumpWork (s : State) (wid : Nat) : State :=
  match Tbl.get wid s.works with
  | none => s
  | some w =>
    match Tbl.get w.uid s.jobs with
    | none => s
    | some j =>
      let s1 := if w.ph = 1 then s.tryRead wid 0
        else if w.ph = 2 then s
        else (List.range j.streams).foldl (fun s st => s.tryRead wid st) s
      (List.range j.ndst).foldl (fun s i => s.tryWrite wid i) s1

/-- Buffer pool units of a work item (R30): ceil(LENGTH / 64 KiB) for an entry of one segment, 4 for each segment of a
longer one, 1 for the residue of a cut-through MCOPY. -/
def Job.unitsFor (j : Job) : Nat :=
  if (j.op = 1 ∨ j.op = 6) ∧ !j.stream then (if j.len ≤ 262144 then ceilDiv j.len 65536 else 4)
  else if j.op = 6 then 1 else 0

/-- Assign the next segments to Movers (R16, R17, R30). -/
def State.segRun (s : State) (uid : Nat) : Nat → State
  | 0 => s
  | n + 1 =>
    match Tbl.get uid s.jobs with
    | none => s
    | some j =>
      let k := j.nextSeg
      let lo := k * 262144
      if k ≥ j.segs ∨ !j.allows lo ∨ j.abort ∨ j.halt ∨ 8 ≤ j.flying.length ∨
         j.flying.any (fun w => match Tbl.get w s.works with | some v => decide (v.seg + 8 ≤ k) | none => false) then s
      else
        let hi := min j.len (lo + 262144)
        let units := j.unitsFor
        if s.unitsUsed + units > 44 then s
        else match s.moverFor (s.queue j.q).cls with
        | none => s
        | some m =>
          let w : Work := { uid := uid, seg := k, mover := some m, cls := (s.queue j.q).cls, lo := lo, hi := hi,
                            rdAt := List.replicate (max 1 j.streams) lo, wrAt := List.replicate j.ndst lo,
                            wrBusy := List.replicate j.ndst false, units := units, wrIss := List.replicate j.ndst lo }
          let id := s.nextId
          let s1 := { s with nextId := id + 1, works := Tbl.put id w s.works }
          State.segRun (s1.updJob uid (fun j => { j with nextSeg := k + 1, flying := j.flying ++ [id],
                                                          mover := if k = 0 then some m else j.mover })) uid n

/-- Finished work items leave; a verified ZERO segment turns to its read-back first (R109), where it lies below every
anomaly known (R135). -/
def State.retire (s : State) (uid : Nat) : State :=
  match Tbl.get uid s.jobs with
  | none => s
  | some j =>
    j.flying.foldl (fun s wid =>
      if !s.workDone wid then s
      else match Tbl.get wid s.works with
        | none => s
        | some w =>
          if j.verify ∧ w.ph = 0 ∧ !w.stop ∧ j.allows w.lo ∧ !j.abort then
            s.updWork wid (fun w => { w with ph := 1, rdAt := [w.lo] })
          else
            { s with works := Tbl.del wid s.works }.updJob uid (fun j => { j with flying := j.flying.filter (· != wid) })) s

/-! ### Outcome -/

/-- INFO[15:8] that names the attachment of a failed transaction (R134). -/
def attInfo (a : Option Nat) : Nat := match a with | some n => (n % 8) * 256 + 2048 | none => 0

/-- STATUS, INFO and RESULT of a COPY, FILL, ZERO, COMPARE, CHECK or MCOPY at its end, apart from the checksum
(R32, R122, R127, R129, R133, R134, R229). DESIGN CHOICE (log entry 77): the transaction that R134 calls the first failed
one is that of the anomaly at the lowest offset; a seed read that returned poison leaves INFO[11:8] 0, as R134 lists no
attachment for SOURCE_POISON; a CHECK or COMPARE whose Mover was fenced reports the source bytes read well. -/
def Job.outcome (j : Job) : Nat × Nat × Nat :=
  let okMap := ((List.range j.ndst).filter (fun i => !j.dead.contains i && decide (j.prefixOf i = j.len))).foldl (fun a i => a + 2 ^ i) 0
  let pm := (j.poisoned.eraseDups.foldl (fun a i => a + 2 ^ i) 0) * 256
  let pref := if j.op = 4 then min (j.readOf 0) (j.readOf 1) else if j.op = 5 then j.readOf 0 else j.prefixOf 0
  let mpref := ((List.range j.ndst).map j.prefixOf).foldl min j.len
  if j.halt then (0x10, if j.op = 6 then pm else 0, if j.op = 6 then mpref * 65536 else pref)
  else if j.abort then
    if j.op = 6 then (0x18, pm, okMap + j.readOf 0 * 65536) else (0x18, 0, pref)
  else match j.low with
  | none =>
    if j.op = 6 then
      let n := j.ndst
      let st := if okMap = 2 ^ n - 1 then 0 else if okMap = 0 then 0x11 else 2
      (st, pm, okMap + j.len * 65536)
    else (0, 0, if j.op = 5 then 0 else j.len)
  | some a =>
    if a.st = 1 then (1, 0, a.off)
    else
      let streamed := j.stream && a.src
      let st := if streamed ∧ a.st = 0x12 then 0x13 else a.st
      let res := if streamed then a.off / 64 * 64
                 else if j.op = 4 ∨ j.op = 5 then a.off else pref
      let inf := if j.op ≠ 6 ∧ (st = 0x10 ∨ st = 0x11 ∨ st = 0x14 ∨ st = 0x19) then attInfo a.att else 0
      if j.op = 6 then (st, pm + (if streamed then 4 else 0), (if streamed then a.off / 64 * 64 else if j.len ≤ 262144 then 0 else mpref) * 65536)
      else (st, inf + (if streamed then 4 else 0), res)

/-- Bytes the stored checksum covers when the entry ends (R126). -/
def Job.covered (j : Job) : Nat :=
  let o := j.outcome
  if j.op = 5 ∧ o.1 = 0 then j.len else if j.op = 6 then o.2.2 / 65536 else o.2.2

/-- The checksum of the covered bytes (R123 to R126). -/
def Job.checksum (j : Job) (n : Nat) : Nat := csumOf j.alg j.cont j.seed ((List.range n).map j.outByte)

/-- End of the job: hand the outcome to the entry; TARGET_LOST holds the queue (R234). The checksum of a PARTIAL_MULTICAST
covers the whole source, so INFO[0] stays 0. DESIGN CHOICE (log entry 78): INFO[15:8] of an MCOPY whose checksum store
failed names the store's attachment, as R126 says, not the POISON_MAP of R134. -/
def State.endJob (s : State) (uid : Nat) : State :=
  match Tbl.get uid s.jobs with
  | none => s
  | some j =>
    let o := j.outcome
    let bad := o.1 ≠ 0
    let c := if j.alg = 0 ∨ !j.stored then 0 else j.checksum j.covered
    let st := match j.csumFail with | some f => if bad then o.1 else f.1 | none => o.1
    let inv : Nat := if j.alg ≠ 0 ∧ ((bad ∧ o.1 ≠ 2) ∨ !j.stored ∨ j.csumFail.isSome) then 1 else 0
    let info := match j.csumFail with
      | some f => if bad then o.2.1 + 1 else 1 + attInfo f.2.1
      | none => o.2.1 + inv
    let res := if j.op = 5 ∧ st = 0 then c else if j.op = 5 ∧ !bad then j.len else o.2.2
    let port := match j.csumFail with
      | some f => if bad then (j.low.map (·.port)).getD none else f.2.2
      | none => (j.low.map (·.port)).getD none
    let s1 := s.finish j.q uid st info (BitVec.ofNat 64 res) (BitVec.ofNat 64 c)
    let s2 := { s1 with jobs := Tbl.del uid s1.jobs }
    if st = 0x14 then (match port with | some p => s2.enterHeld j.q p | none => s2) else s2

/-- The Mover of a poison pass (R27): that of the entry, where it is of one segment; else the next free one. -/
def State.poisonMover (s : State) (j : Job) : Option Nat :=
  match j.mover with
  | some m => if j.segs ≤ 1 ∧ !s.mvFenced m then some m else s.moverFor (s.queue j.q).cls
  | none => s.moverFor (s.queue j.q).cls

/-- After the data: the poison pass of R127, then the checksum store of R126, then the end. -/
def State.conclude (s : State) (uid : Nat) : State :=
  match Tbl.get uid s.jobs with
  | none => s
  | some j =>
    if j.ph = 2 ∧ j.stream ∧ !j.abort ∧ !j.halt ∧ ((j.low.map (fun a => a.src && a.st != 1)).getD false) ∧ j.moved then
      let lo := ((j.low.map (·.off)).getD 0) / 64 * 64
      match s.poisonMover j with
      | none => s
      | some m =>
        let n := j.ndst
        let w : Work := { uid := uid, seg := j.segs, mover := some m, cls := (s.queue j.q).cls, lo := lo, hi := j.len,
                          rdAt := [], wrAt := List.replicate n lo, wrBusy := List.replicate n false, wrIss := List.replicate n lo, ph := 2 }
        let id := s.nextId
        let s1 := { s with nextId := id + 1, works := Tbl.put id w s.works }
        let s2 := s1.updJob uid (fun j => { j with ph := 3, flying := [id],
                                                   poisoned := (List.range n).filter (fun i => !j.dead.contains i) })
        s2.pumpWork id
    else if j.alg ≠ 0 ∧ j.moved ∧ j.ph < 4 then
      match j.csumR with
      | none => s.endJob uid
      | some r =>
        let s1 := s.updJob uid (fun j => { j with ph := 4, stored := true })
        let c := j.checksum j.covered
        s1.ctl j.q false [wrBytes r.fa (leBytes 8 c)] ⟨.csum, uid, 0⟩ r.port false
    else if j.ph = 4 then s
    else s.endJob uid

end Sys2Proof.Machine
end

