-- ==== Sys2Proof/Machine/Reduce.lean ====
section
/-! DEFINITION. GATHER, SCATTER and GREDUCE in execution (chapter 5): index tables, elements and rows, the fixed
order of reduction, the prefix and its results. -/

namespace Sys2Proof.Machine

/-- Positions per segment (R146), bags per group (R159). -/
def Job.per (j : Job) : Nat :=
  if j.op = 10 then max 1 (262144 / (64 * ceilDiv (bits j.rcfg 0 16) 16)) else max 1 (262144 / j.esize)

def Job.elem (j : Job) : Nat := if j.op = 10 then rowBytes j.rcfg else j.esize

/-- Where index value v leads (R139): the fabric address and port, or the INFO[15:8] of an index out of range. -/
def Job.target (j : Job) (stn : Nat) (v : Nat) : Except Nat (Nat × Option Nat) :=
  if j.abs then
    if v ≥ 2 ^ 52 then .error 3
    else match findWin j.wins j.tenant v j.elem with
    | none => .error 3
    | some (_, w) =>
      if (if j.op = 9 then !w.wr else !w.rd) || (j.coh && !w.mem) || w.station != stn ||
         (j.op == 10 && decide (v % rowAlign (bits j.rcfg 16 4) ≠ 0)) then .error 3
      else .ok (addOff v w.offset, some w.port)
  else if v ≥ j.nrows then .error 1
  else .ok ((j.tab 7).fa + v * j.stride, (j.tab 7).port)

/-- The bag of a position, among those whose offsets are read. -/
def Job.bagOf (j : Job) (p lo hi : Nat) : Nat :=
  ((List.range (hi - lo)).find? (fun i => match j.off (lo + i), j.off (lo + i + 1) with
    | some a, some b => decide (a ≤ p ∧ p < b) | _, _ => false)).getD 0 + lo

/-- The first entry of w bytes of a table that a failed line of a read from byte `key` on was to give. -/
def Rng.entryAt (r : Rng) (w line key : Nat) : Nat := max (key / w) (ceilDiv (line * 64 - r.fa) w)

/-- The anomaly of a transaction of a gather, scatter or reduce work item that failed or was refused (R162 to R165): its
position or bag, its order among anomalies of one position, the table code of INFO[15:12]. DESIGN CHOICE (log entry 80): the
index position of a failed read of bag offsets is where the bag begins, 0 where that is not known. -/
def Job.gAnom (j : Job) (w : Work) (rd : Bool) (st line key c : Nat) (att port : Option Nat) : Anom :=
  let at_ := fun (off rank aux code : Nat) =>
    ({ off := off, st := c, att := att, port := port, info := code * 4096, rank := rank, aux := aux, src := rd } : Anom)
  if !rd then at_ key (2 ^ 40) 0 5
  else if j.op ≠ 10 then
    if st = stIdx then at_ ((j.tab 4).entryAt j.iw line key) 1 0 1
    else if st = 0 then at_ key 3 0 4
    else at_ (st - 16) 3 0 0
  else
    let row := fun (p k code : Nat) => at_ (j.bagOf p w.lo w.hi) (p * 8 + k) p code
    if st = stOff then
      let e := (j.tab 5).entryAt j.iw line key
      let b := if e ≤ w.lo then w.lo else e - 1
      at_ b 0 ((j.off b).getD 0) 2
    else if st = stIdx then row ((j.tab 4).entryAt j.iw line key) 1 1
    else if st = stWgt then row ((j.tab 6).entryAt 4 line key) 3 3
    else row (st - 16) 3 0

/-! ### Index prefetch (R28, R33, R146) -/

/-- Data banks whose stripe is gone, from the boundary after their fence (R33). -/
def popcount (n w : Nat) : Nat := ((List.range w).filter (fun i => n.testBit i)).length
def State.lostBanks (s : State) : Nat := popcount s.sbx.sbank 8

/-- Size of the index prefetch partition (R33). -/
def State.idxSize (s : State) : Nat := ([4096, 2560].getD s.lostBanks 1024) * 1024

/-- Index prefetch space of a work item: 4 KiB (R146). DESIGN CHOICE (log entry 81): a bag group takes 4 KiB for each of its
tables, and a work item holds its space as long as it runs. -/
def Job.idxBytes (j : Job) : Nat :=
  4096 * (if j.op < 8 then 0 else if j.op = 10 then (if bits j.rcfg 24 2 = 3 then 3 else 2) else 1)

def State.idxUsed (s : State) : Nat :=
  (Tbl.vals s.works).foldl (fun a w => a + (if w.who = 0 then ((Tbl.get w.uid s.jobs).map Job.idxBytes).getD 0 else 0)) 0

/-- The partition has room for one more work item of the job. -/
def State.idxFits (s : State) (j : Job) : Bool := j.idxBytes == 0 || decide (s.idxUsed + j.idxBytes ≤ s.idxSize)

/-! ### Reads -/

/-- Present the next read of a work item that waits cut (R18). -/
def State.nextRead (s : State) (wid : Nat) : State :=
  match Tbl.get wid s.works with
  | none => s
  | some w =>
    match w.todo, Tbl.get w.uid s.jobs with
    | x :: t, some j =>
      if w.rdBusy ∨ w.stop then s
      else (s.updWork wid (fun w => { w with todo := t })).presentWork wid j true x.2.1 x.1 x.2.2
    | _, _ => s

/-- Ask for lines of a stream, in bursts as R18 and R45 cut them. -/
def State.askRead (s : State) (wid : Nat) (j : Job) (st : Nat) (lines : List LineOp) (port : Option Nat) : State :=
  let cut := splitLines (Queue.maxLines s j.q (s.queue j.q) true) lines
  (s.updWork wid (fun w => { w with todo := w.todo ++ cut.map (fun l => (st, l, port)) })).nextRead wid

/-- A read of a work item for this line of a stream is waiting, granted or out. -/
def State.onWay (s : State) (wid st line : Nat) : Bool :=
  let own : Own := ⟨.work, wid, st⟩
  let has := fun (b : Burst) => b.rd && b.own == own && b.lines.any (fun o => o.line == line)
  s.bursts.any has || s.granted.any has || s.txns.any (fun t => t.rd && t.own == own && t.op.line == line)

/-- Ask for a table from an entry on: whole lines, at most 4 KiB and within the page (R146). -/
def State.readTab (s : State) (wid : Nat) (j : Job) (st : Nat) (r : Rng) (fa bytes : Nat) : State :=
  let e := min (min (fa + bytes) (nextPage fa)) ((fa / 64 + 64) * 64)
  s.askRead wid j st (rdLines fa (e - fa) (fa - r.fa)) r.port

/-! ### GATHER and SCATTER -/

/-- Next reads of a gather or scatter segment: index lines within 4 KiB ahead of use, elements in position order. The dense
bytes of a skipped SCATTER position are read as well (R146). -/
def State.gsRead (s : State) (wid : Nat) (w : Work) (j : Job) : State :=
  let idx := j.tab 4
  let lim := match j.limit with | some m => min w.hi m | none => w.hi
  if w.rdBusy ∨ w.stop then s
  else if w.todo ≠ [] then s.nextRead wid
  else
    -- the first position not yet handled
    let p := w.pos
    let d := j.tab 0
    let dense := (rdLines (d.fa + p * j.esize) j.esize p).filter (fun o => (j.line 0 o.line).isNone && !s.onWay wid 0 o.line)
    if p < lim then
      match j.entry stIdx idx j.iw p with
      | none =>
        -- its index line is not there: read it, unless it is on the way
        if w.pos2 ≤ p * j.iw then
          let fa := idx.fa + p * j.iw
          let n := min 4096 ((w.hi - p) * j.iw)
          let e := min (fa + n) (nextPage fa)
          (s.updWork wid (fun w => { w with pos2 := e - idx.fa })).readTab wid j stIdx idx fa n
        else s
      | some v =>
        match j.target s.stn.id v with
        | .error c =>
          if j.oorSkip then
            let s1 := (s.updWork wid (fun w => { w with pos := p + 1 })).updJob w.uid (fun j => { j with skipped := j.skipped ++ [p] })
            if j.op = 9 ∧ dense ≠ [] then s1.askRead wid j 0 dense d.port else s1
          else s.anomaly w.uid { off := p, st := 0x1A, info := c * 256, rank := 2 }
        | .ok (fa, port) =>
          let s1 := s.updWork wid (fun w => { w with pos := p + 1, live := Tbl.put p fa w.live })
          if j.op = 8 then s1.askRead wid j (stEl p) (rdLines fa j.esize p) port
          else if dense.isEmpty then s1 else s1.askRead wid j 0 dense d.port
    else s

/-- Byte x of the dense range of a GATHER: its element's byte, or zero for a skipped position. -/
def Job.denseByte (j : Job) (live : Tbl Nat) (x : Nat) : Nat :=
  let p := x / j.esize
  if j.skipped.contains p then 0 else j.faByte (stEl p) (Tbl.getD p 0 live + x % j.esize)

/-- Whether position p of a GATHER has its data. -/
def Job.elemReady (j : Job) (live : Tbl Nat) (p : Nat) : Bool :=
  j.skipped.contains p || (match Tbl.get p live with | some fa => j.hasFa (stEl p) fa j.esize | none => false)

/-- Next write of a GATHER segment: ascending dense bytes, as far as elements are ready. -/
def State.gWrite (s : State) (wid : Nat) (w : Work) (j : Job) : State :=
  if w.wrBusy.getD 0 true ∨ w.stop then s
  else
    let r := j.tab 1
    let x := w.wrAt.getD 0 0
    let hiP := match j.limit with | some m => min w.hi m | none => w.hi
    let hi := hiP * j.esize
    if hi ≤ x then s
    else
      let e := cutEnd r.fa [] x hi (Queue.maxLines s j.q (s.queue j.q) false)
      let ok := (List.range ((e - 1) / j.esize - x / j.esize + 1)).all (fun i => j.elemReady w.live (x / j.esize + i))
      if !ok ∨ s.sharedWait w j 0 r.fa x (w.lo * j.esize) then s
      else
        let ops := (linesOf r.fa x e).map (fun o =>
          let lo := max (o.line * 64) (r.fa + x)
          let h := min (o.line * 64 + 64) (r.fa + e)
          { o with mask := maskOf (lo - o.line * 64) (h - o.line * 64), key := (lo - r.fa) / j.esize,
                   data := lineOf ((List.range 64).map (fun k =>
                     let q := o.line * 64 + k
                     if lo ≤ q ∧ q < h then j.denseByte w.live (q - r.fa) else 0)) })
        (s.updWork wid (fun w => { w with wrAt := [e] })).presentWork wid j false ops 0 r.port

/-- Next write of a SCATTER segment: position bag (the write cursor), one element at a time. -/
def State.sWrite (s : State) (wid : Nat) (w : Work) (j : Job) : State :=
  if w.wrBusy.getD 0 true ∨ w.stop then s
  else
    let p := w.bag
    let hiP := match j.limit with | some m => min w.hi m | none => w.hi
    if hiP ≤ p then s
    else if j.skipped.contains p then
      (s.updWork wid (fun w => { w with bag := p + 1 })).updJob w.uid (fun j => { j with ok := j.ok ++ [p] })
    else match Tbl.get p w.live with
    | none => s
    | some fa =>
      let d := j.tab 0
      if !j.hasFa 0 (d.fa + p * j.esize) j.esize then s
      else
        let x := w.wrAt.getD 0 0
        let e := cutEnd fa [] x j.esize (Queue.maxLines s j.q (s.queue j.q) false)
        let ops := (linesOf fa x e).map (fun o =>
          let lo := max (o.line * 64) (fa + x)
          let h := min (o.line * 64 + 64) (fa + e)
          { o with mask := maskOf (lo - o.line * 64) (h - o.line * 64), key := p,
                   data := lineOf ((List.range 64).map (fun k =>
                     let q := o.line * 64 + k
                     if lo ≤ q ∧ q < h then j.faByte 0 (d.fa + p * j.esize + (q - fa)) else 0)) })
        let v := (j.entry stIdx (j.tab 4) j.iw p).getD 0
        let port := match j.target s.stn.id v with | .ok t => t.2 | .error _ => none
        let s1 := s.updWork wid (fun w => { w with wrAt := [if e = j.esize then 0 else e], bag := if e = j.esize then p + 1 else p })
        let s2 := s1.updJob w.uid (fun j => { j with left := if x = 0 then Tbl.put p (linesOf fa 0 j.esize).length j.left else j.left })
        s2.presentWork wid j false ops 0 port

/-! ### GREDUCE -/

/-- The value of lane i of a row, in FP32 (R153, R154). -/
def laneVal (rcfg : Nat) (row : List Nat) (i : Nat) : Fv :=
  let it := bits rcfg 16 4
  let b := elemBytes it
  if it = 5 then
    int8Val (Fv.decode fp32 (leNat ((row.drop (bits rcfg 0 16)).take 4))) (row.getD i 0)
  else Fv.decode (fmtOf it) (leNat ((row.drop (b * i)).take b))

def f32of (v : Fv) : Nat := (Fv.encode fp32 false v).1

/-- What one lane step finds: new accumulator, NaN output, an infinity among its values, saturation, and the code of its
first NaN (0x10) or infinity (0x11). -/
structure LaneR where
  acc : Nat
  nan : Bool := false
  inf : Bool := false
  sat : Bool := false
  trap : Option Nat := none
deriving DecidableEq, Repr

/-- The first NaN or infinity in a sequence of values (R155). -/
def firstTrap : List Fv → Option Nat
  | [] => none
  | v :: t => if v.isNan then some 0x10 else if v.isInf then some 0x11 else firstTrap t

/-- Apply one row to one lane (R152 to R157). DEDUCED (log entry 82): within a lane the scale or the input comes first, then
the weight, then the accumulator, in the order in which R155 names them. -/
def laneStep (rcfg : Nat) (first : Bool) (acc : Nat) (wgt : Nat) (row : List Nat) (i : Nat) : LaneR :=
  let op := bits rcfg 24 2
  if bits rcfg 16 4 = 6 then
    let x := signed (leNat ((row.drop (4 * i)).take 4)) 32
    let a := signed acc 32
    let z := if first then x else if op = 2 then max a x else a + x
    { acc := unsign (sat32 z) 32, sat := decide (sat32 z ≠ z) }
  else
    let x := laneVal rcfg row i
    let a := Fv.decode fp32 acc
    let w := Fv.decode fp32 wgt
    let r := if op = 3 then (if first then Fv.mul w x else Fv.fma w x a)
             else if first then x else if op = 2 then Fv.maxV a x else Fv.add a x
    let vals := (if bits rcfg 16 4 = 5 then [Fv.decode fp32 (leNat ((row.drop (bits rcfg 0 16)).take 4))] else []) ++ [x] ++
      (if op = 3 then [w] else []) ++ [r]
    { acc := f32of r, inf := vals.any Fv.isInf, trap := firstTrap vals }

def laneCount (rcfg : Nat) : Nat := bits rcfg 0 16

/-- Final value and output conversion of one lane (R152, R154, R156, R157): encoding, NaN, infinity, saturated. -/
def laneOut (rcfg n : Nat) (acc : Nat) : LaneR :=
  let op := bits rcfg 24 2
  let ot := bits rcfg 20 4
  let osat := bit rcfg 31
  if bits rcfg 16 4 = 6 then
    let a := signed acc 32
    let z := if op = 1 then divNE a n else a
    if ot = 6 then { acc := unsign z 32 }
    else { acc := f32of (Fv.fin (decide (z < 0)) z.natAbs 0) }
  else
    let v := Fv.decode fp32 acc
    let r := if op = 1 then Fv.divN v n else v
    let e := Fv.encode (fmtOf ot) osat r
    let o := Fv.decode (fmtOf ot) e.1
    { acc := e.1, nan := o.isNan, sat := e.2, trap := firstTrap [r, o] }

/-- First NaN (0x10) or infinity (0x11) among lanes, in lane order. -/
def trapOf (rs : List LaneR) : Option Nat := rs.findSome? (·.trap)

def Job.nanTrap (j : Job) : Bool := bit j.rcfg 30 && bits j.rcfg 16 4 != 6

/-- Lines of row data of a group outstanding or waiting in reorder (R159: at most 2,048). -/
def Job.rowLines (j : Job) (w : Work) : Nat := w.live.length * (ceilDiv j.elem 64 + 1)

/-- Next read of a bag group: offsets, then indices and weights, then rows, in order (R159). `bag2` and `pos` are the
read cursors (bag, position), `bag` and `pos2` the consume pointers. -/
def State.rRead (s : State) (wid : Nat) (w : Work) (j : Job) : State :=
  if w.rdBusy ∨ w.stop then s
  else if w.todo ≠ [] then s.nextRead wid
  else
  let lim := match j.low with | some a => min w.hi (a.off + 1) | none => w.hi
  let b := w.bag2
  if lim ≤ b then s
  else
  let offs := j.tab 5
  match j.off b, j.off (b + 1) with
  | some o0, some o1 =>
    let bad0 := b = 0 ∧ j.nidx < o0
    if bad0 ∨ o1 < o0 ∨ j.nidx < o1 then
      (s.updWork wid (fun w => { w with bag2 := w.hi })).anomaly w.uid
        { off := b, st := 0x1A, info := 2 * 256, rank := 0, aux := if bad0 then 0 else b + 1 }
    else
      let p := max w.pos o0
      if o1 ≤ p then s.updWork wid (fun w => { w with bag2 := b + 1, pos := o1 })
      else
        let stopHere := match j.low with | some a => decide (a.off = b ∧ a.rank ≤ p * 8 + 8) | none => false
        if stopHere then s.updWork wid (fun w => { w with bag2 := w.hi })
        else
        let idx := j.tab 4
        let wgt := j.tab 6
        let wsum := bits j.rcfg 24 2 = 3
        match j.entry stIdx idx j.iw p with
        | none =>
          if s.onWay wid stIdx ((idx.fa + p * j.iw) / 64) then s
          else s.readTab wid j stIdx idx (idx.fa + p * j.iw) (min 4096 ((o1 - p) * j.iw))
        | some v =>
          if wsum ∧ (j.entry stWgt wgt 4 p).isNone then
            if s.onWay wid stWgt ((wgt.fa + p * 4) / 64) then s
            else s.readTab wid j stWgt wgt (wgt.fa + p * 4) (min 4096 ((o1 - p) * 4))
          else match j.target s.stn.id v with
          | .error c =>
            let s1 := s.updWork wid (fun w => { w with pos := p + 1 })
            if j.oorSkip then s1.updJob w.uid (fun j => { j with skipped := if j.skipped.contains p then j.skipped else j.skipped ++ [p] })
            else s1.anomaly w.uid { off := b, st := 0x1A, info := c * 256, rank := p * 8 + 2, aux := p }
          | .ok (fa, port) =>
            if 2048 < j.rowLines w + ceilDiv j.elem 64 + 1 ∧ w.live ≠ [] then s
            else
              let s1 := s.updWork wid (fun w => { w with pos := p + 1, live := Tbl.put p fa w.live })
              s1.askRead wid j (stEl p) (rdLines fa j.elem p) port
  | _, _ =>
    let miss := if (j.off b).isNone then b else b + 1
    if s.onWay wid stOff ((offs.fa + miss * j.iw) / 64) then s
    else s.readTab wid j stOff offs (offs.fa + miss * j.iw) (min 4096 ((w.hi + 1 - miss) * j.iw))

/-- Consume rows at the consume pointer, and finish bags (R152, R158, R159). One row or bag per call of the fuel. -/
def State.rApply (s : State) (wid : Nat) : Nat → State
  | 0 => s
  | fuel + 1 =>
    match Tbl.get wid s.works with
    | none => s
    | some w =>
    match Tbl.get w.uid s.jobs with
    | none => s
    | some j =>
      let b := w.bag
      if w.hi ≤ b ∨ w.stop then s
      else match j.off b, j.off (b + 1) with
      | some o0, some o1 =>
        if (b = 0 ∧ j.nidx < o0) ∨ o1 < o0 ∨ j.nidx < o1 then s
        else
        let p := max w.pos2 o0
        -- nothing at or above the lowest anomaly is consumed
        if (match j.low with | some a => decide (a.off < b ∨ (a.off = b ∧ (a.rank ≤ p * 8 + 4 ∨ o1 ≤ p))) | none => false) then s
        else if p < o1 then
          if j.skipped.contains p then State.rApply (s.updWork wid (fun w => { w with pos2 := p + 1 })) wid fuel
          else match Tbl.get p w.live with
          | none => s
          | some fa =>
            if !j.hasFa (stEl p) fa j.elem then s
            else
              let row := j.faBytes (stEl p) fa j.elem
              let wgt := (j.entry stWgt (j.tab 6) 4 p).getD 0
              let rs := (List.range (laneCount j.rcfg)).map (fun i =>
                laneStep j.rcfg (w.n == 0) (w.acc.getD i 0) wgt row i)
              let s0 := s.meter 3 j.tenant 0 (laneCount j.rcfg)
              let trap := if j.nanTrap then trapOf rs else none
              match trap with
              | some c => (s0.updWork wid (fun w => { w with bag2 := w.hi, pos2 := p })).anomaly w.uid
                  { off := b, st := 0x1B, info := c * 256, rank := p * 8 + 4, aux := p }
              | none =>
                let s1 := s0.updJob w.uid (fun j => { j with
                  seen := j.seen ||| (if rs.any (·.inf) then 2 else 0) ||| (if rs.any (·.sat) then 4 else 0),
                  got := j.got.filter (fun g => g.1 != stEl p) })
                State.rApply (s1.updWork wid (fun w => { w with
                  pos2 := p + 1, acc := rs.map (·.acc), n := w.n + 1, lastPos := p, live := Tbl.del p w.live })) wid fuel
        else
          let outs := (List.range (laneCount j.rcfg)).map (fun i => laneOut j.rcfg w.n (w.acc.getD i 0))
          let empty := w.n = 0
          let trap := if j.nanTrap ∧ !empty then trapOf outs else none
          match trap with
          | some c => (s.updWork wid (fun w => { w with bag2 := w.hi })).anomaly w.uid
              { off := b, st := 0x1B, info := c * 256, rank := w.lastPos * 8 + 4, aux := w.lastPos }
          | none =>
            let eb := elemBytes (bits j.rcfg 20 4)
            let bytes := if empty then List.replicate (outBytes j.rcfg) 0 else outs.flatMap (fun r => leBytes eb r.acc)
            let s1 := s.updJob w.uid (fun j => { j with seen := j.seen |||
              (if !empty ∧ outs.any (·.nan) then 1 else 0) |||
              (if !empty ∧ outs.any (·.sat) then 4 else 0) ||| (if empty then 8 else 0) })
            State.rApply (s1.updWork wid (fun w => { w with
              bag := b + 1, acc := [], n := 0, pos2 := o1, rows := Tbl.put b bytes w.rows })) wid fuel
      | _, _ => s

/-- Next output write of a bag group: rows in ascending bag order. -/
def State.rWrite (s : State) (wid : Nat) (w : Work) (j : Job) : State :=
  if w.wrBusy.getD 0 true ∨ w.stop then s
  else match w.rows with
  | [] => s
  | (b, bytes) :: _ =>
    if !(match j.low with | some a => decide (b < a.off) | none => true) then s
    else
      let ob := outBytes j.rcfg
      let r := j.tab 1
      let fa := r.fa + b * ob
      let x := w.wrAt.getD 0 0
      let e := cutEnd fa [] x ob (Queue.maxLines s j.q (s.queue j.q) false)
      let ops := (linesOf fa x e).map (fun o =>
        let lo := max (o.line * 64) (fa + x)
        let h := min (o.line * 64 + 64) (fa + e)
        { o with mask := maskOf (lo - o.line * 64) (h - o.line * 64), key := b,
                 data := lineOf ((List.range 64).map (fun k =>
                   let q := o.line * 64 + k
                   if lo ≤ q ∧ q < h then bytes.getD (q - fa) 0 else 0)) })
      let s1 := s.updWork wid (fun w => { w with wrAt := [if e = ob then 0 else e], rows := if e = ob then w.rows.drop 1 else w.rows })
      let s2 := s1.updJob w.uid (fun j => { j with left := if x = 0 then Tbl.put b (linesOf fa 0 ob).length j.left else j.left })
      s2.presentWork wid j false ops 0 r.port

/-- One round for a gather, scatter or reduce work item. The read step is repeated a few times, since a step may only
move a cursor. -/
def State.pumpG1 (s : State) (wid : Nat) : State :=
  match Tbl.get wid s.works with
  | none => s
  | some w =>
  match Tbl.get w.uid s.jobs with
  | none => s
  | some j =>
    if j.op = 10 then
      let s1 := (s.rRead wid w j).rApply wid 64
      match Tbl.get wid s1.works, Tbl.get w.uid s1.jobs with
      | some w', some j' => s1.rWrite wid w' j'
      | _, _ => s1
    else
      let s1 := s.gsRead wid w j
      match Tbl.get wid s1.works, Tbl.get w.uid s1.jobs with
      | some w', some j' => if j.op = 8 then s1.gWrite wid w' j' else s1.sWrite wid w' j'
      | _, _ => s1

def State.pumpG (s : State) (wid : Nat) : State := iter (fun s => s.pumpG1 wid) 64 s

/-- A gather, scatter or reduce work item has nothing left below the lowest anomaly. -/
def State.gDone (s : State) (wid : Nat) : Bool :=
  match Tbl.get wid s.works with
  | none => true
  | some w =>
  match Tbl.get w.uid s.jobs with
  | none => true
  | some j =>
    decide (w.out = 0) && (w.stop || j.abort ||
    (let hi := match j.low with | some a => min w.hi a.off | none => w.hi
     w.todo.isEmpty &&
     if j.op = 8 then decide (min w.hi hi ≤ w.pos) && decide (hi * j.esize ≤ w.wrAt.getD 0 0 ∨ hi ≤ w.lo)
     else if j.op = 9 then decide (hi ≤ w.bag)
     else decide (hi ≤ w.bag) && w.rows.all (fun r => decide (hi ≤ r.1))))

/-- Assign the next segments or bag groups (R146, R159, R160): a group needs an accumulator allocation and a quadrant. -/
def allocTable : List Nat := [32, 30, 28, 20, 12, 4, 4]
def State.allocMax (s : State) : Nat := allocTable.getD s.lostBanks 4
def State.groups (s : State) : Nat := ((Tbl.vals s.works).filter (fun w => w.quad.isSome)).length
/-- The unfenced, powered quadrant with the fewest groups, lowest-numbered among equals (R160). -/
def State.quadFor (s : State) : Option Nat :=
  argmin (fun q => ((Tbl.vals s.works).filter (fun w => w.quad == some q)).length)
    ((List.range 4).filter (fun q => !s.rqFenced q && s.isOn (domRq q)))

/-- A job has a next segment or group that may be assigned, places apart (R16, R159). -/
def State.nextDue (s : State) (j : Job) : Bool :=
  decide (j.nextSeg < j.segs) && j.allows (j.nextSeg * j.per) && !j.abort && !j.halt && decide (j.flying.length < 8) &&
  !j.flying.any (fun w => match Tbl.get w s.works with | some v => decide (v.seg + 8 ≤ j.nextSeg) | none => false)

/-- A group admitted earlier waits for an allocation: it takes the next one (R165). -/
def State.allocWaits (s : State) (adm : Nat) : Bool :=
  (Tbl.vals s.jobs).any (fun k => k.op == 10 && k.ph == 2 && decide (k.adm < adm) && s.nextDue k)

def State.gsegRun (s : State) (uid : Nat) : Nat → State
  | 0 => s
  | n + 1 =>
    match Tbl.get uid s.jobs with
    | none => s
    | some j =>
      let k := j.nextSeg
      let lo := k * j.per
      if !s.nextDue j ∨ !s.idxFits j then s
      else if j.op = 10 ∧ (s.allocMax ≤ s.groups ∨ s.quadFor.isNone ∨ s.allocWaits j.adm) then s
      else match s.moverFor (s.queue j.q).cls with
      | none => s
      | some m =>
        let hi := min j.len (lo + j.per)
        let w : Work := { uid := uid, seg := k, mover := some m, cls := (s.queue j.q).cls, lo := lo, hi := hi,
                          wrAt := [if j.op = 8 then lo * j.esize else 0], wrBusy := [false],
                          quad := if j.op = 10 then s.quadFor else none,
                          pos := if j.op = 10 then 0 else lo, pos2 := if j.op = 10 then 0 else lo * j.iw,
                          bag := lo, bag2 := lo }
        let id := s.nextId
        let s1 := { s with nextId := id + 1, works := Tbl.put id w s.works }
        State.gsegRun (s1.updJob uid (fun j => { j with nextSeg := k + 1, flying := j.flying ++ [id] })) uid n

/-- Good prefix: dense elements, positions or bags (R163). -/
def Job.gPrefix (j : Job) : Nat :=
  let lim := match j.low with | some a => if j.halt then j.len else a.off | none => j.len
  if j.op = 8 then min lim (walkGood j.good 0 j.good.length 0 / j.esize)
  else
    match (List.range lim).find? (fun p => !j.ok.contains p) with
    | none => lim
    | some p => p

/-- STATUS, INFO and RESULT of GATHER, SCATTER and GREDUCE (R32, R162, R164). -/
def Job.gOutcome (j : Job) : Nat × Nat × Nat :=
  let pr := j.gPrefix
  let sk := (j.skipped.filter (fun p => decide (p < pr))).length
  if j.halt then (0x10, 0, pr + (if j.op = 10 then 0 else sk) * 2 ^ 32)
  else if j.abort then (0x18, 0, pr + (if j.op = 10 then 0 else sk) * 2 ^ 32)
  else match j.low with
  | none => (0, if j.op = 10 then j.seen * 256 else 0, j.len + j.skipped.length * 2 ^ 32)
  | some a =>
    let inf := a.info + (if a.st = 0x10 ∨ a.st = 0x11 ∨ a.st = 0x14 ∨ a.st = 0x19 then attInfo a.att else 0)
    (a.st, inf, pr + (if j.op = 10 then a.aux else sk) * 2 ^ 32)

/-- The dense bytes a checksum covers (R146, R163). -/
def Job.gDense (j : Job) (stn n : Nat) : List Nat :=
  if j.op = 9 then
    let d := j.tab 0
    j.faBytes 0 d.fa n
  else (List.range n).map (fun x =>
    let p := x / j.esize
    if j.skipped.contains p then 0
    else match j.entry stIdx (j.tab 4) j.iw p with
      | none => 0
      | some v => match j.target stn v with
        | .ok t => j.faByte (stEl p) (t.1 + x % j.esize)
        | .error _ => 0)

def Job.gChecksum (j : Job) (stn : Nat) : Nat := csumOf j.alg j.cont j.seed (j.gDense stn (j.gPrefix * j.esize))

/-- End of a gather, scatter or reduce job. -/
def State.gEnd (s : State) (uid : Nat) : State :=
  match Tbl.get uid s.jobs with
  | none => s
  | some j =>
    let o := j.gOutcome
    let bad := o.1 ≠ 0
    let c := if j.alg = 0 ∨ !j.stored then 0 else j.gChecksum s.stn.id
    let st := match j.csumFail with | some f => if bad then o.1 else f.1 | none => o.1
    let inv : Nat := if j.alg ≠ 0 ∧ (bad ∨ !j.stored ∨ j.csumFail.isSome) then 1 else 0
    let info := match j.csumFail with
      | some f => if bad then o.2.1 + 1 else 1 + attInfo f.2.1
      | none => o.2.1 + inv
    let port := match j.csumFail with
      | some f => if bad then (j.low.map (·.port)).getD none else f.2.2
      | none => (j.low.map (·.port)).getD none
    let s1 := s.finish j.q uid st info (BitVec.ofNat 64 o.2.2) (BitVec.ofNat 64 c)
    let s2 := { s1 with jobs := Tbl.del uid s1.jobs }
    if st = 0x14 then (match port with | some p => s2.enterHeld j.q p | none => s2) else s2

/-- After the last work item: the checksum store, then the end. -/
def State.gConclude (s : State) (uid : Nat) : State :=
  match Tbl.get uid s.jobs with
  | none => s
  | some j =>
    if j.alg ≠ 0 ∧ j.moved ∧ j.ph < 4 then
      match j.csumR with
      | none => s.gEnd uid
      | some r =>
        let s1 := s.updJob uid (fun j => { j with ph := 4, stored := true })
        s1.ctl j.q false [wrBytes r.fa (leBytes 8 (j.gChecksum s.stn.id))] ⟨.csum, uid, 0⟩ r.port false
    else if j.ph = 4 then s
    else s.gEnd uid

end Sys2Proof.Machine
end

