-- ==== Sys2Proof/Machine/Gating.lean ====
section
/-! DEFINITION. Requests to the power controller and the policies that raise them while the block runs (R398, R416 to
R419). -/

namespace Sys2Proof.Machine

/-- Microseconds in ps. -/
def usPs (n : Nat) : Nat := n * 1000000

def maskHas (m d : Nat) : Bool := m.testBit d
def maskSet (m d : Nat) : Nat := m ||| 2 ^ d
def maskClr (m d : Nat) : Nat := if m.testBit d then m - 2 ^ d else m

/-- Domains from a first one on, as a mask. -/
def domRange (d n : Nat) : Nat := (2 ^ n - 1) * 2 ^ d

/-- Request a domain on: nothing where it is on or asked for already, or its last change is not answered. -/
def State.askOn (s : State) (d : Nat) : State :=
  let p := s.pwr
  if maskHas p.req d ∨ Tbl.has d p.wait then s
  else { s with pwr := { p with req := maskSet p.req d, retReq := maskClr p.retReq d, wait := Tbl.put d s.clk p.wait,
                                again := maskClr p.again d } }

/-- Request a domain off; it no longer serves from this moment (R418, R428). With `ret` a bank is asked to retain. -/
def State.askOff (s : State) (d : Nat) (ret : Bool) : State :=
  let p := s.pwr
  if !(maskHas p.req d) ∨ Tbl.has d p.wait then s
  else { s with pwr := { p with req := maskClr p.req d, up := maskClr p.up d, wait := Tbl.put d s.clk p.wait,
                                retReq := if ret then maskSet p.retReq d else maskClr p.retReq d,
                                again := maskClr p.again d } }

def State.askOnMask (s : State) (m : Nat) : State := (List.range 98).foldl (fun s d => if maskHas m d then s.askOn d else s) s
def State.askOffMask (s : State) (m : Nat) : State := (List.range 98).foldl (fun s d => if maskHas m d then s.askOff d false else s) s

/-- A domain answers as off: off, or its off request has stood unanswered for PWR_TMO_US (R417). -/
def State.isOff (s : State) (d : Nat) : Bool :=
  !(maskHas s.pwr.req d) &&
  (match Tbl.get d s.pwr.wait with
   | none => true
   | some t => decide (t + usPs s.pwr.tmo ≤ s.clk))

/-- Modes in which the policy of R418 runs; a request for QUIESCE leaves it in force until QUIESCE is reached. -/
def State.gates_ (s : State) : Bool :=
  (s.mode == .run || s.mode == .degraded || ((s.mode == .configure || s.mode == .quiesce) && s.pwr.parked == 0)) &&
  (match s.pwr.trans with | none => true | some t => t.target == 6)

/-- The MV_MIN Movers kept on (R418): unfenced and not failed, those that are on first, then the lowest-numbered. -/
def State.moversWanted (s : State) : Nat :=
  let ms := (List.range 64).filter (fun m => !s.mvFenced m && !(maskHas s.pwr.failed (domMv m)))
  let on := ms.filter (fun m => s.isOn (domMv m))
  ((on ++ ms.filter (fun m => !s.isOn (domMv m))).take s.pwr.mvMin).foldl (fun a m => maskSet a (domMv m)) 0

/-- The minimum of R418, after a write of MV_MIN or a fence. -/
def State.keepMin (s : State) : State := if s.gates_ then s.askOnMask s.moversWanted else s

/-- Something may want a Mover: an entry that waits for one, a started entry, a channel, a Transit window or a service. -/
def State.wantsMover (s : State) : Bool :=
  !s.jobs.isEmpty || (Tbl.vals s.queues).any (fun g => g.ents.any (fun e => e.ph == .seen && e.noPlace)) ||
  (Tbl.vals s.chn.chans).any (fun c => c.st == .active || c.st == .stopping) ||
  s.trn.wins.any (fun w => w.ph != .idle && w.ph != .failed) ||
  (Tbl.vals s.bgs.scr).any (·.active) || (Tbl.vals s.bgs.tel).any (fun t => !t.staged.isEmpty)

/-- Wake the lowest-numbered gated Mover where every eligible one holds 8 work items or more; one wake at a time
(R418). With no eligible Mover, where something may want one. -/
def State.wakeMover (s : State) : State :=
  let ms := List.range 64
  let eligible := ms.filter (fun m => !s.mvFenced m && s.isOn (domMv m))
  if s.gates_ && (if eligible.isEmpty then s.wantsMover else eligible.all (fun m => decide (8 ≤ s.moverLoad m))) &&
     !(ms.any (fun m => Tbl.has (domMv m) s.pwr.wait && maskHas s.pwr.req (domMv m))) then
    match ms.find? (fun m => !s.mvFenced m && !(maskHas s.pwr.req (domMv m)) && !(maskHas s.pwr.failed (domMv m)) &&
                             !(Tbl.has (domMv m) s.pwr.wait)) with
    | some m => s.askOn (domMv m)
    | none => s
  else s

/-- Wake a reduce quadrant (R419): the lowest-numbered one where none is on and a group waits, a further one where each
holds 4 groups. -/
def State.wakeQuad (s : State) (waits : Bool) : State :=
  let qs := (List.range 4).filter (fun q => !s.rqFenced q)
  let on := qs.filter (fun q => s.isOn (domRq q))
  let load := fun q => ((Tbl.vals s.works).filter (fun w => w.quad == some q)).length
  if (s.mode == .run || s.mode == .degraded) && (if on.isEmpty then waits || (Tbl.vals s.jobs).any (fun j => j.op == 10) else on.all (fun q => decide (4 ≤ load q))) then
    match qs.find? (fun q => !(maskHas s.pwr.req (domRq q)) && !(maskHas s.pwr.failed (domRq q)) && !(Tbl.has (domRq q) s.pwr.wait)) with
    | some q =>
      if qs.any (fun q => Tbl.has (domRq q) s.pwr.wait && maskHas s.pwr.req (domRq q)) then s else s.askOn (domRq q)
    | none => s
  else s

end Sys2Proof.Machine
end

