-- ==== Sys2Proof/Machine/Pump.lean ====
section
/-! DEFINITION. Jobs and queues run on: what follows of itself from an event on a queue, a job or a ring. -/

namespace Sys2Proof.Machine

def isG (j : Job) : Bool := decide (8 ≤ j.op)

/-- Whether a job has a burst waiting or granted. -/
def State.hasBurst (s : State) (uid : Nat) : Bool :=
  let mine := fun (b : Burst) =>
    (b.own.k == OwnK.work && (match Tbl.get b.own.a s.works with | some w => w.uid == uid && w.who == 0 | none => false)) ||
    (b.own.k == OwnK.seed && b.own.a == uid)
  s.bursts.any mine || s.granted.any mine

/-- A waiting burst of a data entry toward a port reported DOWN is refused: the work item ends there (R233). -/
def State.refuseDown (s : State) (b : Burst) : State :=
  match Tbl.get b.own.a s.works with
  | none => s
  | some w =>
    let s1 := (s.unwait b.id).updWork b.own.a (fun w => { w with
      out := w.out - b.lines.length, rdBusy := if b.rd then false else w.rdBusy,
      wrBusy := if b.rd then w.wrBusy else setAt b.own.b false w.wrBusy })
    match Tbl.get w.uid s1.jobs with
    | none => s1
    | some j =>
      if j.op = 6 ∧ !b.rd then s1.updJob w.uid (fun j => { j with dead := j.dead ++ [b.own.b] })
      else
        let s2 := s1.updWork b.own.a (fun w => { w with stop := true, todo := [] })
        if isG j then
          s2.anomaly w.uid (j.gAnom w b.rd b.own.b ((b.lines.head?.map (·.line)).getD 0) b.begins 0x14 none b.port)
        else s2.anomaly w.uid { off := b.begins, st := 0x14, port := b.port, src := b.rd, rank := 5 }

/-- All refusals of a job. -/
def State.refuseJob (s : State) (uid : Nat) : State :=
  (s.bursts.filter (fun b => b.own.k == OwnK.work && !s.portUp b.port &&
    (match Tbl.get b.own.a s.works with | some w => w.uid == uid && w.who == 0 | none => false))).foldl State.refuseDown s

/-- One round of a job's work items. -/
def State.runWorks (s : State) (uid : Nat) : State :=
  match Tbl.get uid s.jobs with
  | none => s
  | some j =>
    if isG j then
      let s1 := j.flying.foldl (fun s w => s.pumpG w) s
      j.flying.foldl (fun s wid =>
        if s.gDone wid then
          { s with works := Tbl.del wid s.works }.updJob uid (fun j => { j with flying := j.flying.filter (· != wid) })
        else s) s1
    else (j.flying.foldl (fun s w => s.pumpWork w) s).retire uid

/-- End a job that has issued nothing. -/
def State.dropJob (s : State) (uid : Nat) : State :=
  let g := ((Tbl.get uid s.jobs).map isG).getD false
  let s1 := { s with works := s.works.filter (fun p => p.2.uid != uid || p.2.who != 0) }
  if g then s1.gEnd uid else s1.endJob uid

/-- Assign, present, retire; end the job when nothing is left (R16 to R20). -/
def State.pumpJob (s : State) (uid : Nat) : State :=
  match Tbl.get uid s.jobs with
  | none => s
  | some j =>
    let g := s.queue j.q
    if !j.started then
      if !g.earlierStarted uid || s.hasBurst uid || j.abort || j.halt || (!j.anoms.isEmpty && j.flying.isEmpty) then
        if !s.hasBurst uid && (j.abort || j.halt || !j.anoms.isEmpty) then s.dropJob uid else s
      else if !s.claimOk g.ring then s.enterBacked j.q
      else if g.st = .backed then s
      else if j.ph = 0 then
        match j.csumR with
        | none => s
        | some r =>
          let s1 := s.updJob uid (fun j => { j with ph := 1 })
          s1.present { id := 0, rd := true, coh := j.coh, lines := [{ line := r.fa / 64 }], own := ⟨.seed, uid, 0⟩,
                       cls := g.cls, prio := g.prio, xset := g.xset, lim := g.lim,
                       resv := if g.cls = 1 then some j.q else none, port := r.port, rq := j.q, ctx := j.q }
      else if j.ph = 2 then
        let s1 := if isG j then s.gsegRun uid 1 else s.segRun uid 1
        match Tbl.get uid s1.jobs with
        | none => s1
        | some j1 =>
          match j1.flying.head? with
          | none => s1
          | some w =>
            let s2 := if isG j1 then iter (fun s => s.pumpG1 w) 8 s1
                      else if j1.streams = 0 then s1.tryWrite w 0 else s1.tryRead w 0
            let s3 := s2.refuseJob uid
            match Tbl.get uid s3.jobs with
            | none => s3
            | some j3 =>
              if (!j3.anoms.isEmpty ∨ (isG j3 ∧ s3.gDone w)) ∧ !s3.hasBurst uid then
                s3.dropJob uid
              else s3
      else s
    else if j.ph = 2 then
      let s1 := if isG j then s.gsegRun uid 9 else s.segRun uid 9
      let s2 := (s1.runWorks uid).refuseJob uid
      let s3 := (if isG j then s2.gsegRun uid 9 else s2.segRun uid 9).runWorks uid
      match Tbl.get uid s3.jobs with
      | none => s3
      | some j3 =>
        if j3.flying.isEmpty ∧ (j3.segs ≤ j3.nextSeg ∨ j3.abort ∨ j3.halt ∨ !j3.allows (j3.nextSeg * (if isG j3 then j3.per else 262144))) then
          (if isG j3 then s3.gConclude uid else s3.conclude uid)
        else s3
    else if j.ph = 3 then
      let s1 := ((j.flying.foldl (fun s w => s.pumpWork w) s).refuseJob uid).retire uid
      match Tbl.get uid s1.jobs with
      | none => s1
      | some j1 => if j1.flying.isEmpty then s1.conclude uid else s1
    else s

/-- A bad entry at the front completes MALFORMED without a row of its own (R75, R325); an admin opcode refused to a Tenant
Dispatch Queue is journalled as other admin commands are (R350). -/
def State.autoBad (s : State) (q : Nat) : State :=
  let g := s.queue q
  match g.oldest with
  | none => s
  | some e =>
    match e.bad with
    | none => s
    | some r =>
      let room := !g.dq || decide ((s.ring g.ring).claims < (s.ring g.ring).free)
      if s.admissible q e && room && g.st != .stopping then
        let s1 := s.setEnt q e.uid (fun e => { e with ph := .admitted })
        let s2 := if g.dq then s1.updRing g.ring (fun x => { x with claims := x.claims + 1 }) else s1
        let s3 := if g.tdq ∧ r = 3 ∧ !s2.jFull then s2.journalE 2 2 1 g.tenant 3 (e.opc + e.tag * 256) 0 (e.w 2) else s2
        s3.finish q e.uid 0x17 (if g.dq then r * 256 else if fCsum e.hdr then 1 else 0) 0 0
      else s

/-- A Dispatch Queue with commands to take in needs ring slots known free (R322). -/
def State.dqLook (s : State) (q : Nat) : State :=
  let g := s.queue q
  if g.dq && (g.ents.any (fun e => !e.isStarted)) && decide ((s.ring g.ring).free ≤ (s.ring g.ring).claims) then s.look g.ring else s

/-- Everything that follows of itself on a queue: bad entries, starts, jobs, completions, the scan, the Head Word. -/
def State.pumpQ (s : State) (q : Nat) : State :=
  if !(Tbl.has q s.queues) then s else
  let s0 := (((s.scan q).lateBody q).autoBad q).dqLook q
  let s1 := s0.pumpStart q
  let uids := (s1.queue q).ents.map (·.uid)
  let s2 := uids.foldl (fun s u => s.pumpJob u) s1
  let s3 := s2.pumpStart q
  let s4 := ((s3.queue q).ents.map (·.uid)).foldl (fun s u => s.pumpJob u) s3
  ((s4.pumpStart q).scan q).pumpHw q

/-- A BACKED queue returns to ACTIVE when both tests of R96 pass. -/
def State.unback (s : State) (q : Nat) : State :=
  let g := s.queue q
  if g.st = .backed ∧ s.claimOk g.ring then (s.updQueue q (fun g => { g with st := .active, short := false })).pumpQ q else s

/-- Queues of a ring look again after a claim was released or slots were found. -/
def State.ringQs (s : State) (r : Nat) : State :=
  ((s.boundQ r).map (·.1)).foldl (fun s q => (s.unback q).pumpQ q) s

/-! ### Ends of data transactions -/

/-- COMPARE: the lowest differing offset of a line's bytes, where both ranges have been read. -/
def Job.mismatch (j : Job) (x0 : Nat) : Option Nat :=
  ((List.range 64).map (· + x0)).find? (fun x => decide (x < j.len) &&
    (j.line 0 (((j.src 0).fa + x) / 64)).isSome && (j.line 1 (((j.src 1).fa + x) / 64)).isSome &&
    decide (j.byteOf 0 x ≠ j.byteOf 1 x))

/-- ZERO VERIFY: the lowest non-zero byte of a line read back. -/
def Job.nonZero (j : Job) (x0 : Nat) : Option Nat :=
  ((List.range 64).map (· + x0)).find? (fun x => decide (x < j.len) && decide (j.byteOf 2 x ≠ 0))

/-- A read of a work item of an entry ended. -/
def State.workRead (s : State) (wid st : Nat) (op : LineOp) (res : Res) (xa : Nat) (port : Option Nat) : State :=
  match Tbl.get wid s.works with
  | none => s
  | some w =>
  let s0 := s.updWork wid (fun w => { w with out := w.out - 1 })
  match Tbl.get w.uid s0.jobs with
  | none => s0
  | some j =>
    match res with
    | .good l =>
      let s1 := s0.updJob w.uid (fun j => { j with got := j.got ++ [(st, op.line, l)] })
      match Tbl.get w.uid s1.jobs with
      | none => s1
      | some j1 =>
        let found := if j1.op = 4 then j1.mismatch op.key else if st = 2 ∧ j1.op = 3 then j1.nonZero op.key else none
        match found with
        | some x => s1.anomaly w.uid { off := x, st := 1 }
        | none => s1
    | .bad c =>
      if isG j then s0.anomaly w.uid (j.gAnom w true st op.line op.key c (some xa) port)
      else s0.anomaly w.uid { off := op.key, st := c, att := some xa, port := port }

/-- A write of a work item of an entry ended. -/
def State.workWrite (s : State) (wid i : Nat) (op : LineOp) (res : Res) (xa : Nat) (port : Option Nat) : State :=
  match Tbl.get wid s.works with
  | none => s
  | some w =>
  let s0 := s.updWork wid (fun w => { w with out := w.out - 1 })
  match Tbl.get w.uid s0.jobs with
  | none => s0
  | some j =>
    match res with
    | .good _ =>
      if j.op = 9 ∨ j.op = 10 then
        let n := Tbl.getD op.key 0 j.left - 1
        s0.updJob w.uid (fun j => { j with left := Tbl.put op.key n j.left, ok := if n = 0 then j.ok ++ [op.key] else j.ok })
      else
        let r := if j.op = 8 then j.tab 1 else j.dst i
        let a := op.line * 64 + op.lo - r.fa
        let b := op.line * 64 + op.hi - r.fa
        if op.poison then s0.updJob w.uid (fun j => { j with good := j.good.filter (fun t => !(t.1 == i && decide (a ≤ t.2.1))) })
        else s0.updJob w.uid (fun j => { j with good := j.good ++ [(i, a, b)] })
    | .bad c0 =>
      let c := if c0 = 0x10 then 0x11 else c0
      if j.op = 6 then
        (s0.updJob w.uid (fun j => { j with dead := if j.dead.contains i then j.dead else j.dead ++ [i] })).stripJob w.uid
          (fun b => !b.rd && b.own.b == i)
      else if j.op ≥ 8 then
        s0.anomaly w.uid (j.gAnom w false i op.line op.key c (some xa) port)
      else s0.anomaly w.uid { off := op.key, st := c, att := some xa, port := port, src := false }

/-! ### Fence of a Mover, a data bank, a quadrant (R32, R33, R161) -/

/-- The Mover of a work item of an entry is fenced: the entry ends with SOURCE_ERROR, and its work items, those on other
Movers too, issue nothing further (R32). -/
def State.fenceWork (s : State) (wid : Nat) : State :=
  match Tbl.get wid s.works with
  | none => s
  | some w =>
    if w.who ≠ 0 then s
    else
      let s1 := (s.stripJob w.uid (fun _ => true)).updJob w.uid (fun j => { j with halt := true })
      { s1 with works := s1.works.map (fun (p : Nat × Work) => (p.1,
          if p.2.uid == w.uid && p.2.who == 0 then { p.2 with stop := true, todo := [] } else p.2)) }

/-- A quadrant is fenced: each of its groups moves, its open bag restarts and its rows are read again (R161). -/
def State.moveGroup (s : State) (wid : Nat) : State :=
  match Tbl.get wid s.works with
  | none => s
  | some w =>
    let q := s.quadFor
    let row := fun (st : Nat) => decide (16 ≤ st)
    let s1 := s.stripJob w.uid (fun b => b.own.a == wid && b.rd && row b.own.b)
    (s1.updWork wid (fun w => { w with quad := if q.isSome then q else w.quad, acc := [], n := 0, pos2 := 0,
                                       bag2 := w.bag, pos := 0, live := [], todo := w.todo.filter (fun x => !row x.1) })).updJob w.uid
      (fun j => { j with got := j.got.filter (fun g => !(row g.1 && Tbl.has (g.1 - 16) w.live)) })

end Sys2Proof.Machine
end

