-- ==== Sys2Proof/Machine/Respond.lean ====
section
/-! DEFINITION. Ends of the control transactions of queues, rings and data entries (R86, R91, R125, R126, R130, R232,
R234, R444). -/

namespace Sys2Proof.Machine

/-- The code of a failed write for a completion: an error response is DEST_ERROR. -/
def wrStatus (c : Nat) : Nat := if c = 0x10 then 0x11 else c

/-- The answer to a ring read of the scan (R80, R228, R230, R232): one to a read that a stop has overtaken is dropped. A
unit that cannot be read stops the queue there; the entries seen before it run (R231). -/
def State.endScan (s : State) (q id : Nat) (op : LineOp) (res : Res) (port : Option Nat) : State :=
  if !(s.queue q).reading ∨ (s.queue q).scanId ≠ id then s else
  let s0 := s.updQueue q (fun g => { g with reading := false })
  match res with
  | .good l => (s0.updQueue q (fun g => { g with line := some (op.line, l) })).pumpQ q
  | .bad c =>
    if c = 0x14 ∧ port.isSome then (s0.enterHeld q (port.getD 0)).pumpQ q
    else (s0.enterError q 0x064 (s0.queue q).sp (s0.queue q).spWrap true).pumpQ q

def State.endBody (s : State) (q uid : Nat) (op : LineOp) (res : Res) (port : Option Nat) : State :=
  if !(s.queue q).ents.any (fun (e : Ent) => e.uid == uid) then s else
  match res with
  | .good l =>
    let s1 := s.setEnt q uid (fun e => { e with
      bodyLeft := e.bodyLeft - 1, words := (lineWords l 0 op.key 8).foldl (fun t p => Tbl.put p.1 p.2 t) e.words })
    let s2 : State := match (s1.queue q).ents.getLast? with
      | some (e : Ent) => if e.uid = uid ∧ e.opc = 0x12 ∧ e.bodyLeft = 0 ∧ e.ph = EPh.seen then s1.linkScan q e else s1
      | none => s1
    s2.pumpQ q
  | .bad c =>
    if c = 0x14 ∧ port.isSome then (s.enterHeld q (port.getD 0)).pumpQ q else (s.structFail q (some uid) true).pumpQ q

def State.endHdrWb (s : State) (q uid : Nat) (res : Res) (port : Option Nat) : State :=
  let s0 := s.setEnt q uid (fun e => { e with wb := true })
  let s1 := match res with
    | .good _ => s0
    | .bad c => if c = 0x14 ∧ port.isSome then s0.enterHeld q (port.getD 0) else s0.structFail q none true
  (s1.pumpHw q).pumpQ q

def State.endHeadWord (s : State) (q : Nat) (res : Res) (port : Option Nat) : State :=
  let s0 := s.updQueue q (fun g => { g with hwBusy := false })
  let s1 := match res with
    | .good _ => s0
    | .bad c => if c = 0x14 ∧ port.isSome then s0.enterHeld q (port.getD 0) else s0.structFail q none false
  s1.pumpHw q

def State.endLook (s : State) (r : Nat) (op : LineOp) (res : Res) : State :=
  (s.lookDone r op.key res).ringQs r

def State.endCpl (s : State) (r i : Nat) (res : Res) : State :=
  let g := s.ring r
  match g.fly.find? (fun p => p.1 == i) with
  | none => s
  | some (_, c) =>
    let s0 := s.updRing r (fun g => { g with fly := g.fly.filter (fun p => p.1 != i) })
    let s1 : State := match res with
      | .good _ =>
        let s1 := (s0.unclaim r c).entDone c.q c.uid
        if c.interrupting ∧ g.dq then s1.irqDue g.vec
        else if c.interrupting ∧ g.armed then s1.ringDue r
        else s1
      | .bad st =>
        if g.dq then ((s0.unclaim r c).entDone c.q c.uid).structFail c.q none true
        else if st = 0x14 then
          let s1 := if g.sided then s0 else s0.updTenant g.tenant (fun t => { t with irqSiding := true })
          s1.updRing r (fun g => { g.takeBack i with siding := { c with sided := true } :: g.siding })
        else
          let s1 := (s0.unclaim r c).entDone c.q c.uid
          ((s1.boundQ r).map Prod.fst).foldl (fun s q => s.structFail q none true) s1
    ((s1.pumpCpl c.q).pumpRing r).ringQs r

def State.endSeed (s : State) (uid : Nat) (res : Res) (xa port : Option Nat) : State :=
  match Tbl.get uid s.jobs with
  | none => s
  | some j =>
    match res with
    | .good l =>
      let o := (j.csumR.map (fun r => r.fa % 64)).getD 0
      (s.updJob uid (fun j => { j with ph := 2, seed := (lineWord l (o / 8)).toNat })).pumpQ j.q
    | .bad c =>
      let s1 := s.anomaly uid { off := 0, st := c, att := xa, port := port, src := false }
      (if isG j then s1.gEnd uid else s1.endJob uid).pumpQ j.q

def State.endCsum (s : State) (uid : Nat) (res : Res) (xa port : Option Nat) : State :=
  match Tbl.get uid s.jobs with
  | none => s
  | some j =>
    let s1 := match res with
      | .good _ => s
      | .bad c => s.updJob uid (fun j => { j with csumFail := some (wrStatus c, xa, port) })
    (if isG j then s1.gEnd uid else s1.endJob uid).pumpQ j.q

def State.endFence (s : State) (q uid : Nat) (res : Res) (xa port : Option Nat) : State :=
  let s0 := s.setEnt q uid (fun e => { e with storing := false })
  let s1 := match res with
    | .good _ =>
      let v := ((s.queue q).ents.find? (fun (e : Ent) => e.uid == uid)).map (fun (e : Ent) => e.w 2)
      s0.finish q uid 0 0 (v.getD 0) 0
    | .bad c =>
      let s1 := s0.finish q uid (wrStatus c) (attInfo xa) 0 0
      if c = 0x14 ∧ port.isSome then s1.enterHeld q (port.getD 0) else s1
  s1.pumpQ q

/-- End of a data transaction of an entry's work item, and what follows on its queue. -/
def State.endWork (s : State) (w code : Nat) (rd : Bool) (op : LineOp) (res : Res) (xa : Nat) (port : Option Nat) : State :=
  let q := match Tbl.get w s.works with
    | some v => (Tbl.get v.uid s.jobs).map (·.q)
    | none => none
  let s1 := if rd then s.workRead w code op res xa port else s.workWrite w code op res xa port
  match q with
  | some q => s1.pumpQ q
  | none => s1

end Sys2Proof.Machine
end

