-- ==== Sys2Proof/Machine/Transit.lean ====
section
/-! DEFINITION. Transit: live migration and the Conjunction (chapter 6). -/

namespace Sys2Proof.Machine

def State.tw (s : State) (w : Nat) : TWin := s.trn.wins.getD w {}
def State.updTw (s : State) (w : Nat) (f : TWin → TWin) : State :=
  { s with trn := { s.trn with wins := updAt w f s.trn.wins } }
def TWin.pages (t : TWin) : Nat := t.p.size / 4096

/-- TRN_CTL (R194). -/
def State.trnCtl (s : State) : Word := s.reg 0x50000 0x0140A064
def State.holdMax (s : State) : Nat := fld s.trnCtl 0 10 * 100000
def State.guardPs (s : State) : Nat := fld s.trnCtl 12 8 * 100000
/-- The notification latency bound in force (R194: a new value applies from the next Conjunction attempt). DESIGN CHOICE
(log 85): the next attempt of any window. -/
def State.dtrLat (s : State) : Nat := s.trn.dtrLat * 100000

/-! ### Decoder requests (R391) -/

/-- Send a request on DEC_ and await its answer. -/
def State.decReq (s : State) (w op : Nat) : State :=
  let t := s.tw w
  (s.updTw w (fun t => { t with dec := some (op, s.clk) })).emit
    (.dec op w t.p.bind (t.p.served / 4096) t.pages)

/-! ### The bitmap (R169, R170, R173) -/

def lineMaskCount (t : TWin) (ln : Nat) : Nat := min 512 (t.pages - 512 * ln)
def linePop (t : TWin) (ln : Nat) (l : Line) : Nat := popcount l.toNat (lineMaskCount t ln)

/-- Lines of the cache in use by all windows. -/
def State.cacheUse (s : State) : Nat := s.trn.wins.foldl (fun a t => a + t.cache.length + t.fetching.length) 0

/-- Control traffic of a window: bitmap lines, in the window's class (R169, R185). -/
def State.bmReq (s : State) (w : Nat) (rd : Bool) (ops : List LineOp) (b : Nat) : State :=
  let t := s.tw w
  s.present { id := 0, rd := rd, lines := ops, own := ⟨if rd then .bmRd else .bmWr, w, b⟩, cls := t.p.cls, prio := t.p.prio,
              xset := t.p.xset, lim := t.p.lim, rq := 0x6000 + w, ctx := 0x8000 + w }

/-- Write a held line back to the bitmap buffer. -/
def State.bmWriteBack (s : State) (w ln : Nat) (l : Line) : State :=
  let s1 := s.updTw w (fun t => { t with bmOut := t.bmOut + 1, cdirty := t.cdirty.filter (· != ln) })
  s1.bmReq w false [wrLine ((s.tw w).p.bitmap + 64 * ln) l] ln

/-- A write of this bitmap line is waiting or on its way. -/
def State.bmWriting (s : State) (w ln : Nat) : Bool :=
  let o : Own := ⟨.bmWr, w, ln⟩
  s.bursts.any (fun b => b.own == o) || s.granted.any (fun b => b.own == o) || s.txns.any (fun x => x.own == o)

/-- A held line that may leave the cache: none of its pages is being copied, no write of it is under way. -/
def State.bmVictim (s : State) (w : Nat) : Option (Nat × Nat × Line) :=
  let t := s.tw w
  (t.cache.find? (fun c => !t.copies.any (fun x => x.page / 512 == c.1) && !s.bmWriting w c.1)).map (fun c => (w, c))

/-- Make room for a line: a held line of some window leaves the full cache, written back where it is dirty. -/
def State.bmEvict (s : State) : State :=
  if s.cacheUse < 65536 then s
  else match (List.range 8).findSome? s.bmVictim with
  | none => s
  | some (w, ln, l) =>
    let t := s.tw w
    let s1 := if t.cdirty.contains ln then s.bmWriteBack w ln l else s
    s1.updTw w (fun t => { t with cache := Tbl.del ln t.cache, away := Tbl.put ln (linePop t ln l) t.away })

/-- Ask for a bitmap line that is not held, once no write of it is under way. -/
def State.bmFetch (s : State) (w ln : Nat) : State :=
  let t := s.tw w
  if t.fetching.contains ln || s.bmWriting w ln then s
  else
    let s1 := s.bmEvict.updTw w (fun t => { t with fetching := t.fetching ++ [ln] })
    s1.bmReq w true [{ line := t.p.bitmap / 64 + ln, key := ln }] ln

/-- Whether a page's bit is set, where its line is held. -/
def TWin.bitOf (t : TWin) (page : Nat) : Option Bool :=
  (Tbl.get (page / 512) t.cache).map (fun l => l.toNat.testBit (page % 512))

/-- Set or clear a page's bit in a held line. A line is held as long as one of its pages is being copied. -/
def TWin.setBit (t : TWin) (page : Nat) (v : Bool) : TWin :=
  let ln := page / 512
  match Tbl.get ln t.cache with
  | none => t
  | some l =>
    let old := l.toNat.testBit (page % 512)
    if old = v then t
    else { t with cache := Tbl.put ln (l ^^^ BitVec.ofNat 512 (2 ^ (page % 512))) t.cache,
                  cdirty := if t.cdirty.contains ln then t.cdirty else t.cdirty ++ [ln],
                  dirty := if v then t.dirty + 1 else t.dirty - 1 }

/-! ### Ending a window (R181, R183, R184) -/

/-- Complete a command of a Dispatch Queue: status, INFO, RESULT. -/
def State.endCmd (s : State) (c : Nat × Nat) (st info : Nat) (res : Word) : State :=
  if c.1 = 0x3000 then s else (s.finish c.1 c.2 st info res 0).pumpQ c.1

/-- A window's copy bursts that have not been issued are taken away, and with them what they were to do. -/
def State.tStrip (s : State) (w : Nat) : State :=
  let mine := fun (b : Burst) => b.own.k == OwnK.work &&
    (match Tbl.get b.own.a s.works with | some v => v.who == 2 && v.which == w | none => false)
  let gone := (s.bursts ++ s.granted).filter mine
  (s.dropBursts mine).updTw w (fun t => { t with reading := false, copies := t.copies.filterMap (fun c =>
    if gone.any (fun b => b.own.b == c.page && b.rd) then none
    else if gone.any (fun b => b.own.b == c.page && !b.rd) then some { c with bad := true, wrLeft := 0 } else some c) })

/-- A window's bitmap bursts that have not been issued are taken away. -/
def State.tStripBm (s : State) (w : Nat) : State :=
  let mine := fun (b : Burst) => (b.own.k == OwnK.bmRd || b.own.k == OwnK.bmWr) && b.own.a == w
  let gone := (s.bursts ++ s.granted).filter mine
  (s.dropBursts mine).updTw w (fun t => { t with
    bmOut := t.bmOut - (gone.filter (fun b => !b.rd)).foldl (fun n b => n + b.lines.length) 0,
    fetching := t.fetching.filter (fun ln => !gone.any (fun b => b.rd && b.own.b == ln)) })

/-- Copies that still have transactions outstanding. -/
def PCopy.busy (c : PCopy) : Bool := decide (0 < c.rdLeft ∨ (c.wrSent ∧ 0 < c.wrLeft))

/-- Release the work items of a window. -/
def State.tFree (s : State) (w : Nat) : State :=
  { s with works := s.works.filter (fun p => !((p.2.who == 2 || p.2.who == 6) && p.2.which == w)) }

/-- A wear step's window has ended: the plan waits INTERVAL, or fails (R266, R267). -/
def State.wearOver (s : State) (w outcome : Nat) : State :=
  let r := s.bgs.wear
  if !r.inStep ∨ r.win ≠ w then s
  else if outcome = 1 then
    { s with bgs := { s.bgs with wear := { r with inStep := false, waiting := if r.active then some s.clk else none } } }
  else ({ s with bgs := { s.bgs with wear := { r with active := false, inStep := false, failed := true, rec_ := none } } }).raise0 0x127 w

/-- The window returns to IDLE with an outcome (R182); waiting commands end, and the wear plan learns of its step. -/
def State.tIdle (s : State) (w outcome : Nat) : State :=
  let t := s.tw w
  let s0 := if t.wear then s.wearOver w outcome else s
  let s1 := (s0.tFree w).updTw w (fun t => { t with
    ph := .idle, outcome := outcome, cache := [], cdirty := [], away := [], fetching := [], copies := [], unit := none,
    conj := none, ending := none, step := 0, conjoin := none, openCmd := none, abortCmd := none, waiting := false,
    mirrored := false, recalled := false, fullPass := false, dec := none, proceed := false, toMirror := false,
    reading := false, zeroWid := none, zeroStop := false, mirReq := false })
  let s2 := { s1 with trn := { s1.trn with nq := s1.trn.nq.filter (fun n => n.1 != w) } }
  let s3 := match t.openCmd with | some c => s2.endCmd c 0x18 0 0 | none => s2
  let s4 := match t.conjoin with | some c => s3.endCmd (c.1, c.2.1) 0x18 0 0 | none => s3
  match t.abortCmd with
  | some c => s4.endCmd c (if outcome = 1 ∨ outcome = 2 then 0x18 else 0) 0 0
  | none => s4

/-- Next burst of CLOSE's zeroing: WriteLine zeros over the source alias (R181). -/
def State.tZero (s : State) (w : Nat) : State :=
  let t := s.tw w
  match t.zeroWid with
  | none =>
    match s.moverFor t.p.cls with
    | none => s
    | some m =>
      let id := s.nextId
      { s with nextId := id + 1, works := Tbl.put id { uid := 0, who := 6, which := w, cls := t.p.cls, seg := 0, mover := some m, lo := 0, hi := 0 } s.works
      }.updTw w (fun t => { t with zeroWid := some id })
  | some id =>
    if s.bursts.any (fun b => b.own.k == OwnK.work && b.own.a == id) then s
    else
      let a := t.p.src + t.zeroAt
      let ops := (List.range 64).map (fun i => wrLine (a + 64 * i) 0)
      let s1 := s.updTw w (fun t => { t with zeroAt := t.zeroAt + 4096, zeroOut := t.zeroOut + 64 })
      s1.present { id := 0, rd := false, lines := ops, own := ⟨.work, id, 0⟩, cls := t.p.cls, prio := t.p.prio, xset := t.p.xset,
                   lim := t.p.lim, port := some t.p.srcPort, rq := 0x6000 + w, ctx := 0x8000 + w,
                   mover := (Tbl.get id s.works).bind (·.mover), tenant := some t.p.bill }

/-- The steps of an ending, one after another as each is done. -/
def State.tEndRun (s : State) (w : Nat) : Nat → State
  | 0 => s
  | n + 1 =>
    let t := s.tw w
    match t.ending with
    | none => s
    | some e =>
      if t.step = 0 then
        if t.copies.any PCopy.busy ∨ t.dec.isSome ∨ (e ≠ .close ∧ (0 < t.bmOut ∨ !t.fetching.isEmpty)) then s
        else
          let off := t.mirReq && e != .close
          let s1 := (s.updTw w (fun t => { t with copies := [], unit := none, step := if off then 1 else 2 })).tFree w
          s1.decReq w (if off then 4 else 2)
      else if t.step = 1 then
        if t.dec.isSome then s else (s.updTw w (fun t => { t with step := 2 })).decReq w 2
      else if t.step = 2 then
        if t.dec.isSome then s
        else State.tEndRun (s.updTw w (fun t => { t with step := 3 })) w n
      else if t.step = 3 then
        let s0 := { s with trn := { s.trn with nq := s.trn.nq.filter (fun n => n.1 != w) } }
        if e = TEnd.fail then s0.updTw w (fun t => { t with ending := none, step := 0 })
        else if e = TEnd.failAbort then s0.tIdle w 4
        else if e = TEnd.abort then s0.tIdle w 3
        else
          match t.cdirty with
          | ln :: _ => State.tEndRun (s0.bmWriteBack w ln (Tbl.getD ln 0 t.cache)) w n
          | [] =>
            if 0 < t.bmOut ∨ !t.fetching.isEmpty then s0
            else State.tEndRun (s0.updTw w (fun t => { t with step := 4, cache := [], away := [] })) w n
      else if t.p.zeroSrc ∧ t.zeroAt < t.p.size ∧ !t.zeroStop then
        (s.tZero w).tZero w
      else if 0 < t.zeroOut then s
      else s.tIdle w (if t.zeroBad then 2 else 1)

def State.tEnd (s : State) (w : Nat) : State := s.tEndRun w 70000

/-- Begin an ending: nothing further is issued (R181, R183, R184). DEDUCED (log 86): a mirror-on request without an
answer is given up, and mirror off is sent all the same. -/
def State.tBegin (s : State) (w : Nat) (e : TEnd) : State :=
  let s0 := s.tStrip w
  let s1 := (if e = .close then s0 else s0.tStripBm w).updTw w (fun t => { t with
    ending := some e, step := 0, dec := if (t.dec.map (·.1)) = some 3 then none else t.dec,
    ph := if e = TEnd.close then TPh.close else if e = TEnd.fail then TPh.failed else t.ph })
  s1.tEnd w

/-! ### The Conjunction (R177 to R180) -/

/-- Issue Release for a Transit window, on the lowest-numbered attachment of its set not fenced by now (R375). -/
def State.tRelease (s : State) (w : Nat) : State :=
  match s.holds.find? (fun h => h.hid == w) with
  | none => s
  | some h =>
    let s1 := { s with holds := s.holds.filter (fun x => x.hid != w) }
    let n := ((List.range 8).find? (fun n => (s.tw w).p.xset.testBit n && !s.xaFenced n)).getD h.xa
    let s2 := s1.emit (.rq n (mkWord [(0, 3, 6), (3, 7, w)]))
    let d := (s.clk - h.at_) / 1000
    s2.updTw w (fun t => { t with last := min d 131071, max := Nat.max t.max (min d 131071) })

/-- An attempt takes the notification latency bound over (R194). -/
def State.latchDtr (s : State) : State := { s with trn := { s.trn with dtrLat := fld s.trnCtl 20 8 } }

/-- Start an attempt: issue Hold (R178 step 1, R375). -/
def State.tHold (s : State) (w : Nat) : State :=
  let t := s.tw w
  match (List.range 8).find? (fun n => t.p.xset.testBit n && !s.xaFenced n) with
  | none => s
  | some n =>
    let s1 := { s with holds := s.holds ++ [({ hid := w, line := t.p.served / 64, lines := t.p.size / 64, xa := n, at_ := s.clk } : Hold)] }
    let s2 := s1.emit (.rq n (mkWord [(0, 3, 5), (3, 7, w), (18, 46, t.p.served / 64)]))
    let s3 := s2.emit (.rq n (mkWord [(0, 3, 5), (18, 31, t.pages), (49, 10, fld s.trnCtl 0 10)]))
    (s3.updTw w (fun t => { t with ph := .conjunction, attempts := min 255 (t.attempts + 1),
                                   conj := some { tH := s.clk, fromRecall := t.ph == TPh.recall } })).latchDtr

/-- Finish an abandonment once nothing is in flight (R178 step 5). A try counts unless the window is aborted or has
failed (R192); a wear step whose tries are spent is aborted (R267). -/
def State.tAbandonEnd (s : State) (w : Nat) : State :=
  let t := s.tw w
  match t.conj with
  | none => s
  | some c =>
    if t.copies.any PCopy.busy then s
    else
      let s1 := (s.tRelease w).raise0 0x0C1 w
      let s2 := s1.updTw w (fun t => { t with
        ph := if c.fromRecall then TPh.recall else TPh.mirror, conj := none, copies := [], unit := none, cursor := 0,
        abandons := min 255 (t.abandons + 1) })
      if c.fail then
        let s3 := match t.conjoin with | some j => s2.endCmd (j.1, j.2.1) 0x18 0 0 | none => s2
        (s3.updTw w (fun t => { t with conjoin := none })).tBegin w .fail
      else if c.abort then s2.tBegin w .abort
      else
        let q := t.conjoin.map (fun j => (j.1, j.2.2))
        let s3 := match t.conjoin with
          | some (q, u, k) =>
            if 1 < k then s2.updTw w (fun t => { t with conjoin := some (q, u, k - 1) })
            else (s2.updTw w (fun t => { t with conjoin := none })).endCmd (q, u) 0x19 0 0
          | none => s2
        if q.any (fun q => q = (0x3000, 1)) then s3.tBegin w .abort else s3.tFree w

/-- Abandon the attempt: stop copying, wait for responses (R178 step 5). -/
def State.tAbandon (s : State) (w : Nat) : State :=
  ((s.tStrip w).updTw w (fun t => { t with conj := t.conj.map (fun c => { c with abandoning := true }) })).tAbandonEnd w

/-- R184: OPEN to RECALL goes to FAILED with a source; an attempt whose rebind request is not out is abandoned first,
one whose request is out fails if the answer is REFUSED. -/
def State.tFail (s : State) (w source : Nat) : State :=
  let t := s.tw w
  if t.ph = .idle ∨ t.ph = .failed ∨ t.ph = .close ∨ t.ending.isSome then s
  else
    let s0 := s.raise0 source w
    match t.conj with
    | some c =>
      let s1 := s0.updTw w (fun t => { t with conj := some { c with fail := true } })
      if c.rebind.isSome then s1 else s1.tAbandon w
    | none =>
      let s1 := match t.openCmd with | some c => s0.endCmd c 0x18 0 0 | none => s0
      let s2 := match t.conjoin with | some c => s1.endCmd (c.1, c.2.1) 0x18 0 0 | none => s1
      (s2.updTw w (fun t => { t with openCmd := none, conjoin := none })).tBegin w .fail

/-- Step 3: the copy has ended; issue the rebind request if in time. -/
def State.tRebind (s : State) (w : Nat) : State :=
  match (s.tw w).conj with
  | none => s
  | some c =>
    if s.clk ≤ c.tH + (s.holdMax - s.guardPs) then
      (s.updTw w (fun t => { t with conj := some { c with rebind := some s.clk } })).decReq w 5
    else s.tAbandon w

/-! ### Copying (R171 to R175) -/

/-- The page to read next from page `i` on, where it is known: SWEEP takes every page, a pass the pages whose bit is
set (deferred ones only inside the hold). `none` in the second place: its bitmap line must be fetched. -/
def TWin.nextPage_ (t : TWin) : Nat → Nat → Option Nat × Option Nat
  | 0, _ => (none, none)
  | n + 1, i =>
    if t.pages ≤ i then (none, none)
    else if t.ph = .sweep then (some i, none)
    else match t.bitOf i with
    | none => if t.dirty = 0 ∧ !t.passFull then (none, none) else (none, some (i / 512))
    | some b =>
      if (b || (t.passFull && t.ph == .orbit)) && !(t.ph != .conjunction && t.deferred.contains i) && !t.copies.any (fun c => c.page == i && c.wrLeft != 0)
      then (some i, none)
      else TWin.nextPage_ t n (i + 1)

/-- A burst of a page copy: inside the hold as Express from the shared pool (R179, R185). -/
def State.tBurst (s : State) (w : Nat) (c : PCopy) (rd : Bool) (ops : List LineOp) : State :=
  let t := s.tw w
  s.present { id := 0, rd := rd, lines := ops, own := ⟨.work, c.wid, c.page⟩, cls := if c.conj then 0 else t.p.cls,
              prio := if c.conj then 0 else t.p.prio, xset := t.p.xset, lim := if c.conj then none else t.p.lim,
              port := some (if rd then t.p.srcPort else t.p.dstPort), rq := 0x6000 + w, ctx := 0x8000 + w,
              mover := (Tbl.get c.wid s.works).bind (·.mover), conj := c.conj, win := some w,
              tenant := if rd then none else some t.p.bill }

/-- The read of a page. -/
def State.tRead (s : State) (w : Nat) (c : PCopy) : State :=
  s.tBurst w c true ((List.range 64).map (fun i => { line := (s.tw w).p.served / 64 + 64 * c.page + i, key := i }))

/-- Release a copy unit's place once all its pages are copied. -/
def State.tUnitEnd (s : State) (w wid : Nat) : State :=
  if (s.tw w).copies.any (fun x => x.wid == wid && x.doneAt.isNone) then s else { s with works := Tbl.del wid s.works }

/-- Present the read of the next page, in a copy unit of at most 64 consecutive pages, at most 8 units in flight. -/
def State.tCopy (s : State) (w : Nat) : State :=
  let t := s.tw w
  let go := (t.ph == .sweep || t.ph == .orbit || ((t.ph == .mirror || t.ph == .recall) && t.mirrored) ||
             (t.ph == .conjunction && (t.conj.map (fun c => c.acked && !c.abandoning && c.rebind.isNone)).getD false)) &&
            t.ending.isNone && t.dec.isNone && !t.reading && !(t.toMirror && t.ph == .orbit)
  if !go then s
  else match t.nextPage_ 1025 t.cursor with
  | (none, some ln) => s.bmFetch w ln
  | (none, none) => if t.pages ≤ t.cursor + 1025 ∨ t.ph = .sweep then s.updTw w (fun t => { t with cursor := t.pages })
                    else if t.dirty = 0 then s.updTw w (fun t => { t with cursor := t.pages })
                    else s.updTw w (fun t => { t with cursor := t.cursor + 1025 })
  | (some p, _) =>
    let reuse := match t.unit with
      | some (wid, lastP, k) => if lastP + 1 = p ∧ k < 64 ∧ Tbl.has wid s.works then some wid else none
      | none => none
    let units := ((Tbl.vals s.works).filter (fun v => v.who == 2 && v.which == w)).length
    let pick : Option (Nat × State) := match reuse with
      | some wid => some (wid, s.updTw w (fun t => { t with unit := t.unit.map (fun u => (u.1, p, u.2.2 + 1)) }))
      | none =>
        if 8 ≤ units then none
        else match s.moverFor (if t.ph = .conjunction then 0 else t.p.cls) with
        | none => none
        | some m =>
          let id := s.nextId
          some (id, { s with nextId := id + 1, works := Tbl.put id { uid := 0, who := 2, which := w, cls := t.p.cls, seg := p, mover := some m, lo := 0, hi := 0 } s.works
            }.updTw w (fun t => { t with unit := some (id, p, 1) }))
    match pick with
    | none => s
    | some (wid, s1) =>
      let cj := t.ph == .conjunction
      let c : PCopy := { page := p, wid := wid, conj := cj }
      (s1.updTw w (fun t => { t with reading := true, cursor := p,
                                     copies := t.copies.filter (fun x => x.page != p) ++ [c] })).tRead w c

/-- From ORBIT to MIRROR: the mirror-on request (R175). -/
def State.tMirror (s : State) (w : Nat) : State :=
  (s.updTw w (fun t => { t with ph := .mirror, waiting := false, passFull := false, fullPass := t.fullPass || t.passFull,
                                mirReq := true, unit := none })).decReq w 3

/-- Pass end (R174, R176, R177): record D, decide the phase. A pass that TO_MIRROR cuts short is none. -/
def State.tPassEnd (s : State) (w : Nat) : State :=
  let t := s.tw w
  let d := t.dirty
  let idle := t.copies.isEmpty && !t.reading && t.dec.isNone && t.ending.isNone && !s.trn.nq.any (fun n => n.1 == w)
  if t.ph = .sweep ∧ t.pages ≤ t.cursor ∧ idle then
    (s.tFree w).updTw w (fun t => { t with ph := .orbit, cursor := 0, prevD := some d, unit := none,
                                           passFull := t.fullPass, fullPass := false })
  else if t.ph = .orbit ∧ idle ∧ t.pages ≤ t.cursor then
    let n := min 255 (t.pass + 1)
    let met := decide (d ≤ t.p.mirrorPages) || decide (t.p.orbitMax ≤ n) ||
               (match t.prevD with | some q => decide (8 * d > 7 * q) | none => false)
    let s1 := (s.tFree w).updTw w (fun t => { t with
      pass := n, cursor := 0, prevD := some d, unit := none, passFull := t.fullPass, fullPass := false,
      waiting := t.waiting || met && t.p.waitMirror })
    if t.toMirror ∨ (met ∧ !t.p.waitMirror) ∨ ((met ∨ t.waiting) ∧ t.proceed) then s1.tMirror w else s1
  else if t.ph = .orbit ∧ idle ∧ t.toMirror then ((s.tFree w).updTw w (fun t => { t with cursor := 0 })).tMirror w
  else if (t.ph = .mirror ∨ t.ph = .recall) ∧ t.mirrored ∧ idle ∧ t.pages ≤ t.cursor then
    let s1 := (s.tFree w).updTw w (fun t => { t with cursor := 0, unit := none })
    if d ≤ t.p.conjMax ∧ (t.recalled ∨ !t.p.mem) ∧ t.conjoin.isSome then s1.tHold w
    else if t.ph = .mirror ∧ d ≤ t.p.conjMax ∧ t.p.mem ∧ !t.recalled then s1.updTw w (fun t => { t with ph := .recall })
    else s1
  else if t.ph = .conjunction then
    match t.conj with
    | none => s
    | some c =>
      if c.abandoning then s.tAbandonEnd w
      else if c.acked ∧ c.rebind.isNone ∧ t.pages ≤ t.cursor ∧ !t.reading ∧ !t.copies.any PCopy.busy ∧ t.copies.all (fun c => c.wrLeft == 0 || c.bad) then s.tRebind w
      else s
  else s

/-- A notification sets its page's bit, now or, through the queue, once the bit's line is held. -/
def State.tMark (s : State) (w p : Nat) : State :=
  match (s.tw w).bitOf p with
  | some _ => s.updTw w (fun t => t.setBit p true)
  | none => ({ s with trn := { s.trn with nq := s.trn.nq ++ [(w, p)] } }).bmFetch w (p / 512)

/-- What a notification does, by the phase in which it arrives (R171, R173, R175, R180, R187). -/
def State.tNote (s : State) (w p : Nat) : State :=
  let t := s.tw w
  if t.ph = .sweep then (if t.cursor ≤ p then s else s.tMark w p)
  else if (t.ph = .mirror ∨ t.ph = .recall) ∧ t.mirrored then
    s.updTw w (fun t => { t with copies := t.copies.map (fun c => if c.page = p ∧ c.issued then { c with conflict := true } else c) })
  else if t.ph = .orbit ∨ t.ph = .mirror then s.tMark w p
  else
    match t.conj with
    | some c =>
      if !c.acked then s
      else if c.rebind.isNone ∧ !c.abandoning then (s.raise0 0x0C5 w).tAbandon w
      else s.raise0 0x0C5 w
    | none => s

/-- Notifications whose bitmap line is held by now set their bits; the others wait on. -/
def State.tNotes (s : State) : State :=
  s.trn.nq.foldl (fun s n => s.tMark n.1 n.2) { s with trn := { s.trn with nq := [] } }

/-- A copy begins again, on a Mover that is not fenced; after a fence this is no retry, and its clean interval starts
over (R32, R172, R187). -/
def State.tAgain (s : State) (w : Nat) (c : PCopy) : State :=
  match Tbl.get c.wid s.works with
  | none => s
  | some v =>
    match v.mover <|> s.moverFor (if c.conj then 0 else v.cls) with
    | none => s
    | some m =>
      let c1 := { c with got := [], rdLeft := 64, wrLeft := 64, wrSent := false, bad := false, redo := false,
                         tries := if c.redo then c.tries else c.tries + 1,
                         issued := c.issued && !c.redo, conflict := c.conflict && !c.redo }
      ((s.updWork c.wid (fun v => { v with mover := some m })).updTw w (fun t => { t with
        copies := t.copies.map (fun x => if x.page = c.page then c1 else x) })).tRead w c1

/-- A page copy is over: retry, fail, wait for its clean interval, or clear (R172, R175, R178). After an abandonment
or in an ending nothing more is presented for it. -/
def State.tPageDone (s : State) (w page : Nat) : State :=
  let t := s.tw w
  match t.copies.find? (fun c => c.page == page) with
  | none => s
  | some c =>
    let drop := s.updTw w (fun t =>
      let t1 := if c.conj && c.wrSent && !c.bad && !c.redo then t.setBit page false else t
      { t1 with copies := t1.copies.filter (fun x => x.page != page),
                deferred := if c.conj && c.wrSent && !c.bad && !c.redo then t1.deferred.filter (· != page) else t1.deferred })
    if c.busy ∨ c.doneAt.isSome then s
    else if (t.conj.map (·.abandoning)).getD false ∨ t.ending.isSome then drop
    else if c.redo then s.tAgain w c
    else if c.bad then
      if 3 ≤ c.tries then (s.updTw w (fun t => { t with copies := t.copies.filter (fun x => x.page != page) })).tFail w 0x0C2
      else s.tAgain w c
    else if !c.wrSent then
      let ops := (List.range 64).map (fun i =>
        match c.got.find? (fun g => g.1 == i) with
        | some (_, some l) => { wrLine (t.p.dst + 4096 * page + 64 * i) l with key := i }
        | _ => { line := t.p.dst / 64 + 64 * page + i, mask := fullMask, poison := true, key := i })
      (s.updTw w (fun t => { t with copies := t.copies.map (fun x => if x.page = page then { x with wrSent := true } else x) })).tBurst
        w c false ops
    else if t.ph = .mirror ∨ t.ph = .recall then
      (s.updTw w (fun t => { t with copies := t.copies.map (fun x => if x.page = page then { x with doneAt := some s.clk } else x) })).tUnitEnd
        w c.wid
    else drop.tUnitEnd w c.wid

/-- Copies of a fenced Mover that wait to start over. -/
def State.tRedo (s : State) (w : Nat) : State :=
  (s.tw w).copies.foldl (fun s c => if c.redo then s.tPageDone w c.page else s) s

/-- Everything that follows of itself on a window. -/
def State.tPump (s : State) (w : Nat) : State :=
  let s1 := s.tNotes.tRedo w
  let s2 := iter (fun s => (s.tCopy w).tPassEnd w) 3 s1
  s2.tEnd w

/-- Zero-fill of the bitmap buffer, then the arm request (R171). -/
def TWin.bmLines (t : TWin) : Nat := ceilDiv (ceilDiv t.p.size 32768) 64
def State.tFill (s : State) (w : Nat) : State :=
  let t := s.tw w
  if t.fill < t.bmLines then
    if s.bursts.any (fun b => b.own.k == OwnK.bmWr && b.own.a == w) then s
    else
      let n := min 64 (t.bmLines - t.fill)
      let s1 := s.updTw w (fun t => { t with fill := t.fill + n, bmOut := t.bmOut + n })
      s1.bmReq w false ((List.range n).map (fun i => wrLine (t.p.bitmap + 64 * (t.fill + i)) 0)) 0
  else if t.bmOut = 0 ∧ t.dec.isNone then s.decReq w 1
  else s

/-- Open a window with checked parameters (R171, R189). -/
def State.tOpen (s : State) (w : Nat) (p : TParam) (cmd : Option (Nat × Nat)) (wear : Bool) : State :=
  let out := (s.tw w).outcome
  (s.updTw w (fun _ => { ph := .open_, p := p, openCmd := cmd, wear := wear, outcome := out })).tFill w

/-- Legal parameters (R167, R169, R190). -/
def State.tParamOk (s : State) (p : TParam) : Bool :=
  let al := fun a => decide (a % 4096 = 0) && decide (a < 2 ^ 52)
  let bm := ceilDiv (ceilDiv p.size 32768) 64 * 64
  let inR := fun a n => decide (a + n ≤ 2 ^ 52)
  let ranges := fun (p : TParam) => [(p.served, p.size), (p.dst, p.size)] ++ (if p.src = 0 then [] else [(p.src, p.size)])
  let openW := s.trn.wins.filter (fun t => t.ph != .idle)
  decide (4096 ≤ p.size) && decide (p.size ≤ 2 ^ 42) && decide (p.size % 4096 = 0) &&
  al p.served && al p.dst && al p.src && al p.bitmap && inR p.served p.size && inR p.dst p.size && inR p.src p.size && inR p.bitmap bm &&
  (!p.zeroSrc || p.src != 0) &&
  (ranges p).all (fun r => !overlap p.bitmap bm r.1 r.2) &&
  openW.all (fun t => (ranges t.p).all (fun r => !overlap p.bitmap bm r.1 r.2) &&
    (ranges p).all (fun r => !overlap t.p.bitmap (t.bmLines * 64) r.1 r.2) && !overlap p.bitmap bm t.p.bitmap (t.bmLines * 64))

/-! ### Events -/

/-- The first read of a page is issued: the cursor passes it, its bit is cleared (R171, R173, R175). -/
def State.tIssued (s : State) (w page : Nat) (rd : Bool) : State :=
  if !rd then s
  else s.updTw w (fun t =>
    let first := t.copies.any (fun c => c.page == page && !c.issued)
    let t1 := if first ∧ (t.ph = .orbit ∨ t.ph = .mirror ∨ t.ph = .recall) then t.setBit page false else t
    { t1 with reading := if page = t.cursor then false else t.reading, cursor := if t.reading ∧ page = t.cursor then page + 1 else t.cursor,
              copies := t1.copies.map (fun c => if c.page = page then { c with issued := true } else c) })

/-- A transaction of a copy unit ended. -/
def State.tData (s : State) (w wid page : Nat) (rd : Bool) (op : LineOp) (res : Res) : State :=
  if (Tbl.get wid s.works).map (·.who) = some 6 then
    let s1 := s.updTw w (fun t => { t with zeroOut := t.zeroOut - 1 })
    let s2 := match res with
      | .good _ => s1
      | .bad _ => if (s1.tw w).zeroBad then s1 else (s1.updTw w (fun t => { t with zeroBad := true })).raise0 0x0C7 w
    s2.tEnd w
  else
    let s1 := s.updTw w (fun t => { t with copies := t.copies.map (fun c =>
      if c.page = page then
        if rd then
          match res with
          | .good l => { c with rdLeft := c.rdLeft - 1, got := c.got ++ [(op.key, some l)] }
          | .bad st => if st = 0x12 then { c with rdLeft := c.rdLeft - 1, got := c.got ++ [(op.key, none)] }
                       else { c with rdLeft := c.rdLeft - 1, bad := true }
        else
          match res with
          | .good _ => { c with wrLeft := c.wrLeft - 1 }
          | .bad _ => { c with wrLeft := c.wrLeft - 1, bad := true }
      else c) })
    (s1.tPageDone w page).tPump w

/-- A bitmap line read or written (R170). -/
def State.tBm (s : State) (w ln : Nat) (rd : Bool) (res : Res) : State :=
  if rd then
    let s1 := s.updTw w (fun t => { t with fetching := t.fetching.filter (· != ln) })
    let put := fun (l : Line) (dirty : Bool) => s1.updTw w (fun t => { t with
      cache := Tbl.put ln l t.cache, away := Tbl.del ln t.away,
      dirty := t.dirty - Tbl.getD ln 0 t.away + linePop t ln l,
      cdirty := if dirty ∧ !t.cdirty.contains ln then t.cdirty ++ [ln] else t.cdirty })
    match res with
    | .good l => (put l false).tPump w
    | .bad st =>
      if st = 0x12 then
        ((put (BitVec.allOnes 512) true).bmWriteBack w ln (BitVec.allOnes 512)).tPump w
      else (s1.tFail w 0x0C4).tPump w
  else
    let s1 := s.updTw w (fun t => { t with bmOut := t.bmOut - 1 })
    let s2 := match res with
      | .good _ => s1
      | .bad _ => s1.tFail w 0x0C4
    if (s2.tw w).ph = .open_ ∧ (s2.tw w).ending.isNone then s2.tFill w else s2.tPump w

/-- TRANSIT_ABORT's effect (R183), by a command or by QUIESCE. -/
def State.tAbort (s : State) (w : Nat) (cmd : Option (Nat × Nat)) : State :=
  let t := s.tw w
  let s0 := s.updTw w (fun t => { t with abortCmd := if cmd.isSome then cmd else t.abortCmd })
  if t.ph = .idle then s
  else if t.ph = .failed then
    if t.ending.isSome then s0.updTw w (fun t => { t with ending := some .failAbort }) else s0.tIdle w 4
  else if t.ph = .close then
    let mine := fun (b : Burst) => b.own.k == OwnK.work && some b.own.a == t.zeroWid
    let n : Nat := ((s0.bursts ++ s0.granted).filter mine).foldl (fun a b => a + b.lines.length) 0
    let short : Bool := t.p.zeroSrc && !t.zeroStop && (decide (t.zeroAt < t.p.size) || decide (0 < n))
    let s1 := (s0.dropBursts mine).updTw w (fun t => { t with
      zeroStop := true, zeroBad := t.zeroBad || short, zeroOut := t.zeroOut - n })
    (if short && !t.zeroBad then s1.raise0 0x0C7 w else s1).tEnd w
  else if t.ph = .conjunction then
    match t.conj with
    | some c =>
      let s1 := s0.updTw w (fun t => { t with conj := some { c with abort := true } })
      if c.rebind.isSome then s1 else s1.tAbandon w
    | none => s0
  else if t.ending.isSome then s0
  else s0.tBegin w .abort

/-- A notification arrives (R170, R390). -/
def State.dtr (s : State) (w p : Nat) : State :=
  let t := s.tw w
  if s.mode = .safe ∨ t.ph = .idle ∨ t.ph = .failed ∨ t.pages ≤ p then s
  else if 4096 ≤ s.trn.nq.length then
    let s1 := s.updTw w (fun t => { t with
      lost := min (2 ^ 32 - 1) (t.lost + 1), fullPass := true,
      copies := if t.mirrored then t.copies.map (fun c => if c.issued then { c with conflict := true } else c) else t.copies })
    s1.raise0 0x0C0 w
  else (s.tNote w p).tPump w

/-- An answer on DEC_ (R391). -/
def State.decAnswer (s : State) (w op code : Nat) : State :=
  let t := s.tw w
  match t.dec with
  | none => s.raise0 0x0C5 w
  | some (o, _) =>
    if o ≠ op then s.raise0 0x0C5 w
    else
      let s1 := s.updTw w (fun t => { t with dec := none })
      if o = 1 ∧ t.ending.isSome then (if code = 0 then s1 else s1.raise0 0x0C5 w).tEnd w
      else if o = 1 then
        if code = 0 then
          let s2 := s1.updTw w (fun t => { t with ph := .sweep, cursor := 0, openCmd := none })
          (match t.openCmd with | some c => s2.endCmd c 0 0 0 | none => s2).tPump w
        else
          let s2 := (s1.raise0 0x0C5 w).updTw w (fun t => { t with openCmd := none })
          (match t.openCmd with | some c => s2.endCmd c 0x19 0 0 | none => s2).tIdle w t.outcome
      else if o = 3 then
        if code = 0 then (s1.updTw w (fun t => { t with mirrored := true, cursor := 0 })).tPump w
        else s.raise0 0x0C5 w
      else if o = 5 then
        match t.conj with
        | none => s1
        | some c =>
          if code = 0 then
            let s2 := s1.tRelease w
            let s3 := s2.updTw w (fun t => { t with conj := none, conjoin := none })
            let s4 := match t.conjoin with
              | some (q, u, _) => s3.endCmd (q, u) 0 0 (BitVec.ofNat 64 (s3.tw w).last)
              | none => s3
            s4.tBegin w .close
          else if code = 1 then (s1.updTw w (fun t => { t with conj := some { c with rebind := none } })).tAbandon w
          else s
      else
        let s2 := if code = 0 then s1 else s1.raise0 0x0C5 w
        s2.tEnd w

/-- An unanswered request (R391). -/
def State.decTimeout (s : State) (w : Nat) : State :=
  let t := s.tw w
  match t.dec with
  | none => s
  | some (o, at_) =>
    if o = 5 then s
    else
      let s1 := (s.reach (at_ + 100000000)).raise0 0x0C5 w
      if o = 3 then s1.updTw w (fun t => { t with dec := some (3, s1.clk) })
      else
        let s2 := s1.updTw w (fun t => { t with dec := none })
        if o = 1 ∧ t.ending.isNone then
          let s3 := s2.updTw w (fun t => { t with openCmd := none })
          (match t.openCmd with | some c => s3.endCmd c 0x19 0 0 | none => s3).tIdle w t.outcome
        else s2.tEnd w

/-- The end of a page's clean interval (R175). -/
def State.tClean (s : State) (w p : Nat) : State :=
  let t := s.tw w
  match t.copies.find? (fun c => c.page == p && c.doneAt.isSome) with
  | none => s
  | some c =>
    let s1 := s.reach ((c.doneAt.getD 0) + s.dtrLat)
    let s2 := s1.updTw w (fun t =>
      let t1 := { t with copies := t.copies.filter (fun x => x.page != p) }
      if c.conflict then
        let k := Tbl.getD p 0 t.conflicts + 1
        let t2 := t1.setBit p true
        { t2 with conflicts := Tbl.put p k t2.conflicts,
                  deferred := if 4 ≤ k ∧ !t2.deferred.contains p then t2.deferred ++ [p] else t2.deferred }
      else t1)
    s2.tPump w

/-- The 2 µs of a rebind request (R180). -/
def State.rebindTimeout (s : State) (w : Nat) : State :=
  match (s.tw w).conj with
  | some c =>
    match c.rebind with
    | some t => ((s.reach (t + 2000000)).updTw w (fun t => { t with dec := none })).raise0 0x0C6 w
    | none => s
  | none => s

/-- HOLD_MAX without an acknowledgement (R180). -/
def State.holdAckTimeout (s : State) (w : Nat) : State :=
  match (s.tw w).conj with
  | some c => if c.acked ∨ c.abandoning then s else ((s.reach (c.tH + s.holdMax)).raise0 0x0C5 w).tAbandon w
  | none => s

/-- The deadline of an attempt (R178). -/
def State.conjDeadline (s : State) (w : Nat) : State :=
  match (s.tw w).conj with
  | some c =>
    if c.abandoning ∨ c.rebind.isSome then s else (s.reach (c.tH + (s.holdMax - s.guardPs))).tAbandon w
  | none => s

/-- An answer to the Hold of a Transit window (R377). -/
def State.tHoldAnswer (s : State) (w : Nat) (ok : Bool) : State :=
  match (s.tw w).conj with
  | none => s
  | some c =>
    if c.acked then s
    else if ok then
      let s1 := { s with holds := s.holds.map (fun h => if h.hid = w then { h with acked := true } else h) }
      if c.abandoning then s1
      else (s1.updTw w (fun t => { t with conj := some { c with acked := true }, cursor := 0 })).tPump w
    else
      -- no Release follows a refused Hold
      let s1 := { s with holds := s.holds.filter (fun h => h.hid != w) }
      (s1.raise0 0x0C5 w).tAbandon w

/-- A port reported DOWN (R184). -/
def State.tPort (s : State) (p : Nat) : State :=
  (List.range 8).foldl (fun s w =>
    let t := s.tw w
    if t.ph = .idle ∨ (t.p.srcPort ≠ p ∧ t.p.dstPort ≠ p) then s
    else if (t.conj.map (fun c => c.rebind.isSome)).getD false then s
    else s.tFail w 0x0C3) s

/-- A Mover is fenced: its copy unit is issued again on another one; CLOSE's zeroing goes on there
(R32, R187; DEDUCED, log 91). -/
def State.tFence (s : State) (wid : Nat) : State :=
  match Tbl.get wid s.works with
  | none => s
  | some v =>
    let mine := fun (b : Burst) => b.own.k == OwnK.work && b.own.a == wid
    let gone := (s.bursts ++ s.granted).filter mine
    if v.who = 6 then
      let m := s.moverFor v.cls
      let s1 := (s.dropBursts mine).updWork wid (fun x => { x with mover := m })
      { s1 with bursts := gone.map (fun b => { b with mover := m, xa := 0, rs := false }) ++ s1.bursts }
    else
      let of := fun (c : PCopy) (rd : Bool) => gone.any (fun b => b.own.b == c.page && b.rd == rd)
      ((s.dropBursts mine).updWork wid (fun x => { x with mover := none })).updTw v.which (fun t => { t with
        copies := t.copies.map (fun c =>
          if c.wid = wid ∧ c.doneAt.isNone then
            { c with redo := true, rdLeft := if of c true then 0 else c.rdLeft, wrSent := c.wrSent && !of c false }
          else c) })

/-- TRN_STATUS and the window registers (R194). -/
def TPh.code : TPh → Nat
  | .idle => 0 | .open_ => 1 | .sweep => 2 | .orbit => 3 | .mirror => 4 | .recall => 5 | .conjunction => 6 | .close => 7 | .failed => 8

def TWin.state (t : TWin) : Word :=
  mkWord [(0, 4, t.ph.code), (4, 1, b2n t.waiting), (5, 1, b2n t.mirrored), (6, 1, b2n t.recalled), (7, 1, b2n t.conjoin.isSome),
          (8, 1, b2n t.fullPass), (16, 8, t.pass), (32, 4, t.outcome)]
def TWin.dirtyReg (t : TWin) : Word := mkWord [(0, 31, t.dirty), (32, 16, min 65535 t.deferred.length)]
def TWin.holdReg (t : TWin) : Word := mkWord [(0, 17, t.last), (32, 17, t.max)]
def TWin.countReg (t : TWin) : Word := mkWord [(0, 8, t.attempts), (8, 8, t.abandons), (16, 32, t.lost)]
def State.trnReg (s : State) (off : Nat) : Word :=
  if off = 8 then mkWord ((List.range 8).map (fun w => (4 * w, 4, (s.tw w).ph.code)) ++ [(32, 13, s.trn.nq.length)])
  else if 0x100 ≤ off ∧ off < 0x500 then
    let t := s.tw ((off - 0x100) / 0x80)
    let o := (off - 0x100) % 0x80
    if o = 0 then t.state else if o = 8 then BitVec.ofNat 64 (t.cursor % 2 ^ 30) else if o = 16 then t.dirtyReg
    else if o = 24 then t.holdReg else if o = 32 then t.countReg else 0
  else 0

end Sys2Proof.Machine
end

