-- ==== Sys2Proof/Machine/Channels.lean ====
section
/-! DEFINITION. Hardware channels and request lines (chapter 7; R241 to R245). -/

namespace Sys2Proof.Machine

def State.chan (s : State) (c : Nat) : Chan := Tbl.getD c {} s.chn.chans
def State.updChan (s : State) (c : Nat) (f : Chan → Chan) : State :=
  { s with chn := { s.chn with chans := Tbl.put c (f (s.chan c)) s.chn.chans } }

/-! ### Registers -/

def Chan.a (c : Chan) (i : Nat) : Word := c.act.getD i 0
def Chan.base (c : Chan) : Nat := (c.a 0).toNat
def Chan.n (c : Chan) : Nat := 2 ^ (fld (c.a 1) 0 5)
def Chan.line (c : Chan) : Nat := fld (c.a 3) 0 8
def Chan.src (c : Chan) : Nat := fld (c.a 3) 8 2
def Chan.wake (c : Chan) : Bool := fbit (c.a 3) 10
def Chan.ackpt (c : Chan) : Bool := fbit (c.a 3) 11
def Chan.gap (c : Chan) : Nat := fld (c.a 3) 12 4

/-- A channel binds its request line (R202). -/
def Chan.binds (c : Chan) (l : Nat) : Bool := c.st != .disabled && c.src != 0 && c.line == l

/-! ### Descriptors (R199 to R201) -/

def ChDesc.q0 (d : ChDesc) : Nat := d.w.getD 0 0
def ChDesc.eoc (d : ChDesc) : Bool := bit d.q0 2
def ChDesc.mode (d : ChDesc) : Nat := bits d.q0 4 4
def ChDesc.k (d : ChDesc) : Nat := bits d.q0 8 8 * 64
def ChDesc.evt (d : ChDesc) : Bool := bit d.q0 16
def ChDesc.csum (d : ChDesc) : Bool := bit d.q0 17
def ChDesc.iw (d : ChDesc) : Nat := if bit d.q0 18 then 8 else 4
def ChDesc.iside (d : ChDesc) : Bool := bit d.q0 19
def ChDesc.count (d : ChDesc) : Nat := bits d.q0 32 32
def ChDesc.src (d : ChDesc) : Nat := d.w.getD 1 0
def ChDesc.dst (d : ChDesc) : Nat := d.w.getD 2 0
def ChDesc.x (d : ChDesc) : Nat := d.w.getD 3 0
def ChDesc.rowlen (d : ChDesc) : Nat := bits d.x 0 20
def ChDesc.spitch (d : ChDesc) : Nat := bits d.x 20 22
def ChDesc.dpitch (d : ChDesc) : Nat := bits d.x 42 22

/-- Bytes that the source and destination sides reach. -/
def ChDesc.srcLen (d : ChDesc) : Nat :=
  if d.mode = 1 then (d.count / d.rowlen - 1) * d.spitch + d.rowlen
  else if d.mode = 3 then min d.k d.count else d.count
def ChDesc.dstLen (d : ChDesc) : Nat :=
  if d.mode = 1 then (d.count / d.rowlen - 1) * d.dpitch + d.rowlen
  else if d.mode = 4 then min d.k d.count else d.count

/-- MALFORMED of R201. -/
def ChDesc.malformed (d : ChDesc) : Bool :=
  let b := bits d.q0 8 8
  decide (4 < d.mode) || decide (b = 0 ∨ 64 < b) || bit d.q0 3 || decide (bits d.q0 20 12 ≠ 0) ||
  decide (2 ^ 52 ≤ d.src) || decide (2 ^ 52 ≤ d.dst) ||
  (if d.mode = 1 then decide (d.rowlen = 0) || decide (d.count % d.rowlen ≠ 0) ||
      decide (d.spitch ≠ 0 ∧ d.spitch < d.rowlen) || decide (d.dpitch ≠ 0 ∧ d.dpitch < d.rowlen)
   else if d.mode = 2 then decide (2 ^ 52 ≤ d.x) || decide (d.count % d.k ≠ 0)
   else decide (d.x ≠ 0) ||
      (d.mode == 3 && decide (4096 < d.src % 4096 + d.k)) || (d.mode == 4 && decide (4096 < d.dst % 4096 + d.k)))

/-- ALIGNMENT of R201. -/
def ChDesc.misaligned (d : ChDesc) : Bool :=
  (d.mode == 2 && decide (d.x % d.iw ≠ 0)) || (d.mode == 3 && decide (d.src % 64 ≠ 0)) ||
  (d.mode == 4 && decide (d.dst % 64 ≠ 0))

/-- A window of this Station that covers a range with a right: its offset and port. -/
def State.chWin (s : State) (t a len : Nat) (rd wr : Bool) : Option (Int × Nat) :=
  match findWin s.wins t a len with
  | some (_, w) => if (rd && !w.rd) || (wr && !w.wr) || w.station != s.stn.id then none else some (w.offset, w.port)
  | none => none

/-- Check a descriptor at fetch and translate its ranges. -/
def State.chCheck (s : State) (t : Nat) (d : ChDesc) : ChDesc :=
  let bad := fun (c : Nat) => { d with err := some (0, c) }
  if d.malformed then bad 0x17
  else if d.misaligned then bad 0x16
  else if d.count = 0 then d
  else
    let needS := !(d.mode == 2 && !d.iside)
    let needD := !(d.mode == 2 && d.iside)
    let ws := if needS then s.chWin t d.src d.srcLen true false else some (0, 0)
    let wd := if needD then s.chWin t d.dst d.dstLen false true else some (0, 0)
    let wt := if d.mode = 2 then s.chWin t d.x (d.count / d.k * d.iw) true false else some (0, 0)
    match ws, wd, wt with
    | some a, some b, some c =>
      let d1 := { d with so := a.1, sp := if needS then some a.2 else none, do_ := b.1, dp := if needD then some b.2 else none,
                         to_ := c.1, tp := if d.mode = 2 then some c.2 else none,
                         wins := if d.mode = 2 then s.wins.filter (fun w => w.2.tenant == t) else [] }
      if s.portUp d1.sp && s.portUp d1.dp && s.portUp d1.tp then d1 else { d1 with err := some (0, 0x14) }
    | _, _, _ => bad 0x15

/-- Fabric address of the source and the destination of byte x, the indexed block of its request in hand. -/
def ChDesc.srcOf (d : ChDesc) (r : ChReq) (x : Nat) : Nat :=
  if d.mode = 1 then addOff (d.src + x / d.rowlen * d.spitch + x % d.rowlen) d.so
  else if d.mode = 2 ∧ !d.iside then r.blk + x % d.k
  else if d.mode = 3 then addOff (d.src + x % d.k) d.so
  else addOff (d.src + x) d.so
def ChDesc.dstOf (d : ChDesc) (r : ChReq) (x : Nat) : Nat :=
  if d.mode = 1 then addOff (d.dst + x / d.rowlen * d.dpitch + x % d.rowlen) d.do_
  else if d.mode = 2 ∧ d.iside then r.blk + x % d.k
  else if d.mode = 4 then addOff (d.dst + x % d.k) d.do_
  else addOff (d.dst + x) d.do_

/-- Offsets of a request. -/
def ChReq.xs (r : ChReq) : List Nat := (List.range r.len).map (· + r.off)

/-- Cut line operations into bursts: at most m lines, one 4 KiB page on each side (R18); `pg` names the pair of pages
of the offset at which a line begins. -/
def cutRuns (pg : Nat → Nat × Nat) (m : Nat) (ops : List LineOp) : List (List LineOp) :=
  (ops.foldl (fun (acc : List (List LineOp)) o =>
    match acc with
    | (a :: t) :: rest => if decide (t.length + 1 < m) && pg a.key == pg o.key then (o :: a :: t) :: rest else [o] :: acc
    | _ => [o] :: acc) []).reverse.map List.reverse

/-- The source lines of a request, each once, keyed by the first offset that needs it. -/
def ChDesc.reads (d : ChDesc) (r : ChReq) (m : Nat) : List (List LineOp) :=
  let ops := r.xs.foldl (fun (acc : List LineOp) x =>
    let ln := d.srcOf r x / 64
    if acc.any (fun o => o.line == ln) then acc else acc ++ [{ line := ln, key := x }]) []
  cutRuns (fun x => (d.srcOf r x / 4096, d.dstOf r x / 4096)) m ops

/-- A source byte of a request. -/
def ChDesc.byte (d : ChDesc) (r : ChReq) (x : Nat) : Nat :=
  let a := d.srcOf r x
  match Tbl.get (a / 64) r.got with
  | some l => lineByte l (a % 64)
  | none => 0

/-- The destination writes of a request: its bytes line by line; from a poisoned source line on, WritePoison (R211). -/
def ChDesc.writes (d : ChDesc) (r : ChReq) (m : Nat) : List (List LineOp) :=
  let cut := r.poison.getD (r.off + r.len)
  let ops := r.xs.foldl (fun (acc : List LineOp) x =>
    let a := d.dstOf r x
    let one := wrBytes a [d.byte r x]
    let merge := fun (o : LineOp) =>
      if o.line = a / 64 then
        if cut ≤ x then { o with poison := true, mask := fullMask }
        else { o with mask := o.mask ||| one.mask, data := (o.data &&& ~~~ BitVec.ofNat 512 (255 * 2 ^ (8 * (a % 64)))) ||| one.data }
      else o
    if acc.any (fun o => o.line == a / 64) then acc.map merge
    else acc ++ [(if cut ≤ x then { one with key := x, poison := true, mask := fullMask } else { one with key := x } : LineOp)]) []
  cutRuns (fun x => (d.srcOf r x / 4096, d.dstOf r x / 4096)) m ops

/-! ### Bursts of a channel -/

def chRq (c : Nat) : Nat := 0x4000 + c

/-- Present a burst of a channel in its class; a paused channel keeps it back (R243). -/
def State.chBurst (s : State) (c : Nat) (rd : Bool) (ops : List LineOp) (own : Own) (port : Option Nat) (mover : Option Nat)
    (meter : Bool) : State :=
  let ch := s.chan c
  let b : Burst := {
    id := 0, rd := rd, lines := ops, own := own, cls := ch.cls, prio := ch.prio, xset := ch.xset,
    lim := if bit ch.limiter 15 then some (bits ch.limiter 0 12) else none,
    resv := if ch.cls = 1 then some (chRq c) else none, port := port, rq := chRq c, ctx := chRq c, mover := mover,
    tenant := if meter then some ch.tenant else none }
  if ch.st = .pausing ∨ ch.st = .paused then
    { s with nextId := s.nextId + 1 }.updChan c (fun x => { x with parked := x.parked ++ [{ b with id := s.nextId }] })
  else s.present b

/-- The lines a burst of the channel may have (R45, R208). -/
def State.chMax (s : State) (c : Nat) (rd : Bool) : Nat :=
  if (s.chan c).cls = 1 then
    match Tbl.get (chRq c) s.tt.resv with
    | some r => let k := r.share rd; if 0 < k ∧ k < 64 then k else 64
    | none => 64
  else 64

/-- Whether a burst is the channel's. -/
def chMine (c : Nat) (b : Burst) : Bool := b.rq == chRq c

/-- The work item of a channel's descriptor, once started. -/
def State.chWork (s : State) (c u : Nat) : Option Nat :=
  (s.works.find? (fun p => p.2.who == 1 && p.2.which == c && p.2.uid == u)).map (·.1)

/-- Count lines in or out of the work item that a burst of the channel belongs to: data by its own number, a
write-back by its descriptor. -/
def State.chCount (s : State) (c : Nat) (o : Own) (f : Nat → Nat) : State :=
  match (if o.k = OwnK.work then some o.a else if o.k = OwnK.chWb then s.chWork c o.b else none) with
  | some w => s.updWork w (fun w => { w with out := f w.out })
  | none => s

/-- Take back every burst of the channel that satisfies a test and is not issued. -/
def State.chStrip (s : State) (c : Nat) (f : Burst → Bool) : State :=
  let mine := fun (b : Burst) => chMine c b && f b
  let gone := (s.bursts ++ s.granted ++ (s.chan c).parked).filter mine
  let s1 := (s.dropBursts mine).updChan c (fun x => { x with
    parked := x.parked.filter (fun b => !mine b),
    reqs := x.reqs.map (fun r =>
      if gone.any (fun b => b.own.k == OwnK.work && b.own.b == r.id) then { r with busy := false } else r) })
  gone.foldl (fun s b => s.chCount c b.own (· - b.lines.length)) s1

def Chan.desc (c : Chan) (u : Nat) : Option ChDesc := c.descs.find? (fun d => d.uid == u)
def State.updDesc (s : State) (c u : Nat) (f : ChDesc → ChDesc) : State :=
  s.updChan c (fun x => { x with descs := x.descs.map (fun d => if d.uid = u then f d else d) })
def State.updReq (s : State) (c id : Nat) (f : ChReq → ChReq) : State :=
  s.updChan c (fun x => { x with reqs := x.reqs.map (fun r => if r.id = id then f r else r) })

/-- Record an anomaly of a descriptor: the lowest offset is reported (R211). -/
def ChDesc.bad (d : ChDesc) (off code : Nat) : ChDesc :=
  match d.err with
  | some (o, _) => if off < o then { d with err := some (off, code) } else d
  | none => { d with err := some (off, code) }

/-- STARTED of CH_STATUS: descriptors started and not completed, dropped ones with transactions included. -/
def State.chStarted (s : State) (c : Nat) : Nat :=
  ((Tbl.vals s.works).filter (fun w => w.who == 1 && w.which == c)).length

/-! ### Pulses and acknowledges (R204 to R206, R210) -/

/-- A pulse of a channel falls due on an EVO line. -/
def State.evoDue (s : State) (c line : Nat) : State :=
  let n := Tbl.getD line 0 s.chn.evo
  if 255 ≤ n then (s.updChan c (fun x => { x with evtOvf := true })).raise0 0x0E3 c
  else { s with chn := { s.chn with evo := Tbl.put line (n + 1) s.chn.evo } }.updChan c (fun x => { x with pulsed := some (s.clk, line) })

/-- The pulse of a write-back response that meets ENABLE 1→0 in one cycle is not given (R250). -/
def State.evoTake (s : State) (c : Nat) : State :=
  match (s.chan c).pulsed with
  | none => s
  | some (t, line) =>
    let n := Tbl.getD line 0 s.chn.evo
    if t = s.clk ∧ 0 < n then
      { s with chn := { s.chn with evo := if n = 1 then Tbl.del line s.chn.evo else Tbl.put line (n - 1) s.chn.evo } }
    else s

/-- The due pulse leaves, at least 2 EVT cycles after the last one of its line. -/
def State.evoPulse (s : State) (line : Nat) : State :=
  let n := Tbl.getD line 0 s.chn.evo
  if n = 0 ∨ s.mode = .safe ∨ s.mode = .off then s
  else
    let s1 := match Tbl.get line s.chn.evoLast with | some t => s.reach (t + 2500) | none => s
    { s1 with chn := { s1.chn with evo := if n = 1 then Tbl.del line s1.chn.evo else Tbl.put line (n - 1) s1.chn.evo,
                                   evoLast := Tbl.put line s1.clk s1.chn.evoLast } }.emit (.evo line)

/-- A request's work is over as far as its acknowledge is concerned. -/
def Chan.ackDue (c : Chan) (r : ChReq) : Bool :=
  if r.failed || r.poison.isSome then r.out == 0 && !r.busy && r.todo.isEmpty
  else r.ph == 2 && r.todo.isEmpty && !r.busy && (!c.ackpt || r.out == 0)

/-- Acknowledge requests in order, as they fall due. -/
def State.chAcks (s : State) (c : Nat) : Nat → State
  | 0 => s
  | n + 1 =>
    let ch := s.chan c
    match ch.reqs.find? (fun r => !r.acked) with
    | none => s
    | some r =>
      if !ch.ackDue r then s
      else
        let s1 := s.updReq c r.id (fun r => { r with acked := true })
        let s2 := match r.line with
          | none => s1
          | some l => (s1.updChan c (fun x => { x with lastAck := some s.clk })).emit (.ack l)
        State.chAcks s2 c n

/-! ### Stops -/

/-- CH_PTR: the oldest descriptor not completed, else the fetch pointer (R222). -/
def Chan.ptr (c : Chan) : Nat × Bool :=
  if c.st = .disabled ∨ c.descs.any (·.old) then (fld (c.a 2) 0 16, fbit (c.a 2) 16)
  else match c.descs with
    | d :: _ => (d.slot, d.wrap)
    | [] => (c.fp, c.fw)

/-- A channel fails on its own structures or its settings (R212, R217): its ring is not written any more, CH_PTR stays on
the oldest descriptor. -/
def State.chFence (s : State) (c source : Nat) : State :=
  let ch := s.chan c
  if ch.st = .fenced ∨ ch.st = .disabled then s.raise0 source c
  else
    let p := ch.ptr
    let s1 := (s.chStrip c (fun _ => true)).updChan c (fun x => { x with
      st := .fenced, fetching := false, fstale := x.fstale || x.fetching, fp := p.1, fw := p.2,
      descs := x.descs.filter (fun d => d.wid.isSome), parked := [],
      reqs := x.reqs.map (fun r => { r with failed := true, todo := [], busy := false }) })
    (s1.raise0 source c).chAcks c 20

/-! ### Fetch (R207) -/

def Chan.advance (c : Chan) (i : Nat) (w : Bool) : Nat × Bool := if i + 1 ≥ c.n then (0, !w) else (i + 1, w)

/-- Fetch the line of the fetch pointer, where a fetch is due. -/
def State.chFetch (s : State) (c : Nat) : State :=
  let ch := s.chan c
  if ch.st != .active || ch.fetching || ch.fstop || ch.descs.any (·.old) || decide (3 ≤ ch.descs.length) || !s.dataNow ||
     !s.isOn domCHN then s
  else
    match s.chWin ch.tenant ch.base (32 * ch.n) true true with
    | none => s.chFence c 0x0E4
    | some (o, p) =>
      let fa := addOff (ch.base + 32 * ch.fp) o
      (s.updChan c (fun x => { x with fetching := true })).chBurst c true [{ line := fa / 64, key := ch.fp }]
        ⟨.chFetch, c, fa⟩ (some p) none false

/-- Take descriptors out of a fetched line. -/
def State.chTake (s : State) (c fa : Nat) (l : Line) : Nat → State
  | 0 => s
  | n + 1 =>
    let ch := s.chan c
    if ch.fstop || decide (3 ≤ ch.descs.length) then s
    else
      let o := fa % 64 / 8
      let ws := (List.range 4).map (fun i => (lineWord l (o + i)).toNat)
      if !bit (ws.getD 0 0) 0 then s.updChan c (fun x => { x with fstop := true })
      else
        let p := (s.chWin ch.tenant ch.base (32 * ch.n) true true)
        let d0 : ChDesc := { uid := s.nextId, slot := ch.fp, wrap := ch.fw, ring := fa - 32 * ch.fp, port := p.map (·.2), w := ws }
        let d := s.chCheck ch.tenant d0
        let nx := ch.advance ch.fp ch.fw
        let s1 := { s with nextId := s.nextId + 1 }.updChan c (fun x => { x with
          descs := x.descs ++ [d], fp := nx.1, fw := nx.2, fstop := d.eoc })
        if o < 4 ∧ nx.1 = ch.fp + 1 then State.chTake s1 c (fa + 32) l n else s1

def ptrWord (p : Nat × Bool) : Word := mkWord [(0, 16, p.1), (16, 1, b2n p.2)]

/-- Release the Mover places of dropped descriptors whose transactions have ended (R241). -/
def State.chFree (s : State) (c : Nat) : State :=
  let ch := s.chan c
  { s with works := s.works.filter (fun p => !(p.2.who == 1 && p.2.which == c && p.2.out == 0 &&
      !ch.descs.any (fun d => d.wid == some p.1))) }

/-- The enable checks of R212. -/
def State.chEnableOk (s : State) (c : Nat) (ch : Chan) : Bool :=
  ch.granted && (s.chWin ch.tenant ch.base (32 * ch.n) true true).isSome &&
  decide (4 ≤ fld (ch.a 1) 0 5 ∧ fld (ch.a 1) 0 5 ≤ 16) && decide (ch.src ≠ 3) && decide (2 ≤ ch.gap) &&
  (ch.src == 0 || !s.chn.chans.any (fun p => p.1 != c && p.2.binds ch.line))

/-- A channel begins to run, or holds at once where PAUSE is set. DESIGN CHOICE (log 88). -/
def Chan.go (x : Chan) : Chan :=
  { x with st := if x.pause then ChSt.paused else ChSt.active, back := .active, fstop := false, quiesced := false }

/-- The fetch pointer takes CH_PTR over. DESIGN CHOICE (log 87): an index beyond a ring made smaller counts modulo N. -/
def Chan.goPtr (x : Chan) : Chan := { x with fp := fld (x.a 2) 0 16 % x.n, fw := fbit (x.a 2) 16 }

/-- Progress of a hand-over: is the channel at a descriptor boundary (R216). -/
def Chan.atBoundary (c : Chan) : Bool := c.descs.all (fun d => d.wid.isNone)

/-- Present the next burst of each request, turn from reads to writes. -/
def State.chReq (s : State) (c : Nat) (id : Nat) : State :=
  let ch := s.chan c
  match ch.reqs.find? (fun r => r.id == id) with
  | none => s
  | some r =>
    match ch.desc r.d with
    | none => s
    | some d =>
      let wid := d.wid.getD 0
      let mv := (Tbl.get wid s.works).bind (·.mover)
      if r.busy ∨ ch.st = .fenced then s
      else match r.todo with
      | ops :: rest =>
        let rd := r.ph != 2
        let port := if r.ph = 0 then d.tp
          else if rd then (if d.mode = 2 ∧ !d.iside then r.bp else d.sp)
          else (if d.mode = 2 ∧ d.iside then r.bp else d.dp)
        if !s.portUp port then
          (s.updReq c id (fun r => { r with todo := [], failed := true })).updDesc c r.d (fun d => d.bad ((ops.head?.map (·.key)).getD r.off) 0x14)
        else
          let s1 := s.updReq c id (fun r => { r with todo := rest, busy := true })
          let s2 := s1.updWork wid (fun w => { w with out := w.out + ops.length })
          s2.chBurst c rd ops ⟨.work, wid, id⟩ port mv true
      | [] =>
        if r.ph = 1 ∧ r.out = 0 then
          if r.failed then s
          else
            let m := s.chMax c false
            s.updReq c id (fun r => { r with ph := 2, todo := d.writes r m })
        else s

/-- Retire good finished requests at the front of a descriptor. -/
def State.chRetire (s : State) (c : Nat) : Nat → State
  | 0 => s
  | n + 1 =>
    let ch := s.chan c
    match ch.reqs with
    | [] => s
    | r :: _ =>
      let gone := s.updChan c (fun x => { x with reqs := x.reqs.tail })
      match ch.desc r.d with
      | none => if r.acked ∧ r.out = 0 then State.chRetire gone c n else s
      | some d =>
        if r.acked ∧ r.out = 0 ∧ r.ph = 2 ∧ !r.failed ∧ r.todo.isEmpty ∧ !r.busy ∧ r.poison.isNone then
          State.chRetire (gone.updDesc c d.uid (fun d => { d with
            ok := r.off + r.len,
            cs := if d.csum ∧ ch.alg ≠ 0 then d.cs ++ r.xs.map (d.byte r) else d.cs })) c n
        else s

/-- The valid prefix of a descriptor (R211). -/
def Chan.prefixOf (c : Chan) (d : ChDesc) : Nat :=
  (c.reqs.filter (fun r => r.d == d.uid)).foldl (fun (p : Nat) r =>
    if p < r.off then p
    else p + ((r.xs.takeWhile (fun x => r.good.contains (d.dstOf r x / 64) && r.poison.all (fun q => decide (x < q)))).length)) d.ok

/-- Source bytes of the valid prefix, for the checksum of a BAD descriptor. -/
def Chan.prefixBytes (c : Chan) (d : ChDesc) : List Nat :=
  let p := c.prefixOf d
  d.cs ++ (c.reqs.filter (fun r => r.d == d.uid)).flatMap (fun r => (r.xs.filter (fun x => decide (x < p))).map (d.byte r))

/-- Everything of a descriptor has come to rest. -/
def Chan.over (c : Chan) (d : ChDesc) : Bool :=
  let rs := c.reqs.filter (fun r => r.d == d.uid)
  match d.err with
  | none => decide (d.ok = d.count) && rs.isEmpty
  | some _ => rs.all (fun r => r.acked && r.out == 0 && !r.busy && r.todo.isEmpty)

/-- Write the oldest descriptor back once it is over (R209, R211). -/
def State.chWriteBack (s : State) (c : Nat) : State :=
  let ch := s.chan c
  match ch.descs with
  | [] => s
  | d :: _ =>
    let may := ch.st == .active || ((ch.st == .stopping || ch.st == .pausing || ch.st == .paused) && d.wid.isSome)
    if d.wb || !may || !ch.over d || (d.wid.isNone && (ch.arm == 1 || ch.st != .active)) then s
    else
      let fa := d.ring + 32 * d.slot
      let w0 := d.q0 % 2 ^ 32
      let ops := match d.err with
        | none => [wrBytes fa (leBytes 4 (w0 - w0 % 2))]
        | some (_, code) =>
          let v := 2 + bits w0 2 1 * 4 + bits w0 4 4 * 16 + bits w0 8 8 * 256 + code * 65536
          [wrBytes fa (leBytes 4 v ++ leBytes 4 (ch.prefixOf d))]
      ((s.updDesc c d.uid (fun (d : ChDesc) => { d with wb := true })).chCount c ⟨.chWb, c, d.uid⟩ (· + ops.length)).chBurst
        c false ops ⟨.chWb, c, d.uid⟩ d.port none false

/-- Stops, parking and the honoured kick (R213, R215, R242, R243). -/
def State.chRest (s : State) (c : Nat) : State :=
  let ch := s.chan c
  if ch.st = .active then
    if ch.fstop ∧ ch.descs.isEmpty ∧ !ch.fetching then
      if ch.kick then s.updChan c (fun x => { x with kick := false, fstop := false })
      else s.updChan c (fun x => { x with st := .parked })
    else s
  else if ch.st = .stopping then
    if ch.descs.all (fun d => d.wid.isNone && !d.wb) then
      let p := ch.ptr
      (s.chStrip c (fun b => b.own.k == OwnK.chFetch)).updChan c (fun x => { x with
        st := .stopped, stop := false, descs := [], fp := p.1, fw := p.2, fstale := x.fstale || x.fetching, fetching := false })
    else s
  else if ch.st = .pausing then
    if s.granted.any (chMine c) || s.txns.any (fun t => t.ctx == chRq c) then s
    else s.updChan c (fun x => { x with st := .paused })
  else s

/-- Everything that follows of itself on a channel. -/
def State.chPump1 (s : State) (c : Nat) : State :=
  let s1 := ((s.chan c).reqs.map (·.id)).foldl (fun s r => s.chReq c r) s
  let s2 := ((s1.chan c).reqs.map (·.id)).foldl (fun s r => s.chReq c r) s1
  (((((s2.chAcks c 20).chRetire c 20).chWriteBack c).chRest c).chFetch c).chFree c

def State.chPump (s : State) (c : Nat) : State :=
  let s1 := iter (fun s => s.chPump1 c) 2 s
  let ch := s1.chan c
  if ch.enableNext ∧ s1.chStarted c = 0 then
    let s2 := s1.updChan c (fun x => { x with enableNext := false })
    if s2.chEnableOk c ch then
      (s2.updChan c (fun x => x.go.goPtr)).chPump1 c
    else (s2.updChan c (fun x => { x with enable := false, cfgErr := true })).raise0 0x0E2 c
  else s1

/-! ### Ends of transactions -/

def State.chFetchEnd (s : State) (c fa : Nat) (res : Res) : State :=
  let ch := s.chan c
  if ch.fstale then (s.updChan c (fun x => { x with fstale := false })).chPump c
  else if !ch.fetching then s
  else
    let s1 := s.updChan c (fun x => { x with fetching := false })
    match res with
    | .good l =>
      let take := ch.st == .active || ((ch.st == .pausing || ch.st == .paused) && ch.back == .active)
      (if take then s1.chTake c fa l 2 else s1).chPump c
    | .bad _ => (s1.chFence c 0x0E4).chPump c

/-- A descriptor's write-back was answered: it has completed (R209 to R211). -/
def State.chWbEnd (s0 : State) (c u : Nat) (res : Res) : State :=
  let s := s0.chCount c ⟨.chWb, c, u⟩ (· - 1)
  let ch := s.chan c
  match ch.desc u with
  | none => s.chPump c
  | some d =>
    match res with
    | .bad _ => (s.chFence c 0x0E5).chPump c
    | .good _ =>
      if ch.st = .fenced then s.chPump c
      else
      let bs := ch.prefixBytes d
      let sum := if d.csum ∧ ch.alg ≠ 0 then BitVec.ofNat 64 (csumAlg ch.alg ch.csum.toNat bs) else ch.csum
      let s1 := s.updChan c (fun x => { x with
        descs := x.descs.filter (fun e => e.uid != u), reqs := x.reqs.filter (fun r => r.d != u),
        done := (x.done + 1) % 65536, csum := sum,
        badSeen := x.badSeen || d.err.isSome, csInv := x.csInv || (d.err.isSome && d.csum && decide (ch.alg ≠ 0)),
        lastErr := match d.err with | some e => e.2 | none => x.lastErr })
      let s2 := match d.wid with | some w => { s1 with works := Tbl.del w s1.works } | none => s1
      let s3 := s2.meter 2 ch.tenant 0 1
      let ev := ch.a 4
      let s4 := match d.err with
        | some _ =>
          let s4 := s3.raise0 0x0E0 c
          if fbit ev 10 then s4.evoDue c (fld ev 16 8) else s4
        | none =>
          let w := fld ev 8 2
          if w = 1 ∨ (w = 2 ∧ d.evt) ∨ (w = 3 ∧ d.eoc) then s3.evoDue c (fld ev 0 8) else s3
      s4.chPump c

/-- A data transaction of a descriptor ended. -/
def State.chData (s : State) (c wid id : Nat) (rd : Bool) (op : LineOp) (res : Res) : State :=
  let s0 := s.updWork wid (fun w => { w with out := w.out - 1 })
  let ch := s0.chan c
  match ch.reqs.find? (fun r => r.id == id) with
  | none => s0.chPump c
  | some r =>
    match ch.desc r.d with
    | none => (s0.updReq c id (fun r => { r with out := r.out - 1 })).chPump c
    | some d =>
      let s1 := s0.updReq c id (fun r => { r with out := r.out - 1 })
      let s2 : State :=
        if r.ph = 0 then
          if r.failed then s1
          else match res with
          | .good l =>
            let j := r.off / d.k
            let a := addOff (d.x + j * d.iw) d.to_
            let v := leNat ((List.range d.iw).map (fun i => lineByte l ((a + i) % 64)))
            let t := (if d.iside then d.dst else d.src) + v * d.k
            match findWin d.wins ch.tenant t d.k with
            | some (_, w) =>
              if (if d.iside then w.wr else w.rd) ∧ w.station = s.stn.id ∧ t + d.k ≤ 2 ^ 52 then
                let s2 := s1.updReq c id (fun r => { r with ph := 1, blk := addOff t w.offset, bp := some w.port })
                match (s2.chan c).reqs.find? (fun r => r.id == id) with
                | some r2 => s2.updReq c id (fun r => { r with todo := d.reads r2 (s.chMax c true) })
                | none => s2
              else (s1.updReq c id (fun r => { r with failed := true })).updDesc c r.d (fun d => d.bad r.off 0x1A)
            | none => (s1.updReq c id (fun r => { r with failed := true })).updDesc c r.d (fun d => d.bad r.off 0x1A)
          | .bad st =>
            let s2 := s1.updDesc c r.d (fun d => d.bad r.off (if st = 0x12 then 0x13 else st))
            if st = 0x12 ∧ !d.iside then
              let r2 := { r with ph := 2, poison := some r.off }
              s2.updReq c id (fun x => { x with ph := 2, poison := some r.off, todo := d.writes r2 (s.chMax c false) })
            else s2.updReq c id (fun r => { r with failed := true })
        else if rd then
          match res with
          | .good l => s1.updReq c id (fun r => { r with got := Tbl.put op.line l r.got })
          | .bad st =>
            if st = 0x12 then
              (s1.updReq c id (fun r => { r with poison := some (min op.key (r.poison.getD op.key)) })).updDesc c r.d (fun d => d.bad op.key 0x13)
            else (s1.updReq c id (fun r => { r with failed := true, todo := [] })).updDesc c r.d (fun d => d.bad op.key st)
        else
          match res with
          | .good _ => s1.updReq c id (fun r => { r with good := if op.poison then r.good else r.good ++ [op.line] })
          | .bad st => (s1.updReq c id (fun r => { r with failed := true })).updDesc c r.d (fun d => d.bad op.key (wrStatus st))
      s2.chPump c

/-- A burst of a request was issued: the next one may be presented. -/
def State.chIssued (s : State) (c id n : Nat) : State :=
  (s.updReq c id (fun r => { r with busy := false, out := r.out + n })).chPump c

/-- A Mover is fenced: its descriptor is written back BAD with SOURCE_ERROR (R32), unless its work is over and its
write-back under way. -/
def State.chMoverFence (s : State) (wid : Nat) : State :=
  match Tbl.get wid s.works with
  | none => s
  | some w =>
    let c := w.which
    match (s.chan c).descs.find? (fun d => d.wid == some wid) with
    | none => s
    | some d =>
      if d.wb then s
      else
        let s1 := (s.chStrip c (fun b => b.own.k == OwnK.work && b.own.a == wid)).updChan c (fun x => { x with
          reqs := x.reqs.map (fun r => if r.d = d.uid then { r with failed := true, todo := [], busy := false } else r) })
        (s1.updDesc c d.uid (fun d => { d with err := some (0, 0x10) })).chPump c

/-! ### Requests (R202 to R208) -/

/-- A request exists. -/
def Chan.hasReq (c : Chan) : Bool :=
  if c.src = 0 then true
  else if c.src = 1 then decide (0 < c.reqcnt) && decide ((c.reqs.filter (fun r => !r.acked)).length < 16)
  else c.lvl && c.reqs.all (·.acked)

/-- The descriptor that takes the next request: the oldest started one with requests left, else the next to start. -/
def Chan.target (c : Chan) : Option ChDesc :=
  match c.descs.find? (fun d => d.wid.isSome && d.err.isNone && decide (d.pos < d.count)) with
  | some d => some d
  | none =>
    if c.st != .active || c.arm == 1 || decide (2 ≤ (c.descs.filter (fun d => d.wid.isSome)).length) ||
       c.reqs.any (fun r => !(r.todo.isEmpty && !r.busy && (r.ph == 2 || r.failed))) then none
    else match c.descs.find? (fun d => d.wid.isNone) with
      | some d => if d.err.isNone && decide (0 < d.count) then some d else none
      | none => none

/-- Present a request of the oldest started descriptor (R208). -/
def State.chPresent (s : State) (c : Nat) : State :=
  let ch := s.chan c
  if !(ch.st == .active || ch.st == .stopping) || !ch.hasReq || !s.isOn domCHN ||
     !(s.mode.dataIssue || s.mode == .quiesce) then s
  else match ch.target with
  | none => s
  | some d =>
    let place : Option (Nat × State) := match d.wid with
      | some w => some (w, s)
      | none =>
        if !s.mode.dataIssue then none
        else match s.moverFor ch.cls with
        | none => none
        | some m =>
          let w : Work := { uid := d.uid, who := 1, which := c, cls := ch.cls, seg := 0, mover := some m, lo := 0, hi := d.count }
          some (s.nextId, { s with nextId := s.nextId + 1, works := Tbl.put s.nextId w s.works })
    match place with
    | none => s
    | some (wid, s1) =>
      let len := min d.k (d.count - d.pos)
      let r0 : ChReq := { id := s1.nextId, d := d.uid, off := d.pos, len := len, ph := if d.mode = 2 then 0 else 1,
                          line := if ch.src = 0 then none else some ch.line }
      let ia := addOff (d.x + d.pos / d.k * d.iw) d.to_
      let r : ChReq := { r0 with todo := if d.mode = 2 then [[{ line := ia / 64, key := d.pos }]] else d.reads r0 (s.chMax c true) }
      let s2 := { s1 with nextId := s1.nextId + 1 }.updDesc c d.uid (fun d => { d with wid := some wid, pos := d.pos + len })
      (s2.updChan c (fun x => { x with reqs := x.reqs ++ [r], reqcnt := if x.src = 1 then x.reqcnt - 1 else x.reqcnt,
                                       lvl := false })).chPump c

/-- Honour a kick on a parked channel (R213). -/
def State.chKicked (s : State) (c : Nat) : State :=
  let ch := s.chan c
  if ch.st = .parked ∧ ch.kick then
    (s.updChan c (fun x => { x with kick := false, st := .active, fstop := false })).chPump c
  else s

/-- A kick by register. -/
def State.chKick (s : State) (c : Nat) : State :=
  let s1 := s.updChan c (fun x => { x with kick := true })
  if (s.chan c).st = .stopped then
    (s1.updChan c Chan.go).chPump c
  else s1.chKicked c

/-- An assertion of a request line reaches the Channel Sequencer (R203, R204, R213): an enabled channel counts it, a kick
is pending whatever the channel's state. -/
def State.chAssert (s : State) (line : Nat) : State :=
  (s.chn.chans.filter (fun p => p.2.src != 0 && p.2.line == line)).foldl (fun s p =>
    let c := p.1
    let s1 : State :=
      if p.2.src = 1 ∧ p.2.binds line then
        if 1023 ≤ p.2.reqcnt then (s.updChan c (fun x => { x with reqOvf := true })).raise0 0x0E1 c
        else s.updChan c (fun x => { x with reqcnt := x.reqcnt + 1 })
      else s
    if p.2.wake then (s1.updChan c (fun x => { x with kick := true })).chKicked c else s1) s

/-- The level that decides whether a level-burst request exists (R205). -/
def State.chLevel (s : State) (c : Nat) (high : Bool) : State :=
  let ch := s.chan c
  if ch.src ≠ 2 ∨ ch.st = .disabled ∨ ch.lvl ∨ ch.reqs.any (fun r => !r.acked) ∨ s.mode = .safe then s
  else
    let s1 := match ch.lastAck with | some t => s.reach (t + (ch.gap + 1) * 1250) | none => s
    s1.updChan c (fun x => { x with lvl := high })

/-! ### Controls (R212, R215, R241 to R245) -/

def State.chEnable (s : State) (c : Nat) : State :=
  let ch := s.chan c
  let s0 := s.updChan c (fun x => { x with enable := true })
  if ch.enable ∨ ch.st ≠ .disabled then s0
  else if 0 < s.chStarted c then s0.updChan c (fun x => { x with enableNext := true })
  else if s.chEnableOk c ch then
    (s0.updChan c (fun x => x.go.goPtr)).chPump c
  else (s0.updChan c (fun x => { x with enable := false, cfgErr := true })).raise0 0x0E2 c

/-- ENABLE 1→0: everything dropped at once. -/
def State.chDisable (s : State) (c : Nat) : State :=
  let ch := s.chan c
  let s0 := s.updChan c (fun x => { x with enable := false, enableNext := false })
  if ch.st = .disabled ∨ !ch.enable then s0
  else
    let p := ch.ptr
    let s1 := (s0.evoTake c).chStrip c (fun _ => true)
    let un := ch.reqs.filter (fun r => !r.acked)
    let s2 := (un.filterMap (·.line)).foldl (fun s l => s.emit (.ack l)) s1
    (s2.updChan c (fun x => { x with
      st := .disabled, stop := false, reqcnt := 0, kick := false, lvl := false, descs := [], reqs := [], parked := [],
      act := setAt 2 (ptrWord p) x.act, fetching := false, fstale := x.fstale || x.fetching, fstop := false, quiesced := false })).chFree c

def State.chStop (s : State) (c : Nat) : State :=
  let ch := s.chan c
  if ch.st = .active ∨ ch.st = .parked then
    (s.updChan c (fun x => { x with st := .stopping, stop := true })).chPump c
  else if ch.st = .pausing ∨ ch.st = .paused then
    s.updChan c (fun x => { x with stop := true, back := .stopping })
  else if ch.st = .disabled ∨ ch.st = .stopped then s
  else s.updChan c (fun x => { x with stop := true })

/-- PAUSE 0→1: no further grant; bursts already granted are issued. -/
def State.chPause (s : State) (c : Nat) : State :=
  let ch := s.chan c
  if ch.pause then s
  else
    let s0 := s.updChan c (fun x => { x with pause := true })
    if ch.st = .active ∨ ch.st = .stopping ∨ ch.st = .parked then
      let mine := s.bursts.filter (chMine c)
      let s1 := { s0 with bursts := s0.bursts.filter (fun b => !chMine c b) }
      (s1.updChan c (fun x => { x with back := ch.st, parked := x.parked ++ mine,
                                       st := if ch.st = .parked then .paused else .pausing })).chPump c
    else s0

/-- PAUSE 1→0: bursts resume where they stopped. -/
def State.chResume (s : State) (c : Nat) : State :=
  let ch := s.chan c
  let s0 := s.updChan c (fun x => { x with pause := false })
  if ch.st = .pausing ∨ ch.st = .paused then
    let s1 := { s0 with bursts := s0.bursts ++ ch.parked }
    let s2 := s1.updChan c (fun x => { x with parked := [], st := ch.back })
    (s2.chKicked c).chPump c
  else s0

/-- The hand-over at its boundary (R216, R217). -/
def State.chHandover (s : State) (c : Nat) : State :=
  let ch := s.chan c
  if !((ch.arm == 1 && ch.atBoundary) || (ch.arm == 2 && ch.armDue)) then s
  else
    let p := ch.ptr
    let now := (List.range 5).map (fun i =>
      if ch.pend.testBit i then ch.sh.getD i 0
      else if i = 2 then
        if ch.pend.testBit 0 || ch.pend.testBit 1 then (0 : Word) else ptrWord p
      else ch.act.getD i 0)
    let moved := ch.pend % 8 != 0
    let reqNew := ch.pend.testBit 3 &&
      (fld (now.getD 3 0) 0 8 != ch.line || fld (now.getD 3 0) 8 2 != ch.src)
    let unsent := fun (u : Nat) => (s.bursts ++ s.granted ++ ch.parked).any (fun b => b.own == ⟨.chWb, c, u⟩)
    let keep := fun (d : ChDesc) => d.wid.isSome || (d.wb && !unsent d.uid)
    let gone := fun (b : Burst) => b.own.k == OwnK.chFetch ||
      (b.own.k == OwnK.chWb && ch.descs.any (fun d => d.uid == b.own.b && !keep d))
    let s1 := (if moved then s.chStrip c gone else s).updChan c (fun x =>
      let y := { x with
        act := now, pend := 0, arm := 0, armDue := false, hcount := (x.hcount + 1) % 65536, htick := s.tt.tickNum % 2 ^ 32,
        reqcnt := if reqNew then 0 else x.reqcnt, lvl := if reqNew then false else x.lvl }
      if moved then
        { y with descs := (x.descs.filter keep).map (fun d => { d with old := true }),
                 fp := fld (now.getD 2 0) 0 16 % y.n, fw := fbit (now.getD 2 0) 16, fstop := if x.st = .parked then true else false,
                 fstale := x.fstale || x.fetching, fetching := false }
      else y)
    if s1.chEnableOk c (s1.chan c) then s1.chPump c
    else ((s1.updChan c (fun x => { x with cfgErr := true, st := if x.st = .disabled then .fenced else x.st })).chFence c 0x0E2).chPump c

/-- QUIESCE and the return from it (R244, R245). -/
def State.chQuiesce (s : State) : State :=
  (Tbl.keys s.chn.chans).foldl (fun s c =>
    let st := (s.chan c).st
    if st = .active ∨ st = .parked then (s.updChan c (fun x => { x with quiesced := true })).chStop c else s) s
def State.chUnquiesce (s : State) : State :=
  (Tbl.keys s.chn.chans).foldl (fun s c =>
    let ch := s.chan c
    if ch.quiesced then
      let s1 := s.updChan c (fun x => { x with quiesced := false })
      if ch.st = .stopped then (s1.updChan c Chan.go).chPump c else s1
    else s.chPump c) s

/-! ### Register pages (R222) -/

def ChSt.code : ChSt → Nat
  | .disabled => 0 | .active => 1 | .parked => 2 | .pausing => 3 | .paused => 4 | .stopping => 5 | .stopped => 6 | .fenced => 7

def Chan.ctl (c : Chan) : Word :=
  mkWord [(0, 1, b2n c.enable), (1, 1, b2n c.stop), (2, 1, b2n c.pause), (4, 4, c.alg), (16, 2, c.cls), (18, 3, c.prio),
          (24, 8, c.xset), (32, 8, c.tenant), (40, 1, b2n c.granted)]
def State.chStatus (s : State) (n : Nat) : Word :=
  let c := s.chan n
  mkWord [(0, 4, c.st.code), (4, 1, b2n c.kick), (5, 2, s.chStarted n), (8, 10, c.reqcnt), (18, 1, b2n c.reqOvf),
          (19, 1, b2n c.evtOvf), (20, 1, b2n c.badSeen), (21, 1, b2n c.cfgErr), (22, 1, b2n c.csInv), (32, 16, c.done),
          (48, 8, c.lastErr)]
def Chan.shstat (c : Chan) : Word :=
  mkWord [(0, 5, c.pend), (5, 1, b2n (c.arm != 0)), (6, 2, c.arm), (16, 16, c.hcount), (32, 32, c.htick)]

def State.chRead (s : State) (n off : Nat) : Word :=
  let c := s.chan n
  if off = 0 then c.ctl else if off = 8 then s.chStatus n else if off = 0x10 then c.a 0 else if off = 0x18 then c.a 1
  else if off = 0x20 then ptrWord c.ptr else if off = 0x30 then c.a 3 else if off = 0x38 then c.a 4
  else if off = 0x40 then mkWord [(0, 12, bits c.limiter 0 12), (12, 1, b2n (bit c.limiter 15))]
  else if off = 0x48 then c.csum
  else if off = 0x110 then c.sh.getD 0 0 else if off = 0x118 then c.sh.getD 1 0 else if off = 0x120 then c.sh.getD 2 0
  else if off = 0x130 then c.sh.getD 3 0 else if off = 0x138 then c.sh.getD 4 0
  else if off = 0x188 then c.shstat else 0

/-- A legal value of register i (RINGBASE, RINGCFG, PTR, REQCFG, EVTCFG), and the value it stores; `n` is the ring size
an index is judged against. -/
def chLegal (i n : Nat) (v : Word) : Bool :=
  if i = 1 then decide (4 ≤ fld v 0 5 ∧ fld v 0 5 ≤ 16)
  else if i = 2 then decide (fld v 0 16 < n)
  else if i = 3 then decide (fld v 8 2 ≠ 3) && decide (2 ≤ fld v 12 4)
  else true
def chStore (i : Nat) (v : Word) : Word :=
  if i = 0 then mkWord [(12, 40, fld v 12 40)]
  else if i = 1 then mkWord [(0, 5, fld v 0 5)]
  else if i = 2 then mkWord [(0, 17, fld v 0 17)]
  else if i = 3 then mkWord [(0, 16, fld v 0 16)]
  else mkWord [(0, 11, fld v 0 11), (16, 8, fld v 16 8)]

/-- A write to a shadow register (R216): false where it is refused. -/
def State.chShadow (s : State) (c i : Nat) (data : Word) (strb : BitVec 8) : State × Bool :=
  let ch := s.chan c
  let v := strobe (ch.sh.getD i 0) data strb
  let n := if ch.pend.testBit 1 then 2 ^ fld (ch.sh.getD 1 0) 0 5 else ch.n
  if !chLegal i n v then (s, false)
  else (s.updChan c (fun x => { x with sh := setAt i (chStore i v) x.sh, pend := x.pend ||| 2 ^ i }), true)

/-- CH_SHCOMMIT. -/
def State.chArm (s : State) (c w : Nat) : State :=
  s.updChan c (fun x => { x with arm := w, armDue := false })

/-- A register write to a channel page that is granted: false where it is refused. -/
def State.chWrite (s : State) (c off : Nat) (data : Word) (strb : BitVec 8) : State × Bool :=
  let ch := s.chan c
  let direct := fun (i : Nat) =>
    let old := if i = 2 then ptrWord ch.ptr else ch.a i
    let v := strobe old data strb
    let free := ch.st == .disabled || (i == 2 && ch.st == .stopped)
    if !free then (s, chStore i v == old)
    else if !chLegal i ch.n v then (s, false)
    else (s.updChan c (fun x => { x with act := setAt i (chStore i v) x.act,
                                         fp := if i = 2 then fld v 0 16 else x.fp, fw := if i = 2 then fbit v 16 else x.fw }), true)
  if off = 0 then
    let v := strobe ch.ctl data strb
    let alg := fld v 4 4
    if 3 < alg ∨ (alg ≠ ch.alg ∧ ch.st ≠ .disabled) then (s, false)
    else
      let s1 := s.updChan c (fun x => { x with alg := alg })
      let s2 := if fbit v 2 then s1.chPause c else if ch.pause then s1.chResume c else s1
      let s3 := if fbit v 0 then s2.chEnable c else if ch.enable then s2.chDisable c else s2
      (if strb.toNat.testBit 0 ∧ fbit data 1 then s3.chStop c else s3, true)
  else if off = 8 then
    let clr := fun (i : Nat) (b : Bool) => b && !(strb.toNat.testBit (i / 8) && fbit data i)
    (s.updChan c (fun x => { x with
      reqOvf := clr 18 x.reqOvf, evtOvf := clr 19 x.evtOvf, badSeen := clr 20 x.badSeen, cfgErr := clr 21 x.cfgErr,
      csInv := clr 22 x.csInv }), true)
  else if off = 0x10 then direct 0
  else if off = 0x18 then direct 1
  else if off = 0x20 then direct 2
  else if off = 0x28 then (s.chKick c, true)
  else if off = 0x30 then direct 3
  else if off = 0x38 then direct 4
  else if off = 0x48 then
    let v := strobe ch.csum data strb
    if v ≠ ch.csum ∧ ch.st ≠ .disabled ∧ ch.st ≠ .stopped ∧ ch.st ≠ .parked then (s, false)
    else (s.updChan c (fun x => { x with csum := v }), true)
  else if off = 0x110 then s.chShadow c 0 data strb
  else if off = 0x118 then s.chShadow c 1 data strb
  else if off = 0x120 then s.chShadow c 2 data strb
  else if off = 0x130 then s.chShadow c 3 data strb
  else if off = 0x138 then s.chShadow c 4 data strb
  else if off = 0x180 then
    let w := if strb.toNat.testBit 0 then fld data 0 2 else 0
    if w = 3 then (s, false) else (s.chArm c w, true)
  else (s, true)

end Sys2Proof.Machine
end

