-- ==== Sys2Proof/Machine/Eng.lean ====
section
/-! DEFINITION. Engineering Services: patrol scrub, calibration, wear rotation, telemetry capture (chapter 9). -/

namespace Sys2Proof.Machine

def State.scr (s : State) (r : Nat) : Scrub := Tbl.getD r {} s.bgs.scr
def State.updScr (s : State) (r : Nat) (f : Scrub → Scrub) : State :=
  { s with bgs := { s.bgs with scr := Tbl.put r (f (s.scr r)) s.bgs.scr } }
def State.tel (s : State) (g : Nat) : Tel := Tbl.getD g {} s.bgs.tel
def State.updTel (s : State) (g : Nat) (f : Tel → Tel) : State :=
  { s with bgs := { s.bgs with tel := Tbl.put g (f (s.tel g)) s.bgs.tel } }
def State.updWear (s : State) (f : Wear → Wear) : State := { s with bgs := { s.bgs with wear := f s.bgs.wear } }

/-- BGS_CTL (R274). -/
def State.bgsCtl (s : State) : Word := s.reg 0x40000 0x00000000006900C9

def sat (w n : Nat) : Nat := min n (2 ^ w - 1)

/-! ### Telemetry rings (R268, R269) -/

/-- Records staged by all rings, of the 1,024 that staging holds. -/
def State.staged (s : State) : Nat := (Tbl.vals s.bgs.tel).foldl (fun a t => a + t.staged.length) 0

/-- A record drop of a ring: counted, and raised once per run of drops. -/
def State.telDrop (s : State) (g : Nat) : State :=
  let t := s.tel g
  let s1 := s.updTel g (fun t => { t with drops := sat 32 (t.drops + 1), dropping := true })
  if t.dropping then s1 else s1.raise0 0x128 g

/-- The slot after a write index. -/
def Tel.next (t : Tel) : Nat × Bool := if t.wr + 1 ≥ 2 ^ t.log2n then (0, !t.wrWrap) else (t.wr + 1, t.wrWrap)
/-- The ring has no room: writing would make the write index lap the read index. -/
def Tel.full (t : Tel) : Bool := t.wr == t.rd && t.wrWrap != t.rdWrap

/-- The bytes of a record as a line. -/
def telLine (ty seq time pay : Nat) : Line :=
  BitVec.ofNat 512 (ty + (seq % 2 ^ 32) * 2 ^ 32 + (time % 2 ^ 64) * 2 ^ 64 + (pay % 2 ^ 384) * 2 ^ 128)

/-- Take staged records into one burst of at most 64, inside one 4 KiB page of the ring; records that find the ring full
are dropped. -/
def State.telTake (s : State) (g : Nat) (page : Nat) (acc : List LineOp) : Nat → State × List LineOp
  | 0 => (s, acc)
  | n + 1 =>
    let t := s.tel g
    match t.staged with
    | [] => (s, acc)
    | (time, ty, pay) :: rest =>
      if t.full then
        State.telTake ((s.updTel g (fun t => { t with staged := rest })).telDrop g) g page acc n
      else if !acc.isEmpty ∧ t.wr / 64 ≠ page then (s, acc)
      else
        let seq := (t.seq + 1) % 2 ^ 32
        let op : LineOp := { wrLine (t.base + 64 * t.wr) (telLine ty seq time pay) with key := t.wr }
        let nx := t.next
        let s1 := s.updTel g (fun t => { t with
          staged := rest, seq := seq, wr := nx.1, wrWrap := nx.2, dropping := false, recTick := true, told := false,
          prodDue := t.prodDue || decide (seq % 64 = 0) })
        State.telTake s1 g (t.wr / 64) (acc ++ [op]) n

/-- The record writes of a unit, all of them, on its Mover. -/
def State.telBurst (s : State) (g id : Nat) (m : Nat) (ops : List LineOp) : State :=
  let t := s.tel g
  (s.updTel g (fun t => { t with out := ops.length, redo := false })).present {
    id := 0, rd := false, lines := ops, own := ⟨.feedW, g, id⟩, cls := 3, xset := t.xset, rq := 0x7100 + g, ctx := 0xC100 + g,
    mover := some m, tenant := some t.bill }

/-- A unit whose Mover was fenced starts over on another one (R254). -/
def State.telRedo (s : State) (g : Nat) : State :=
  let t := s.tel g
  match t.unit with
  | none => s
  | some id =>
    if !t.redo ∨ 0 < t.out then s
    else match s.moverFor 3 with
    | none => s
    | some m => (s.updWork id (fun x => { x with mover := some m })).telBurst g id m t.ops

/-- A ring runs on: the next unit, the PROD word, the end of a STOP. -/
def State.telPump (s : State) (g : Nat) : State :=
  let t := s.tel g
  if t.unit.isSome then s.telRedo g
  else if t.prodOut then s
  else if t.prodDue then
    let s1 := s.updTel g (fun t => { t with prodDue := false, prodOut := true })
    s1.present { id := 0, rd := false, lines := [wrBytes t.prod (leBytes 8 (t.wr + b2n t.wrWrap * 2 ^ 20))],
                 own := ⟨.prod, g, 0⟩, cls := 3, xset := t.xset, rq := 0x7100 + g, ctx := 0xC100 + g }
  else match t.stopCmd with
  | some c =>
    (s.updTel g (fun t => { t with active := false, staged := [], stopCmd := none })).endCmd c 0 0 0
  | none =>
    if !t.active ∨ t.staged.isEmpty ∨ !s.dataNow ∨ !s.isOn domBGS then s
    else match s.moverFor 3 with
    | none => s
    | some m =>
      let r := s.telTake g 0 [] 64
      if r.2.isEmpty then r.1
      else
        let id := r.1.nextId
        let s1 := { r.1 with nextId := id + 1, works := Tbl.put id { uid := 0, who := 4, which := g, cls := 3, seg := 0, mover := some m, lo := 0, hi := 0 } r.1.works }
        (s1.updTel g (fun t => { t with unit := some id, ops := r.2 })).telBurst g id m r.2

/-- A record write ended. -/
def State.telEnd (s : State) (g id : Nat) : State :=
  let s1 := s.updTel g (fun t => { t with out := t.out - 1 })
  if (s1.tel g).redo then s1.telRedo g
  else if (s1.tel g).out = 0 then
    ({ s1 with works := Tbl.del id s1.works }.updTel g (fun t => { t with unit := none, ops := [] })).telPump g
  else s1

def State.prodEnd (s : State) (g : Nat) : State := (s.updTel g (fun t => { t with prodOut := false })).telPump g

/-- Stage a record for a ring. -/
def State.stage (s : State) (g ty pay : Nat) : State :=
  (s.updTel g (fun t => { t with staged := t.staged ++ [(s.ns, ty, pay)] })).telPump g

/-- A mirror-feed record (R253, R268, R380): for the lowest-numbered active ring that takes its session, where staging has
room; else dropped and counted, with the source in the second case. -/
def State.feedRecord (s : State) (session feed : Nat) : State :=
  let drop := { s with bgs := { s.bgs with unmatched := sat 32 (s.bgs.unmatched + 1) } }
  if s.mode = .safe ∨ s.mode = .off ∨ (!s.isOn domBGS ∧ s.mode ≠ .quiesce) then s
  else if !s.dataNow then drop
  else match s.bgs.tel.find? (fun p => p.2.active && p.2.stopCmd.isNone && p.2.feed && decide (p.2.lo ≤ session ∧ session ≤ p.2.hi)) with
  | none => drop
  | some (g, _) => if 1024 ≤ s.staged then drop.raise0 0x128 0xFF else s.stage g 1 feed

/-- A scrub event for the ring named by LOGRING (R259). DESIGN CHOICE (log 89): one that finds staging full counts as a drop
of its ring. -/
def State.scrLog (s : State) (r kind line : Nat) : State :=
  let g := (s.scr r).logring
  if (s.tel g).active ∧ (s.tel g).stopCmd.isNone then
    if 1024 ≤ s.staged then s.telDrop g else s.stage g 2 (line * 64 + (kind + r * 16) * 2 ^ 64)
  else s.updTel g (fun t => { t with drops := sat 32 (t.drops + 1) })

/-! ### Patrol scrub (R256 to R258) -/

def scrHid (r : Nat) : Nat := 0x40 + r

def State.scrRelease (s : State) (r : Nat) : State :=
  match s.holds.find? (fun h => h.hid == scrHid r) with
  | none => s
  | some h =>
    let n := ((List.range 8).find? (fun n => (s.scr r).xset.testBit n && !s.xaFenced n)).getD h.xa
    { s with holds := s.holds.filter (fun x => x.hid != scrHid r) }.emit (.rq n (mkWord [(0, 3, 6), (3, 7, scrHid r)]))

/-- A control-free burst of a scrub unit. -/
def State.scrBurst (s : State) (r : Nat) (rd coh : Bool) (ops : List LineOp) (b : Nat) : State :=
  let c := s.scr r
  match c.unit with
  | none => s
  | some (wid, _) =>
    s.present { id := 0, rd := rd, coh := coh, lines := ops, own := ⟨.work, wid, b⟩, cls := 3, xset := c.xset, rq := 0x7000 + r,
                ctx := 0xC000 + r, mover := (Tbl.get wid s.works).bind (·.mover), tenant := some c.bill,
                win := some (scrHid r) }

/-- The next rewrite of the unit, or its end. -/
def State.scrNext (s : State) (r : Nat) : Nat → State
  | 0 => s
  | n + 1 =>
    let c := s.scr r
    match c.unit with
    | none => s
    | some (wid, off) =>
      if 0 < c.out ∨ c.rw_.isSome then s
      else if c.redo then
        -- the unit starts over on another Mover (R254)
        match s.moverFor 3 with
        | none => s
        | some m =>
          let s1 := (s.updWork wid (fun x => { x with mover := some m })).updScr r (fun c => { c with
            redo := false, todo := [], out := 64 })
          s1.scrBurst r true false ((List.range 64).map (fun i => { line := (c.base + off) / 64 + i, key := i })) 0
      else match c.todo with
      | ln :: rest =>
        let s1 := s.updScr r (fun c => { c with todo := rest })
        let a := ln * 64
        if s.trn.wins.any (fun t => t.ph != .idle && decide (t.p.served ≤ a ∧ a < t.p.served + t.p.size)) then
          State.scrNext (s1.scrLog r 6 ln) r n
        else match (List.range 8).find? (fun x => c.xset.testBit x && !s.xaFenced x) with
        | none => s
        | some x =>
          let pg := ln / 64 * 64
          let s2 := { s1 with holds := s1.holds ++ [({ hid := scrHid r, line := pg, lines := 64, xa := x, at_ := s.clk } : Hold)] }
          let s3 := s2.emit (.rq x (mkWord [(0, 3, 5), (3, 7, scrHid r), (18, 46, pg)]))
          let s4 := s3.emit (.rq x (mkWord [(0, 3, 5), (18, 31, 1), (49, 10, 40)]))
          s4.updScr r (fun c => { c with rw_ := some (ln, .hold, s.clk) })
      | [] =>
        let s1 := { s with works := Tbl.del wid s.works }.updScr r (fun c => { c with unit := none, issued := false })
        match c.stopCmd with
        | some cmd => (s1.updScr r (fun c => { c with active := false, stopCmd := none })).endCmd cmd 0 0 (BitVec.ofNat 64 c.cursor)
        | none => s1

/-- Present the next burst of a region, where one is due (R256). -/
def State.scrPump (s : State) (r : Nat) : State :=
  let c := s.scr r
  if c.unit.isSome then s.scrNext r 65
  else match c.stopCmd with
  | some cmd => (s.updScr r (fun c => { c with active := false, stopCmd := none })).endCmd cmd 0 0 (BitVec.ofNat 64 c.cursor)
  | none =>
    if !c.active ∨ !s.dataNow ∨ !s.isOn domBGS ∨ c.acc < 4096 * 256 ∨ (c.catchup ∧ c.tickDone) then s
    else match s.moverFor 3 with
    | none => s
    | some m =>
      let id := s.nextId
      let s1 := { s with nextId := id + 1, works := Tbl.put id { uid := 0, who := 3, which := r, cls := 3, seg := 0, mover := some m, lo := 0, hi := 0 } s.works }
      let s2 := s1.updScr r (fun c => { c with unit := some (id, c.cursor), out := 64, issued := false })
      s2.scrBurst r true false ((List.range 64).map (fun i => { line := (c.base + c.cursor) / 64 + i, key := i })) 0

/-- The scrub read of a unit was issued: the accumulator pays, the cursor moves, a pass may end. -/
def State.scrIssued (s : State) (r b : Nat) : State :=
  let c := s.scr r
  if b ≠ 0 ∨ c.issued then s
  else
    let s1 := s.updScr r (fun c => { c with issued := true })
    match c.unit with
    | none => s1
    | some _ =>
        let wrap := decide (c.cursor + 4096 ≥ c.size)
        let late := wrap && decide (s.clk * 16 > c.passStart * 16 + c.period * 17 * 10 ^ 12)
        let acc := c.acc - 4096 * 256
        let s2 := s1.updScr r (fun c => { c with
          acc := acc, cursor := if wrap then 0 else c.cursor + 4096, passes := if wrap then sat 16 (c.passes + 1) else c.passes,
          passStart := if wrap then s.clk else c.passStart, behind := c.behind || late, tickDone := true,
          catchup := if acc ≤ 4096 * 256 then false else c.catchup })
        if late then ({ s2 with bgs := { s2.bgs with behind := true } }).raise0 0x122 r else s2

/-- Poison, error or loss of a scrub read (R257). -/
def State.scrBad (s : State) (r line st : Nat) : State :=
  if st = 0x12 then ((s.updScr r (fun c => { c with uncorr := sat 16 (c.uncorr + 1) })).scrLog r 3 line).raise0 0x120 r
  else ((s.updScr r (fun c => { c with err := sat 16 (c.err + 1) })).scrLog r (if st = 0x19 then 5 else 4) line).raise0 0x121 r

/-- A transaction of a scrub unit ended; `corr`: with the corrected-error indication. -/
def State.scrEnd (s : State) (r b : Nat) (op : LineOp) (res : Res) (corr : Bool) : State :=
  let c := s.scr r
  if b = 0 then
    let s1 := s.updScr r (fun c => { c with out := c.out - 1 })
    let s2 : State :=
      if c.redo then s1
      else match res with
      | .good _ =>
        if corr then
          let s2 := s1.updScr r (fun c => { c with corr := sat 32 (c.corr + 1), todo := if c.rewrite then c.todo ++ [op.line] else c.todo })
          if !c.rewrite ∧ c.logCorr then s2.scrLog r 1 op.line else s2
        else s1
      | .bad st => s1.scrBad r op.line st
    s2.scrPump r
  else
    let done := fun (s : State) => ((s.scrRelease r).updScr r (fun c => { c with rw_ := none })).scrPump r
    if c.redo then done s
    else match c.rw_ with
    | some (ln, .reread, t) =>
      match res with
      | .good l =>
        (s.updScr r (fun c => { c with rw_ := some (ln, .write, t) })).scrBurst r false false [wrLine (ln * 64) l] 2
      | .bad st => done (s.scrBad r ln st)
    | some (ln, .write, _) =>
      match res with
      | .good _ => done (if c.logCorr then s.scrLog r 2 ln else s)
      | .bad _ => done (if c.logCorr then s.scrLog r 1 ln else s)
    | _ => s

/-- The answer to a rewrite's Hold (R258, R377). -/
def State.scrHold (s : State) (r : Nat) (ok : Bool) : State :=
  match (s.scr r).rw_ with
  | some (ln, .hold, t) =>
    if ok then
      let s1 := { s with holds := s.holds.map (fun (h : Hold) => if h.hid = scrHid r then { h with acked := true } else h) }
      (s1.updScr r (fun c => { c with rw_ := some (ln, .reread, t) })).scrBurst r true (s.scr r).mem [{ line := ln }] 1
    else
      let s1 := { s with holds := s.holds.filter (fun h => h.hid != scrHid r) }
      (((s1.updScr r (fun c => { c with rw_ := none })).scrLog r 7 ln).raise0 0x123 r).scrPump r
  | _ => s

/-- 2 µs without an acknowledgement. -/
def State.scrHoldTimeout (s : State) (r : Nat) : State :=
  match (s.scr r).rw_ with
  | some (ln, .hold, t) =>
    let s1 := (s.reach (t + 2000000)).scrRelease r
    (((s1.updScr r (fun c => { c with rw_ := none })).scrLog r 7 ln).raise0 0x123 r).scrPump r
  | _ => s

/-- A Mover of a scrub or telemetry unit is fenced: what is not issued is withdrawn, and the unit is issued again on
another Mover from its beginning once nothing of it is on its way; a Hold is released before (R32, R254). -/
def State.engFence (s : State) (wid : Nat) : State :=
  match Tbl.get wid s.works with
  | none => s
  | some w =>
    let g := w.which
    let mine := fun (b : Burst) => (b.own.k == OwnK.work && b.own.a == wid) || (b.own.k == OwnK.feedW && b.own.b == wid)
    let gone := (s.bursts ++ s.granted).filter mine
    let n : Nat := gone.foldl (fun n b => n + b.lines.length) 0
    let s1 := (s.dropBursts mine).updWork wid (fun x => { x with mover := none })
    if w.who = 4 then (s1.updTel g (fun t => { t with redo := true, out := t.out - n })).telPump g
    else if w.who = 3 then
      let away := match (s.scr g).rw_ with
        | some (_, .hold, _) => true
        | some _ => gone.any (fun b => b.own.b != 0)
        | none => false
      let s2 := s1.updScr g (fun c => { c with redo := true, todo := [], out := c.out - (if away then 0 else n),
                                               rw_ := if away then none else c.rw_ })
      (if away then s2.scrRelease g else s2).scrPump g
    else s1

/-- What a tick boundary does to Engineering Services (R256, R269); `ended` is the tick that counts, in ps (R38). -/
def State.bgsTick (s : State) (ended : Nat) : State :=
  if !s.isOn domBGS then s
  else
    let s1 := (Tbl.keys s.bgs.scr).foldl (fun s r =>
      let c := s.scr r
      if c.active && s.dataNow then
        let acc := c.acc + c.size * ended * 256 / (max 1 c.period * 10 ^ 12)
        (s.updScr r (fun c => { c with
          acc := acc, tickDone := false, catchup := c.catchup || decide (acc > 4 * 4096 * 256) })).scrPump r
      else s) s
    (Tbl.keys s1.bgs.tel).foldl (fun s g =>
      let s2 := s.updTel g (fun t =>
        let due := t.active && !t.recTick && !t.told
        { t with recTick := false, prodDue := t.prodDue || due, told := t.told || due })
      s2.telPump g) s1

/-! ### Calibration (R260 to R264) -/

/-- A sampled transaction's round trip (R260). -/
def State.sampleLat (s : State) (t : Txn) : State :=
  if !t.smp || !fbit s.bgsCtl 0 || !s.isOn domBGS || s.bgs.calOff then s
  else
    let cyc := (s.clk - t.issued) * s.pwr.coreMhz / 1000000
    let ns := cyc * 1000 / max 1 s.pwr.coreMhz
    { s with bgs := { s.bgs with lat := updAt (2 * t.xa + (if t.rd then 0 else 1)) (fun l =>
        { l with avg := (15 * l.avg + ns + 8) / 16, curMax := max l.curMax ns, curN := sat 16 (l.curN + 1) }) s.bgs.lat } }

/-- The lines per tick that tags allow at the measured round trip; with no sample yet the spec states no figure. -/
def State.tagRate (s : State) (tags avg : Nat) : Nat × State :=
  if avg = 0 then s.freeVal else (tags * (s.T / 1000) / avg, s)

/-- One attachment at a calibration period boundary. -/
def State.calXa (s : State) (n f : Nat) : State :=
  let prog := s.xaFreq n
  let low := decide (f * 100 < prog * 99)
  let b := budgetB (min prog f) s.T
  let rd := s.tagRate 8192 (s.bgs.lat.getD (2 * n) {}).avg
  let wr := rd.2.tagRate 4096 (s.bgs.lat.getD (2 * n + 1) {}).avg
  let s1 := wr.2
  let s2 := { s1 with bgs := { s1.bgs with
    rate := setAt n { rdEst := min b rd.1, wrEst := min b wr.1, fMeas := f, fLow := low } s1.bgs.rate } }
  if low then s2.raise0 0x124 n else s2

/-- WARN of BGS_PVT (R264). -/
def State.warm (s : State) : Bool := decide (4 * (fld s.bgsCtl 16 10 : Int) ≤ s.bgs.temp)

/-- A change that may raise WARN: its rise is raised once (R264). -/
def State.warnRise (s : State) (was : Bool) : State := if s.warm ∧ !was then s.raise0 0x125 s.bgs.hot else s

/-- A calibration period boundary (R260 to R264). -/
def State.calibrate (s : State) (fMeas : List Nat) (temps : List Int) (vcore : Nat) : State :=
  if !fbit s.bgsCtl 0 || !s.isOn domBGS || s.bgs.calOff || s.mode == .safe || s.mode == .off then s
  else
    let s1 := (List.range 8).foldl (fun s n => s.calXa n (fMeas.getD n 0)) s
    let lat := s1.bgs.lat.map (fun l => { l with max := l.curMax, samples := l.curN, curMax := 0, curN := 0 })
    let top := temps.foldl max (temps.headD 0)
    ({ s1 with bgs := { s1.bgs with lat := lat, temp := top, hot := (temps.findIdx? (· == top)).getD 0, vcore := vcore } }).warnRise s.warm

/-- The 1 ms trim of the tick-phase DLL (R263): one step of 10 ps against the sign of the error. -/
def State.trimTick (s : State) (err : Int) : State :=
  if !fbit s.bgsCtl 0 || !s.isOn domBGS || s.bgs.calOff || s.tt.holdover || s.mode == .safe || s.mode == .off then s
  else
    let s1 := { s with bgs := { s.bgs with lastErr := err } }
    if err = 0 then s1
    else
      let t := if err > 0 then s.bgs.trim - 1 else s.bgs.trim + 1
      if t < -512 ∨ t > 511 then ({ s1 with bgs := { s1.bgs with range := true } }).raise0 0x126 0
      else { s1 with bgs := { s1.bgs with trim := t, updates := (s1.bgs.updates + 1) % 2 ^ 32 } }

/-! ### Wear rotation (R265 to R267) -/

/-- The parameters of TRANSIT_OPEN in the eight words that follow its TAG and AUX words; `none` where a field or a zero
field is illegal (R189). The window number comes first. -/
def tParse (w : List Word) : Option (Nat × TParam) :=
  let x := fun i => w.getD i 0
  let y := x 6
  let z := x 7
  let cls := fld y 4 2
  let bad := decide (fld (x 1) 43 21 ≠ 0) || decide (fld (x 5) 32 32 ≠ 0) || decide (cls < 2) || (cls == 3 && decide (fld y 6 3 ≠ 0)) ||
    decide (fld y 24 8 ≠ 0) || decide (fld y 48 16 ≠ 0) || decide (fld z 34 6 ≠ 0) || decide (512 < fld z 24 10)
  if bad then none
  else
    let nz := fun (a d : Nat) => if a = 0 then d else a
    some (fld y 0 3,
      { served := (x 0).toNat, size := fld (x 1) 0 43, dst := (x 2).toNat, src := (x 3).toNat, bitmap := (x 4).toNat,
        bind := fld (x 5) 0 32, mem := fbit y 3, cls := cls, prio := fld y 6 3, lim := if fbit y 21 then some (fld y 9 12) else none,
        zeroSrc := fbit y 22, waitMirror := fbit y 23, orbitMax := nz (fld y 32 8) 8, bill := fld y 40 8,
        mirrorPages := nz (fld z 0 24) 65536, conjMax := nz (fld z 24 10) 64, xset := nz (fld z 40 8) 255,
        srcPort := fld z 48 8, dstPort := fld z 56 8, params := y, limits := z })

/-- Ask for the record of the current step. -/
def State.wearFetch (s : State) : State :=
  let w := s.bgs.wear
  if !w.active || w.inStep || w.waiting.isSome || w.rec_.isSome || w.fetching || !s.dataNow || !s.isOn domBGS then s
  else (s.updWear (fun w => { w with fetching := true })).engCtl 0x7200 0xFFFF true
    [{ line := w.table / 64 + w.step }] ⟨.wearRec, w.step, 0⟩

/-- A step fails: the plan stops (R267). -/
def State.wearFail (s : State) : State :=
  (s.updWear (fun w => { w with active := false, inStep := false, failed := true, rec_ := none })).raise0 0x127 s.bgs.wear.win

def State.wearRecEnd (s : State) (step : Nat) (res : Res) : State :=
  let w := s.bgs.wear
  if !w.fetching ∨ w.step ≠ step then s
  else
    let s1 := s.updWear (fun w => { w with fetching := false })
    if !w.active then s1
    else match res with
    | .good l => s1.updWear (fun w => { w with rec_ := some ((List.range 8).map (lineWord l)) })
    | .bad _ => s1.wearFail

/-- A step takes the lowest-numbered IDLE window and opens it (R265, R266). -/
def State.wearStart (s : State) : State :=
  let w := s.bgs.wear
  match w.rec_ with
  | none => s
  | some ws =>
    if !w.active ∨ w.inStep ∨ w.waiting.isSome ∨ !s.dataNow ∨ !s.isOn domTRN ∨ !s.isOn domBGS then s
    else match (List.range 8).find? (fun i => (s.tw i).ph == .idle) with
    | none => s
    | some i =>
      match tParse ws with
      | none => s.wearFail
      | some (_, p) =>
        if p.cls ≠ 3 ∨ !s.tParamOk p then s.wearFail
        else
          let s1 := s.updWear (fun w => { w with inStep := true, win := i, rec_ := none })
          (s1.tOpen i p none true).updTw i (fun t => { t with conjoin := some (0x3000, 0, w.tries) })

/-- INTERVAL has passed: the next step (R266). -/
def State.wearInterval (s : State) : State :=
  let w := s.bgs.wear
  match w.waiting with
  | none => s
  | some t =>
    if !s.dataNow then s
    else
      let s1 := s.reach (t + w.interval * 10 ^ 12)
      let s2 :=
        if w.step + 1 < w.nsteps then s1.updWear (fun w => { w with waiting := none, step := w.step + 1 })
        else if w.loop_ then s1.updWear (fun w => { w with waiting := none, step := 0, rounds := (w.rounds + 1) % 65536 })
        else s1.updWear (fun w => { w with waiting := none, active := false })
      s2.wearFetch

/-! ### BG_SCHEDULE (R270, R271) -/

/-- Load a slot and start its service; `none` where a field is illegal or the slot is active. `w` are words 2 to 9 of
the entry. -/
def State.bgStart (s : State) (w : List Word) : Option State :=
  let x := fun i => w.getD i 0
  let sv := fld (x 0) 0 4
  let slot := fld (x 0) 8 6
  let z := fun i => decide (x i = 0)
  let hi := fun i => decide ((x i).toNat < 2 ^ 52)
  let xs := fun (n : Nat) => if n = 0 then 255 else n
  if fld (x 0) 14 50 ≠ 0 then none
  else if sv = 1 then
    let size := (x 2).toNat
    let per := fld (x 3) 0 32
    if !hi 1 || decide ((x 1).toNat % 4096 ≠ 0) || decide (2 ^ 47 ≤ size) || decide (size % 4096 ≠ 0) || decide (size < 4096 ∨ 2 ^ 46 < size) ||
       decide (per < 60 ∨ 2592000 < per) || decide (fld (x 3) 46 2 ≠ 0) || decide (fld (x 3) 56 8 ≠ 0) ||
       !(z 4 && z 5 && z 6 && z 7) || (s.scr slot).active then none
    else some ((s.updScr slot (fun _ => {
      active := true, base := (x 1).toNat, size := size, period := per, xset := xs (fld (x 3) 32 8), mem := fbit (x 3) 40,
      rewrite := fbit (x 3) 41, logring := fld (x 3) 42 3, logCorr := fbit (x 3) 45, bill := fld (x 3) 48 8, passStart := s.clk })).scrPump slot)
  else if sv = 2 then
    let b := (x 1).toNat
    let p := (x 2).toNat
    let lg := fld (x 3) 0 5
    let lo := fld (x 3) 8 8
    let h := fld (x 3) 16 8
    if !hi 1 || !hi 2 || decide (b % 4096 ≠ 0) || decide (p % 8 ≠ 0) || decide (lg < 6 ∨ 20 < lg) ||
       overlap p 8 b (64 * 2 ^ lg) || decide (h < lo) || decide (fld (x 3) 5 3 ≠ 0) || decide (fld (x 3) 25 7 ≠ 0) ||
       decide (fld (x 3) 48 16 ≠ 0) || !(z 4 && z 5 && z 6 && z 7) || decide (8 ≤ slot) || (s.tel slot).active then none
    else some (s.updTel slot (fun _ => {
      active := true, base := b, prod := p, log2n := lg, lo := lo, hi := h, feed := fbit (x 3) 24, xset := xs (fld (x 3) 32 8),
      bill := fld (x 3) 40 8 }))
  else if sv = 3 then
    let t := (x 1).toNat
    let n := fld (x 2) 0 16
    let f := fld (x 2) 16 16
    if !hi 1 || decide (t % 64 ≠ 0) || decide (n = 0 ∨ 4096 < n) || decide (n ≤ f) || decide (fld (x 2) 33 31 ≠ 0) ||
       decide (fld (x 3) 32 32 ≠ 0) || decide (16 ≤ (x 4).toNat) || !(z 5 && z 6 && z 7) || decide (slot ≠ 0) ||
       s.bgs.wear.active then none
    else some ((s.updWear (fun _ => {
      active := true, table := t, nsteps := n, loop_ := fbit (x 2) 32, interval := fld (x 3) 0 32,
      tries := if (x 4).toNat = 0 then 4 else (x 4).toNat, step := f })).wearFetch)
  else none

/-- STOP of a slot for a command (R271): `none` where a field is illegal. -/
def State.bgStop (s : State) (w : List Word) (cmd : Nat × Nat) : Option State :=
  let x := fun i => w.getD i 0
  let sv := fld (x 0) 0 4
  let slot := fld (x 0) 8 6
  if fld (x 0) 14 50 ≠ 0 ∨ (List.range 7).any (fun i => x (i + 1) != 0) ∨ sv = 0 ∨ 3 < sv ∨ (sv = 2 ∧ 8 ≤ slot) ∨ (sv = 3 ∧ slot ≠ 0) then none
  else if sv = 1 then
    if (s.scr slot).active then some ((s.updScr slot (fun c => { c with stopCmd := some cmd })).scrPump slot) else some (s.endCmd cmd 0 0 0)
  else if sv = 2 then
    if (s.tel slot).active then some ((s.updTel slot (fun t => { t with stopCmd := some cmd, prodDue := true })).telPump slot)
    else some (s.endCmd cmd 0 0 0)
  else
    let wr := s.bgs.wear
    if wr.active then
      some ((s.updWear (fun w => { w with active := false, waiting := none, rec_ := none })).endCmd cmd 0 0 (BitVec.ofNat 64 wr.step))
    else some (s.endCmd cmd 0 0 0)

/-! ### BGS registers (R274) -/

def State.bgsRead (s : State) (off : Nat) : Word :=
  let b := s.bgs
  let c := s.scr (fld (s.reg 0x40100 0) 0 6)
  let t := s.tel (fld (s.reg 0x40600 0) 0 3)
  if off = 0 then s.bgsCtl
  else if off = 8 then
    mkWord [(0, 1, b2n ((Tbl.vals b.scr).any (·.active))), (1, 1, b2n b.wear.active), (2, 1, b2n ((Tbl.vals b.tel).any (·.active))),
            (3, 1, b2n b.behind), (16, 32, b.unmatched)]
  else if off = 0x100 then s.reg 0x40100 0
  else if off = 0x108 then
    mkWord [(0, 1, b2n c.active), (1, 1, b2n c.behind), (2, 1, b2n c.catchup), (12, 34, c.cursor / 4096), (48, 16, c.passes)]
  else if off = 0x110 then mkWord [(0, 32, c.corr), (32, 16, c.uncorr), (48, 16, c.err)]
  else if 0x200 ≤ off ∧ off < 0x280 then
    let l := b.lat.getD ((off - 0x200) / 8) {}
    mkWord [(0, 24, sat 24 l.avg), (24, 24, sat 24 l.max), (48, 16, l.samples)]
  else if 0x300 ≤ off ∧ off < 0x340 then
    let r := b.rate.getD ((off - 0x300) / 8) {}
    mkWord [(0, 16, r.rdEst), (16, 16, r.wrEst), (32, 11, r.fMeas), (48, 1, b2n r.fLow)]
  else if off = 0x400 then mkWord [(0, 12, unsign b.temp 12), (16, 10, b.vcore), (32, 1, b2n s.warm)]
  else if off = 0x408 then mkWord [(0, 10, unsign b.trim 10), (10, 1, b2n b.range), (16, 16, unsign b.lastErr 16), (32, 32, b.updates)]
  else if off = 0x500 then
    let w := b.wear
    mkWord [(0, 1, b2n w.active), (1, 1, b2n w.waiting.isSome), (2, 1, b2n w.failed), (3, 1, b2n w.inStep), (4, 12, w.step),
            (16, 3, w.win), (20, 16, w.rounds)]
  else if off = 0x600 then s.reg 0x40600 0
  else if off = 0x608 then mkWord [(0, 20, t.wr), (20, 1, b2n t.wrWrap), (21, 1, b2n t.active), (32, 32, t.drops)]
  else if off = 0x610 then mkWord [(0, 20, t.rd), (20, 1, b2n t.rdWrap)]
  else 0

/-- BGS_TELRD (R269): false where the index is illegal. -/
def State.telRd (s : State) (data : Word) (strb : BitVec 8) : State × Bool :=
  let g := fld (s.reg 0x40600 0) 0 3
  let t := s.tel g
  let v := strobe (mkWord [(0, 20, t.rd), (20, 1, b2n t.rdWrap)]) data strb
  if 2 ^ t.log2n ≤ fld v 0 20 then (s, false)
  else ((s.updTel g (fun t => { t with rd := fld v 0 20, rdWrap := fbit v 20 })).telPump g, true)

def State.bgsWrite (s : State) (off : Nat) (data : Word) (strb : BitVec 8) : State × Bool :=
  let w1c := fun (i : Nat) => strb.toNat.testBit (i / 8) && fbit data i
  if off = 0 then
    let v := strobe s.bgsCtl data strb
    let ms := fld v 1 10
    if ms = 0 ∨ 1000 < ms ∨ 150 < fld v 16 10 then (s, false)
    else ((s.setReg 0x40000 (mkWord [(0, 11, fld v 0 11), (16, 10, fld v 16 10)])).warnRise s.warm, true)
  else if off = 8 then (if w1c 3 then { s with bgs := { s.bgs with behind := false } } else s, true)
  else if off = 0x100 then (s.setReg 0x40100 (mkWord [(0, 6, fld (strobe (s.reg 0x40100 0) data strb) 0 6)]), true)
  else if off = 0x108 then
    (if w1c 1 then s.updScr (fld (s.reg 0x40100 0) 0 6) (fun c => { c with behind := false }) else s, true)
  else if off = 0x408 then (if w1c 10 then { s with bgs := { s.bgs with range := false } } else s, true)
  else if off = 0x500 then (if w1c 2 then s.updWear (fun w => { w with failed := false }) else s, true)
  else if off = 0x600 then (s.setReg 0x40600 (mkWord [(0, 3, fld (strobe (s.reg 0x40600 0) data strb) 0 3)]), true)
  else if off = 0x610 then s.telRd data strb
  else (s, true)

end Sys2Proof.Machine
end

