-- ==== Sys2Proof/Machine/Stops.lean ====
section
/-! DEFINITION. Stopping queues (R224 to R236, R244, R245, R324): disable, abort, drain, enable, delete; the waiting
admin commands that follow them; ports; fences of queues and Dispatch Queues. -/

namespace Sys2Proof.Machine

/-! ### Results of commands -/

/-- Write a result slot (R104). A word 1 that a read has frozen stays frozen (R12, R105). -/
def State.slotSet (s : State) (t i : Nat) (r : ResultSlot) : State :=
  s.updTenant t (fun x => { x with slots := updAt i (fun o => { r with hi := o.hi }) x.slots })

/-- Finish a command: its result slot becomes Valid, its completion is due (R104, R327). -/
def State.cmdEnd (s : State) (c : CmdWait) (st info : Nat) (res : Word) : State :=
  let tag := (((s.queue c.q).ents.find? (fun (e : Ent) => e.uid == c.uid)).map Ent.tag).getD 0
  let s1 := match c.slot with
    | none => s
    | some (t, i) => s.slotSet t i { valid := true, status := st, tag := tag, info := info, data := res }
  { s1 with dct := { s1.dct with waits := s1.dct.waits.filter (fun x => !(x.q == c.q && x.uid == c.uid)) } }.endCmd (c.q, c.uid) st info res

def State.addWait (s : State) (c : CmdWait) : State := { s with dct := { s.dct with waits := s.dct.waits ++ [c] } }

/-- A work item admitted under a window's old state is still running (R117). -/
def State.winBusy (s : State) (jobs : List Nat) (descs : List (Nat × Nat)) : Bool :=
  jobs.any (fun u => s.queues.any (fun p => p.2.ents.any (fun (e : Ent) => e.uid == u && !e.fin))) ||
  descs.any (fun d => (s.chan d.1).descs.any (fun x => x.uid == d.2))

/-- No entry, no Head Word due or being written, and no read of the ring remains of a queue (R228, R230). -/
def State.queueIdle (s : State) (q : Nat) : Bool :=
  let g := s.queue q
  let mine := fun (o : Own) => (o.k == OwnK.scan || o.k == OwnK.body || o.k == OwnK.hdrWb) && o.a == q
  g.ents.isEmpty && !g.hwDue && !g.hwBusy && !s.bursts.any (fun b => mine b.own) && !s.granted.any (fun b => mine b.own) &&
  !s.txns.any (fun t => mine t.own)

/-- Waiting commands whose condition has come (R117, R224, R228 to R230). -/
def State.waitsRun (s : State) : State :=
  s.dct.waits.foldl (fun s c =>
    match c.k with
    | .sqDisable q => if s.queueIdle q then s.cmdEnd c 0 0 0 else s
    | .sqDelete q =>
      if s.queueIdle q then
        { s with queues := Tbl.del q s.queues, tt := { s.tt with resv := Tbl.del q s.tt.resv } }.cmdEnd c 0 0 0
      else s
    | .sqDrain q =>
      let g := s.queue q
      if g.st = .disabled ∧ s.queueIdle q then s.cmdEnd c 0 0 0
      else if (g.st = .held ∨ g.st = .error) ∧ s.queueIdle q then s.cmdEnd c 0x14 0x500 0
      else s
    | .win jobs descs => if s.winBusy jobs descs then s else s.cmdEnd c 0 0 0
    | _ => s) s

/-! ### Aborting -/

/-- Every burst of a job has been issued (R229). -/
def State.allIssued (s : State) (uid : Nat) : Bool :=
  match Tbl.get uid s.jobs with
  | none => true
  | some j =>
    let idle : State := { s with works := s.works.map (fun (p : Nat × Work) => (p.1, if p.2.uid == uid then { p.2 with out := 0 } else p.2)) }
    j.ph == 4 || (j.ph == 2 && !s.hasBurst uid && decide (j.segs ≤ j.nextSeg) &&
      j.flying.all (fun w => if isG j then idle.gDone w else idle.workDone w))

/-- Abort a started data entry (R229): what is not issued yet is not issued. -/
def State.abortJob (s : State) (uid : Nat) : State :=
  match Tbl.get uid s.jobs with
  | none => s
  | some _ =>
    if s.allIssued uid then s
    else
      let s1 := s.stripJob uid (fun _ => true)
      let s2 := { s1 with works := s1.works.map (fun (p : Nat × Work) => (p.1, if p.2.uid == uid && p.2.who == 0 then { p.2 with stop := true } else p.2)) }
      s2.updJob uid (fun j => { j with abort := true })

/-- A waiting WAIT_EVENT completes with ABORTED (R131). -/
def State.abortWait (s : State) (q : Nat) : State :=
  match (s.queue q).wait with
  | none => s
  | some w => (s.updQueue q (fun g => { g with wait := none })).finish q w.1 0x18 0 0 0

/-- FENCE entries that still wait complete with ABORTED and make no store. -/
def State.abortFences (s : State) (q : Nat) : State :=
  ((s.queue q).ents.filter (fun (e : Ent) => e.opc == 0x10 && e.ph == EPh.started && !e.fin && !e.storing)).foldl
    (fun s e => s.finish q e.uid 0x18 0 0 0) s

/-- DISABLED: discards, the Head Word, the waiting WAIT_EVENT; with ABORT the started work too (R225, R228, R229). -/
def State.disableQ (s : State) (q : Nat) (abort : Bool) : State :=
  let s1 := ((s.discard q).updQueue q (fun g => { g with st := .disabled })).abortWait q
  let s2 := if abort then ((s1.queue q).ents.foldl (fun s (e : Ent) => s.abortJob e.uid) s1).abortFences q else s1
  (s2.hwNow q).pumpQ q

/-- DRAINING (R230): a header whose read is in flight is not recorded as seen. -/
def State.drainQ (s : State) (q : Nat) : State :=
  (((s.stopScan q).updQueue q (fun g => { g with st := .draining })).hwNow q).pumpQ q

/-- The scan pointer from the Head Word last written (R227); a queue in ERROR with seen entries keeps them and scans
from its own pointer. -/
def State.enableScan (s : State) (q : Nat) : State :=
  let g := s.queue q
  let keep := g.st == .error && g.ents.any (fun e => !e.isStarted)
  let s1 := s.updQueue q (fun g => { g with
    st := .active, quiesced := false, short := false, errUnit := none, heldSet := [],
    sp := if keep then g.sp else g.headIdx.1, spWrap := if keep then g.spWrap else g.headIdx.2 })
  ((s1.stopScan q).scanReq q).pumpQ q

/-- A queue enabled in QUIESCE is DISABLED and marked until the return to RUN (R244); from ERROR it discards what it has
seen, as on every entry to DISABLED (R225). -/
def State.enableQuiesced (s : State) (q : Nat) : State :=
  let s1 := if (s.queue q).st = .error then (s.discard q).hwNow q else s
  s1.updQueue q (fun g => { g with st := .disabled, quiesced := true, heldSet := [], sp := g.headIdx.1, spWrap := g.headIdx.2 })

/-- SQ_DELETE on acceptance (R224). -/
def State.deleteQ (s : State) (q : Nat) : State :=
  let unst := (s.queue q).ents.filter (fun (e : Ent) => !e.isStarted)
  let s1 := unst.foldl (fun s (e : Ent) => s.killJob e.uid) s
  let s2 := s1.updQueue q (fun g => { g with ents := g.ents.filter Ent.isStarted })
  ((((s2.stopScan q).abortWait q).abortFences q).hwNow q).pumpQ q

/-- Stop a Dispatch Queue (R324): no command further; those in progress complete. -/
def State.dqHalt (s : State) (q : Nat) (fence : Bool) : State :=
  let g := s.queue q
  if g.st ≠ .active then (if fence ∧ g.st = .stopping then s.updQueue q (fun g => { g with fenced := true }) else s)
  else (((s.discard q).updQueue q (fun g => { g with st := .stopping, fenced := fence })).hwNow q).pumpQ q

/-- Fence of a queue (R280): as SQ_DISABLE with ABORT, then ERROR. -/
def State.fenceQ (s : State) (q : Nat) : State :=
  if !(Tbl.has q s.queues) then s
  else if (s.queue q).dq then s.dqHalt q true
  else if (s.queue q).st = .error then
    let s1 := ((s.queue q).ents.foldl (fun s (e : Ent) => s.abortJob e.uid) (s.discard q)).abortFences q
    s1.pumpQ q
  else if (s.queue q).st = .held then s
  else
    let s1 := s.disableQ q true
    (((s1.updQueue q (fun g => { g with st := .error })).queueIrq q (fun t => { t with irqError := true })).hwNow q).pumpQ q

/-- A queue whose attachment set holds no unfenced member enters HELD, with no port in its held set (R443). -/
def State.holdDead (s : State) (q : Nat) : State :=
  let g := s.queue q
  if g.dq ∨ isFwdQ q ∨ g.st = .held ∨ g.st = .disabled then s
  else
    let s1 := (s.discard q).updQueue q (fun g => { g with st := .held, heldSet := [] })
    (((s1.raise0 0x065 q).queueIrq q (fun t => { t with irqHeld := true })).hwNow q).pumpQ q

/-! ### Refusal of bursts toward a DOWN port (R233, R237) -/

/-- Control bursts and the like: those owned by work items are handled by their jobs. -/
def Burst.isWork (b : Burst) : Bool := b.own.k == OwnK.work

/-- A queue is touched by a port reported DOWN: its ring, Head Word or completion ring lies on it (R234). -/
def State.portQ (s : State) (p : Nat) : State :=
  (Tbl.keys s.queues).foldl (fun s q =>
    let g := s.queue q
    if g.port = some p ∨ g.headPort = some p ∨ (!g.dq ∧ !isFwdQ q ∧ (s.ring g.ring).port = some p) ∨
       (g.dq ∧ (s.ring g.ring).port = some p) then s.enterHeld q p else s) s

/-- Rings on a DOWN port read FULL until a TEN_CRARM write after UP (R235). -/
def State.portRings (s : State) (p : Nat) : State :=
  (Tbl.keys s.rings).foldl (fun s r =>
    if (s.ring r).port = some p then (s.updRing r (fun g => { g with hold := true, free := 0, edge := true })).pumpRing r else s) s

/-! ### QUIESCE (R244, R245) -/

def State.quiesceQueues (s : State) : State :=
  (Tbl.keys s.queues).foldl (fun s q =>
    let g := s.queue q
    if g.dq ∨ isFwdQ q then s
    else
      let s1 := s.abortWait q
      if g.st = .active ∨ g.st = .backed then ((s1.updQueue q (fun g => { g with quiesced := true })).drainQ q) else s1.pumpQ q) s

def State.unquiesceQueues (s : State) : State :=
  (Tbl.keys s.queues).foldl (fun s q =>
    let g := s.queue q
    if g.quiesced then
      if g.st = .disabled then s.enableScan q else s.updQueue q (fun g => { g with quiesced := false })
    else if !g.dq ∧ g.rung then (s.updQueue q (fun g => { g with rung := false })).scanReq q
    else s) s

/-- The four conditions of R244. A PAUSED channel keeps its started descriptors in their places and holds nothing up. -/
def State.quiet (s : State) : Bool :=
  (Tbl.vals s.works).all (fun w => w.who == 1 && (s.chan w.which).st == .paused) && s.jobs.isEmpty && s.txns.isEmpty &&
  (Tbl.vals s.queues).all (fun g => g.dq || !g.quiesced || g.st == .disabled || (g.st == .held && g.ents.isEmpty)) &&
  (Tbl.vals s.chn.chans).all (fun c => !c.quiesced || c.st == .stopped)

end Sys2Proof.Machine
end

