-- ==== Sys2Proof/Machine/Stations.lean ====
section
/-! DEFINITION. Stations and the Line (chapter 13): Peer Link frames, discovery, tick agreement, forwarding, peer events,
the STN registers. -/

namespace Sys2Proof.Machine

def State.updStn (s : State) (f : Stn → Stn) : State := { s with stn := f s.stn }

/-! ### Registers -/

def State.stnCtl (s : State) : Word := s.reg 0x60000 0x43
def State.linkEn (s : State) : Bool := fbit s.stnCtl 0
def State.alignEn (s : State) : Bool := fbit s.stnCtl 1
def State.fwdEn (s : State) : Bool := fbit s.stnCtl 2
def State.fwdPrio (s : State) : Nat := fld s.stnCtl 4 3
def State.fwdCfg (s : State) : Word := s.reg 0x60030 0xFF00000000C8
def State.fwdq (s : State) : Word := s.reg 0x60020 0
def State.retq (s : State) : Word := s.reg 0x60028 0
def State.tlimit (s : State) : Nat := fld s.fwdCfg 0 14 * 1000000000

/-! ### Frames (R355) -/

/-- A frame with its CRC. -/
def mkFrame (type origin dest hops payload : Nat) : Word :=
  let lo := type % 16 + (origin % 16) * 16 + (dest % 16) * 256 + (hops % 16) * 4096 + (payload % 2 ^ 40) * 2 ^ 16
  BitVec.ofNat 64 (lo + crc8 7 0 (leBytes 7 lo) * 2 ^ 56)

def fType (f : Word) : Nat := fld f 0 4
def fOrigin (f : Word) : Nat := fld f 4 4
def fDest (f : Word) : Nat := fld f 8 4
def fHops (f : Word) : Nat := fld f 12 4
/-- CRC and TYPE are good (R356). -/
def frameOk (f : Word) : Bool := decide (fType f ≤ 4) && crc8 7 0 (leBytes 7 (fld f 0 56)) == fld f 56 8
/-- The frame with one hop more. -/
def hopped (f : Word) : Word := mkFrame (fType f) (fOrigin f) (fDest f) (fHops f + 1) (fld f 16 40)

def presenceFrame (s : State) : Word :=
  mkFrame 1 s.stn.id 0 0 (s.stn.nonce % 65536 + s.tt.cfgLen * 2 ^ 16 + (s.tt.cfgPhase % 2 ^ 14) * 2 ^ 19 +
    fld s.fwdq 0 4 * 2 ^ 33 + b2n s.fwdEn * 2 ^ 37 + b2n (s.mode == .run || s.mode == .degraded) * 2 ^ 38)
def notifyFrame (s : State) (dest kind slot : Nat) : Word :=
  mkFrame 3 s.stn.id dest 0 (kind + (slot % 256) * 16)
def eventFrame (s : State) (num : Nat) : Word := mkFrame 4 s.stn.id 0 0 (num % 256)

/-- The Peer Link originates and accepts frames other than TICK and relayed ones (R357). -/
def State.peerOpen (s : State) : Bool := s.linkEn && !s.sbx.fpeer && s.mode != .safe && s.mode != .off
/-- Frames are received at all. -/
def State.peerIn (s : State) : Bool := s.linkEn && s.mode != .off

/-- A frame of the Station's own waits, in the order it fell due (R369); PD_DSP makes all but PRESENCE (R357). DESIGN CHOICE
(log 97): one that falls due with 16 waiting stands behind them. -/
def State.queueOwn (s : State) (f : Word) : State :=
  if s.peerOpen ∧ (fType f = 1 ∨ s.isOn domDSP) then s.updStn (fun x => { x with own := x.own ++ [f] }) else s

/-- A frame is passed on (R356). -/
def State.relay (s : State) (f : Word) : State :=
  if s.mode = .safe ∨ 15 ≤ fHops f ∨ 16 ≤ s.stn.relay.length then s
  else s.updStn (fun x => { x with relay := x.relay ++ [hopped f] })

/-- What the next frame slot carries (R356, R357). -/
def State.peerFrameSend (s : State) : State :=
  if s.mode = .off then s
  else if !s.linkEn then s.emit (.peer (mkFrame 0 s.stn.id 0 0 0))
  else match s.stn.tick with
  | some b =>
    let ref := decide (s.stn.id = 0) || s.stn.aligned
    let f := mkFrame 2 s.stn.id 0 0 (((s.tt.time - b) / 10) % 2 ^ 14 +
      b2n (ref && !s.sbx.fpeer && !(s.stn.holdover && s.stn.id != 0)) * 2 ^ 14 + (s.tt.tickNum % 65536) * 2 ^ 16)
    (s.updStn (fun x => { x with tick := none })).emit (.peer f)
  | none =>
    if s.mode = .safe then s.emit (.peer (mkFrame 0 s.stn.id 0 0 0))
    else match s.stn.relay with
    | f :: t => (s.updStn (fun x => { x with relay := t })).emit (.peer f)
    | [] =>
      match s.stn.own with
      | f :: t =>
        if s.sbx.fpeer then s.emit (.peer (mkFrame 0 s.stn.id 0 0 0))
        else (s.updStn (fun x => { x with own := t })).emit (.peer f)
      | [] => s.emit (.peer (mkFrame 0 s.stn.id 0 0 0))

/-- The PEER_EVENT number the next slot sends, which the sender samples as it leaves the pin (R369). -/
def State.ownEvent (s : State) : Option Nat :=
  if s.linkEn ∧ s.stn.tick.isNone ∧ s.stn.relay.isEmpty ∧ s.peerOpen then
    match s.stn.own with
    | f :: _ => if fType f = 4 then some (fld f 16 8) else none
    | [] => none
  else none

/-- A bad frame is discarded (R356). -/
def State.frameDiscard (s : State) (f : Word) : State :=
  if frameOk f ∨ !s.peerIn then s
  else (s.updStn (fun x => { x with crcErrs := min 65535 (x.crcErrs + 1) })).raise0 0x144 s.stn.id

/-! ### Discovery (R358, R359) -/

def State.presence (s : State) (f : Word) : State :=
  if !frameOk f ∨ fType f ≠ 1 ∨ !s.peerIn then s
  else if fOrigin f = s.stn.id then
    if fld f 16 16 = s.stn.nonce % 65536 ∨ s.sbx.fpeer then s
    else (s.updStn (fun x => { x with dup := true })).raise0 0x142 s.stn.id
  else
    let p : Pres := { at_ := s.clk, dist := fHops f + 1, len := fld f 32 3, phase := fld f 35 14, log2l := fld f 49 4,
                      fwdEn := fbit f 53, modeOk := fbit f 54 }
    let s1 := if s.sbx.fpeer then s else s.updStn (fun x => { x with seen := Tbl.put (fOrigin f) p x.seen })
    s1.relay f

def State.presenceSend (s : State) : State := s.queueOwn (presenceFrame s)

def State.presenceExpiry (s : State) (t : Nat) : State :=
  match Tbl.get t s.stn.seen with
  | none => s
  | some p => (s.reach (p.at_ + 65536000)).updStn (fun x => { x with seen := Tbl.del t x.seen })

/-! ### Tick agreement (R360 to R363) -/

/-- Line holdover (R363). -/
def State.lineHoldover (s : State) : State :=
  let s1 := s.updStn (fun x => { x with holdover := true, aligned := false, good := 0, slew := 0, step := none })
  if s.stn.aligned then s1.raise0 0x141 s.stn.id else s1

def State.linkBroken (s : State) : State :=
  if !s.peerIn then s
  else ((s.updStn (fun x => { x with broken := true })).raise0 0x140 s.stn.id).lineHoldover

/-- The absolute value. -/
def absI (z : Int) : Nat := z.natAbs

/-- A correction of at most one tick brought into (−T/2, T/2]; the tick it moves goes into the tick number (R360, R361). -/
def reduceC (c T : Int) : Int := if 2 * c > T then c - T else if 2 * c ≤ -T then c + T else c

/-- A boundary passes: usable TICK frames have stopped arriving where none came in the last two ticks (R363). DESIGN CHOICE
(log 96): the spec gives no number of ticks. -/
def State.quietTick (s : State) : State :=
  if s.stn.id = 0 ∨ 2 ≤ s.stn.quiet then s
  else
    let s1 := s.updStn (fun x => { x with quiet := x.quiet + 1 })
    if s.stn.quiet = 1 then s1.lineHoldover else s1

/-- A received TICK frame; `arrival` is its first edge in ps of the block's fabric time. -/
def State.tickFrame (s : State) (f : Word) (arrival : Nat) : State :=
  if !frameOk f ∨ fType f ≠ 2 ∨ !s.peerIn ∨ s.sbx.fpeer ∨ !s.tt.running then s
  else
    let T : Int := (s.T : Int)
    let up : Int := (arrival : Int) - (fld s.stnCtl 16 16 * 10 : Nat) - (fld f 16 14 * 10 : Nat)
    -- own boundary nearest to it
    let d := up - (s.tt.tickStart : Int)
    let k : Int := (2 * d + T) / (2 * T)
    let e := d - k * T
    let own : Int := (s.tt.tickNum : Int) + k
    let num : Int := (fld f 32 16 : Nat)
    let off : Int := (num - own + 32768) % 65536 - 32768
    let err : Int := max (-32768) (min 32767 (e / 10))
    let zero := s.stn.id == 0
    let s1 := s.updStn (fun x => { x with lastErr := err })
    if zero then (if absI e > 2000 then s1.raise0 0x141 0 else s1)
    else
      let st0 := Tbl.get 0 s.stn.seen
      let mis := match st0 with | some p => p.len != s.tt.cfgLen || p.phase != s.tt.cfgPhase | none => false
      if mis then
        let s2 := s1.updStn (fun x => { x with mismatch := true })
        let s3 := if s.stn.mismatch then s2 else s2.raise0 0x141 s.stn.id
        s3.lineHoldover
      else if !fbit f 30 ∨ !s.alignEn ∨ st0.isNone then s1.lineHoldover
      else if off = 0 ∧ 4 * (absI e : Int) ≤ T then
        let good := if absI e ≤ 1000 then min 16 (s.stn.good + 1) else 0
        let lose := s.stn.aligned && decide (absI e > 2000)
        let m : Int := min (absI e : Int) 250
        let s2 := s1.updStn (fun x => { x with
          holdover := false, quiet := 0, good := good, aligned := if lose then false else x.aligned || decide (16 ≤ good),
          slew := if e < 0 then -m else m, step := none })
        if lose then s2.raise0 0x141 s.stn.id else s2
      else
        let s2 := s1.updStn (fun x => { x with
          holdover := false, quiet := 0, good := 0, aligned := false, slew := 0,
          step := some (reduceC (s.stn.corr + e) T, up, own + off) })
        if s.stn.aligned then s2.raise0 0x141 s.stn.id else s2

/-! ### Forwarding, originator (R364, R366, R367) -/

def State.updFwd (s : State) (w seq : Nat) (f : FwdOut → FwdOut) : State :=
  s.updStn (fun x => { x with fwd := x.fwd.map (fun o => if o.w = w ∧ o.seq = seq then f o else o) })

def State.fwdOut (s : State) (w seq : Nat) : Option FwdOut := s.stn.fwd.find? (fun o => o.w == w && o.seq == seq)

/-- An entry completes with FORWARD_FAILED. DESIGN CHOICE (log entry 83): INFO[1] FORWARDED is set where the owner has been
given the entry and may have executed it. -/
def State.fwdFail (s : State) (q uid : Nat) (given : Bool) : State :=
  let ns := (((s.queue q).ents.find? (fun (e : Ent) => e.uid == uid)).map Ent.noCsum).getD 0
  ((s.updStn (fun x => { x with failed := min 65535 (x.failed + 1) })).finish q uid 0x1C (ns + (if given then 2 else 0)) 0 0).pumpQ q

/-- Ports of the windows of a job's ranges. -/
def Job.ports (j : Job) : List Nat := (j.srcs ++ j.dsts ++ j.tabs ++ j.csumR.toList).filterMap (·.port)

/-- Forward an entry at its admission (R132, R364); a ring that cannot take its claim makes the queue BACKED (R96). DEDUCED
(log 98): admission also waits while the slot of its SEQ is still outstanding or in quarantine. -/
def State.forward (s : State) (q : Nat) (e : Ent) (w : Nat) (j : Job) : State :=
  let ok := match Tbl.get w s.stn.seen with
    | some p => p.fwdEn && p.modeOk && s.fwdEn && s.peerOpen && !s.sbx.fpeer
    | none => false
  if !ok then
    ((s.setEnt q e.uid (fun e => { e with ph := .admitted, fwd := true })).fwdFail q e.uid false)
  else
    let l := ((Tbl.get w s.stn.seen).map (·.log2l)).getD 4
    let o := s.stn.id
    let seq := Tbl.getD w 0 s.stn.seqs
    let slot := seq % 2 ^ l
    let lane := s.stn.fwd.filter (fun x => x.w == w)
    if 2 ^ l ≤ lane.length ∨ lane.any (fun x => x.slot == slot) ∨ !(s.queue q).earlierStarted e.uid then s
    else if !s.claimOk (s.queue q).ring then s.enterBacked q
    else
      let fa := (Config.fwdBase w).toNat + o * 2 ^ l * 128 + slot * 128
      let h := e.hdr ||| 1
      let ws := (List.range 12).map (fun i => if i < 2 * e.len16 then (if i = 0 then setFld (e.w 0) 0 32 h else e.w i) else 0)
      let head : List Word := [mkWord [(0, 4, o), (8, 8, j.tenant), (16, 16, seq)], 0, 0, 0]
      let all := head ++ ws
      let s1 := s.setEnt q e.uid (fun e => { e with ph := .admitted, fwd := true })
      let s2 := s1.updStn (fun x => { x with
        seqs := Tbl.put w ((seq + 1) % 65536) x.seqs, fwd := x.fwd ++ [{ w := w, seq := seq, q := q, uid := e.uid, slot := slot, ports := j.ports }] })
      s2.ctl q false [wrLine fa (lineOfWords (all.take 8)), wrLine (fa + 64) (lineOfWords (all.drop 8))] ⟨.fwdWr, w, seq⟩ none false

/-- The slot write is issued: the entry has started. -/
def State.fwdIssued (s : State) (w seq : Nat) : State :=
  match s.fwdOut w seq with
  | none => s
  | some o => ((s.updFwd w seq (fun o => { o with issued := some s.clk })).startEnt o.q o.uid).pumpQ o.q

/-- A line of the slot write was answered. -/
def State.fwdWrEnd (s : State) (w seq : Nat) (res : Res) : State :=
  match s.fwdOut w seq with
  | none => s
  | some o =>
    let bad := o.bad || (match res with | .good _ => false | .bad _ => true)
    let s1 := s.updFwd w seq (fun o => { o with left := o.left - 1, bad := bad })
    if o.left ≠ 1 then s1
    else if bad then (s1.updFwd w seq (fun o => { o with quar := some s.clk })).fwdFail o.q o.uid false
    else s1.queueOwn (notifyFrame s w 1 o.slot)

/-- Addressed frames reach PD_DSP (R357). -/
def State.notifyIn (s : State) (f : Word) (kind : Nat) : Bool :=
  frameOk f && fType f == 3 && s.peerIn && fDest f == s.stn.id && fld f 16 4 == kind && s.peerOpen && s.isOn domDSP

/-- Return doorbell: read the named records. -/
def State.returnDoorbell (s : State) (f : Word) : State :=
  if !s.notifyIn f 2 then s
  else
    let w := fOrigin f
    (List.range (fld f 28 4 + 1)).foldl (fun s i =>
      let slot := (fld f 20 8 + i) % 256
      match s.stn.fwd.find? (fun o => o.w == w && o.slot == slot) with
      | none => s
      | some o =>
        let fa := fld s.retq 12 40 * 4096 + w * 8192 + slot * 32
        s.ctl o.q true [{ line := fa / 64, key := slot }] ⟨.retRd, w, o.seq⟩ none false) s

/-- The return record has been read (R366). TARGET_LOST holds the origin queue (R234). DESIGN CHOICE (log entry 84): the
record does not name the failing range, so the port is that of the entry's first window on a port that is DOWN, or else of
its first window. -/
def State.retRdEnd (s : State) (w seq slot : Nat) (res : Res) : State :=
  match s.fwdOut w seq with
  | none => s
  | some o =>
    let drop := fun (s : State) => s.updStn (fun x => { x with fwd := x.fwd.filter (fun y => !(y.w == w && y.seq == seq)) })
    match res with
    | .bad _ => if o.quar.isSome then s else (s.updFwd w seq (fun o => { o with quar := some s.clk })).fwdFail o.q o.uid true
    | .good l =>
      let b := (slot * 32 % 64) / 8
      let w0 := lineWord l b
      if fld w0 16 16 ≠ seq then s
      else if o.quar.isSome then drop s
      else
        let st := fld w0 8 8
        let s1 := (drop s).finish o.q o.uid st (fld w0 48 16 ||| 2) (lineWord l (b + 1)) (lineWord l (b + 2))
        let s2 := s1.setEnt o.q o.uid (fun e => { e with time := (lineWord l (b + 3)).toNat })
        let s3 := if st = 0x1C then s2.updStn (fun x => { x with failed := min 65535 (x.failed + 1) }) else s2
        let s4 := match (o.ports.find? (fun p => !(s3.port p).up)).or o.ports.head? with
          | some p => if st = 0x14 then s3.enterHeld o.q p else s3
          | none => s3
        s4.pumpQ o.q

/-- The forward time limit (R367). -/
def State.fwdTimeLimit (s : State) (w seq : Nat) : State :=
  match s.fwdOut w seq with
  | none => s
  | some o =>
    match o.issued with
    | none => s
    | some t =>
      if o.quar.isSome then s
      else
        let s1 := s.reach (t + s.tlimit)
        ((s1.updFwd w seq (fun o => { o with quar := some s1.clk })).raise0 0x143 o.q).fwdFail o.q o.uid true

def State.fwdQuarEnd (s : State) (w seq : Nat) : State :=
  match s.fwdOut w seq with
  | none => s
  | some o =>
    match o.quar with
    | none => s
    | some t => (s.reach (t + s.tlimit)).updStn (fun x => { x with fwd := x.fwd.filter (fun y => !(y.w == w && y.seq == seq)) })

/-! ### Forwarding, owner (R365) -/

/-- The pseudo-queue of work forwarded by Station o. -/
def State.fwdQueue (s : State) (o : Nat) : State :=
  let q := 0xC200 + o
  let g := s.queue q
  let x := fld s.fwdCfg 40 8
  { s with queues := Tbl.put q { g with
      ring := q, cls := 2, prio := s.fwdPrio, xset := if x = 0 then 255 else x,
      lim := if fbit s.fwdCfg 32 then some (fld s.fwdCfg 20 12) else none, st := .active } s.queues }

/-- Forward doorbell: read the named slots in Freight. -/
def State.forwardDoorbell (s : State) (f : Word) : State :=
  if !s.notifyIn f 1 then s
  else
    let o := fOrigin f
    let l := fld s.fwdq 0 4
    let s1 := s.fwdQueue o
    (List.range (fld f 28 4 + 1)).foldl (fun s i =>
      let slot := (fld f 20 8 + i) % 2 ^ l
      if s.stn.ins.any (fun x => x.o == o && x.slot == slot) then s
      else
        let fa := fld s.fwdq 12 40 * 4096 + o * 2 ^ l * 128 + slot * 128
        let s2 := s.updStn (fun x => { x with ins := x.ins ++ [{ o := o, slot := slot }] })
        s2.ctl (0xC200 + o) true [{ line := fa / 64, key := 0 }, { line := fa / 64 + 1, key := 1 }] ⟨.fwdRd, o, slot⟩ none false) s1

/-- Start the entry of a slot that has been read, or return what it fails with. -/
def State.fwdRun (s : State) (x : FwdIn) : State :=
  let q := 0xC200 + x.o
  let ln := fun k => ((x.got.find? (fun g => g.1 == k)).map (·.2)).getD (0 : Line)
  let word := fun i => if i < 8 then lineWord (ln 0) i else lineWord (ln 1) (i - 8)
  let ten := fld (word 0) 8 8
  let h := bits (word 4).toNat 0 32
  let w0 := setFld (word 4) 20 4 0
  let n := min 12 (2 * hdrLen h)
  let e : Ent := { uid := s.nextId, unit := x.slot, wrap := false, hdr := bits w0.toNat 0 32,
                   words := (List.range n).map (fun i => (i, if i = 0 then w0 else word (4 + i))),
                   ph := .admitted, fwdTen := ten, fwdSeq := fld (word 0) 16 16 }
  let s1 := { s with nextId := s.nextId + 1 }.updQueue q (fun g => { g with ents := g.ents ++ [e] })
  let done := fun st info (res : Word) => ((s1.finish q e.uid st info res 0).pumpQ q)
  if !s.fwdEn ∨ s.mode = .quiesce ∨ !s.dataNow then done 0x1C e.noCsum 0
  else if entryFail (e.w 0) (e.w 1) ∨ e.opc < 1 ∨ 10 < e.opc then done 0x17 e.noCsum 0
  else
    match judgeAt true s1 q { s1.queue q with tenant := ten } e with
    | .done st info res => done st info res
    | .down _ => done 0x14 e.noCsum 0
    | .fwd _ j | .run j =>
      let s2 := s1.updStn (fun x => { x with executed := (x.executed + 1) % 2 ^ 32 })
      ({ s2 with jobs := Tbl.put e.uid { j with fwdFrom := some (x.o, x.slot) } s2.jobs }).pumpQ q

/-- A line of a slot was read. -/
def State.fwdRdEnd (s : State) (o slot k : Nat) (res : Res) : State :=
  match s.stn.ins.find? (fun x => x.o == o && x.slot == slot) with
  | none => s
  | some x =>
    let x1 : FwdIn := match res with
      | .good l => { x with left := x.left - 1, got := x.got ++ [(k, l)] }
      | .bad _ => { x with left := x.left - 1, bad := true }
    let rest := s.stn.ins.filter (fun y => !(y.o == o && y.slot == slot))
    if x1.left ≠ 0 then s.updStn (fun y => { y with ins := rest ++ [x1] })
    else
      let s1 := s.updStn (fun y => { y with ins := rest })
      if x1.bad then s1 else s1.fwdRun x1

/-- The return record has been written: ring the originator (R365). -/
def State.retWrEnd (s : State) (q uid : Nat) : State :=
  let slot := (((s.queue q).ents.find? (fun (e : Ent) => e.uid == uid)).map (·.unit)).getD 0
  ((s.entDone q uid).queueOwn (notifyFrame s (q - 0xC200) 2 slot)).pumpQ q

/-! ### Relay and events -/

def State.notifyRelay (s : State) (f : Word) : State :=
  if !frameOk f ∨ fType f ≠ 3 ∨ !s.peerIn ∨ fDest f = s.stn.id then s
  else s.relay f

/-- The event a received PEER_EVENT frame carries, where this Station samples it (R357, R369). -/
def State.eventIn (s : State) (f : Word) : Option (Nat × Nat) :=
  if frameOk f ∧ fType f = 4 ∧ s.peerOpen ∧ fOrigin f ≠ s.stn.id ∧ s.isOn domDSP then some (fld f 16 8, fOrigin f) else none

def State.eventRelay (s : State) (f : Word) : State :=
  if frameOk f ∧ fType f = 4 ∧ s.peerIn ∧ fOrigin f ≠ s.stn.id then s.relay f else s

/-- STN_EVSEND (R369): false where it is refused. -/
def State.evsend (s : State) (num : Nat) : State × Bool :=
  if !s.peerOpen ∨ 16 ≤ s.stn.own.length then (s, false) else (s.queueOwn (eventFrame s num), true)

/-! ### STN registers (R370) -/

def State.stnMap (s : State) : Nat := (Tbl.keys s.stn.seen).foldl (fun a k => a ||| 2 ^ k) (2 ^ s.stn.id)

def State.stnRead (s : State) (off : Nat) : Word :=
  let x := s.stn
  if off = 0 then s.stnCtl
  else if off = 8 then
    mkWord [(0, 4, x.id), (4, 1, b2n x.aligned), (5, 1, b2n x.holdover), (6, 1, b2n x.broken), (7, 1, b2n x.mismatch),
            (8, 1, b2n x.dup), (9, 1, b2n s.sbx.fpeer), (16, 16, s.stnMap), (32, 16, x.crcErrs)]
  else if off = 0x10 then mkWord (x.seen.map (fun p => (4 * p.1, 4, p.2.dist)))
  else if off = 0x18 then mkWord [(0, 32, unsign x.corr 32), (32, 16, unsign x.lastErr 16)]
  else if off = 0x20 then s.fwdq
  else if off = 0x28 then s.retq
  else if off = 0x30 then s.fwdCfg
  else if off = 0x40 then
    mkWord [(0, 16, (x.fwd.filter (fun o => o.quar.isNone)).length), (16, 16, x.failed), (32, 32, x.executed)]
  else 0

/-- A write to the STN page (R370): false where it is refused. -/
def State.stnWrite (s : State) (off : Nat) (data : Word) (strb : BitVec 8) : State × Bool :=
  let cfg := s.mode == .configure
  if off = 0 then
    let old := s.stnCtl
    let v := strobe old data strb
    let rwc := fbit v 0 != fbit old 0 || fld v 16 16 != fld old 16 16
    let need := fbit v 2 && !fbit old 2 && ((Tbl.get 0x60020 s.cfg).isNone || (Tbl.get 0x60028 s.cfg).isNone || fld s.fwdq 0 4 == 0)
    if (rwc && !cfg) || need then (s, false)
    else (s.setReg 0x60000 (mkWord [(0, 3, fld v 0 3), (4, 3, fld v 4 3), (16, 16, fld v 16 16)]), true)
  else if off = 8 then
    let c := fun (i : Nat) (b : Bool) => b && !(strb.toNat.testBit (i / 8) && fbit data i)
    (s.updStn (fun x => { x with broken := c 6 x.broken, mismatch := c 7 x.mismatch, dup := c 8 x.dup }), true)
  else if off = 0x20 then
    let old := s.fwdq
    let v := strobe old data strb
    let n := fld v 0 4
    if n < 4 ∨ 8 < n ∨ (fld v 12 40 ≠ fld old 12 40 ∧ s.fwdEn) then (s, false)
    else (s.setReg 0x60020 (mkWord [(0, 4, n), (12, 40, fld v 12 40)]), true)
  else if off = 0x28 then
    let old := s.retq
    let v := strobe old data strb
    if fld v 12 40 ≠ fld old 12 40 ∧ s.fwdEn then (s, false) else (s.setReg 0x60028 (mkWord [(12, 40, fld v 12 40)]), true)
  else if off = 0x30 then
    let v := strobe s.fwdCfg data strb
    let n := fld v 0 14
    if n = 0 ∨ 10000 < n then (s, false)
    else (s.setReg 0x60030 (mkWord [(0, 14, n), (20, 12, fld v 20 12), (32, 1, fld v 32 1), (40, 8, fld v 40 8)]), true)
  else if off = 0x38 then s.evsend (fld (strobe 0 data strb) 0 8)
  else (s, true)

end Sys2Proof.Machine
end

