-- ==== Sys2Proof/Machine/DataOps.lean ====
section
/-! DEFINITION. The commands of the data opcodes: admission of the oldest seen entry of a queue (R107 to R116, R127 to
R132, R138 to R151), and the timeout of WAIT_EVENT. -/

namespace Sys2Proof.Machine

/-- Places an admitted entry needs at once (R17, R28, R30, R159, R165): a Mover, its buffer units, index prefetch space, an
allocation and a quadrant. -/
def State.hasPlace (s : State) (j : Job) : Bool :=
  (s.moverFor (s.queue j.q).cls).isSome &&
  decide (s.unitsUsed + j.unitsFor ≤ 44) && s.idxFits j &&
  (j.op != 10 || (decide (s.groups < s.allocMax) && s.quadFor.isSome && !s.allocWaits j.adm))

/-- Admit an entry with its outcome known at once. -/
def State.admitDone (s : State) (q uid st info : Nat) (res : Word) : State :=
  ((s.setEnt q uid (fun e => { e with ph := .admitted })).finish q uid st info res 0).pumpQ q

/-- Admit the oldest seen entry of a submission queue, if it has this opcode and may be admitted. -/
def State.admitOp (s : State) (q op : Nat) : State :=
  let g := s.queue q
  match g.oldest with
  | none => s
  | some e =>
    if e.opc ≠ op ∨ e.bad.isSome ∨ g.dq ∨ !s.admissible q e then s
    else if entryFail (e.w 0) (e.w 1) then
      s.admitDone q e.uid 0x17 e.noCsum 0
    else match judgeEntry s q g e with
    | .done st info res => s.admitDone q e.uid st info res
    | .down p => (s.enterHeld q p).pumpQ q
    | .run j =>
      if !s.hasPlace j then
        let s1 := if (s.moverFor g.cls).isNone then s.setEnt q e.uid (fun e => { e with noPlace := true }) else s
        (if op = 10 then s1.wakeQuad true else s1).wakeMover
      else
        let s1 := s.setEnt q e.uid (fun e => { e with ph := .admitted })
        let s2 := (({ s1 with jobs := Tbl.put e.uid j s1.jobs }).pumpQ q).wakeMover
        if op = 10 then s2.wakeQuad false else s2
    | .fwd o j => s.forward q e o j

/-- Claim a ring slot for a Dispatch Queue entry, or test the claims of R96 for one that starts at admission. -/
def State.mayStartNow (s : State) (q : Nat) : Bool :=
  let g := s.queue q
  if g.dq then decide ((s.ring g.ring).claims < (s.ring g.ring).free) else s.claimOk g.ring

def State.takeSlot (s : State) (q : Nat) : State :=
  let g := s.queue q
  if g.dq then s.updRing g.ring (fun x => { x with claims := x.claims + 1 }) else s

/-- Admission of an entry that starts at once: NOP, LINK, FENCE, WAIT_EVENT (R84). -/
def State.admitPlain (s : State) (q op : Nat) (k : State → Ent → State) : State :=
  let g := s.queue q
  match g.oldest with
  | none => s
  | some e =>
    if e.opc ≠ op ∨ e.bad.isSome ∨ !s.admissible q e ∨ !g.earlierStarted e.uid ∨ g.st = .stopping then s
    else if !s.mayStartNow q then (if g.dq then s.dqLook q else s.enterBacked q)
    else if (if g.dq then dqEntryFail (e.w 0) else entryFail (e.w 0) (e.w 1)) ∨ bodyBad e then
      (s.takeSlot q).admitDone q e.uid 0x17 (if g.dq then 0x100 else 0) 0
    else k ((s.takeSlot q).setEnt q e.uid (fun e => { e with ph := .admitted })) e

def State.nopAdmit (s : State) (q : Nat) : State :=
  s.admitPlain q 0x11 (fun s e => (s.finish q e.uid 0 0 0 0).pumpQ q)

def State.linkAdmit (s : State) (q : Nat) : State :=
  s.admitPlain q 0x12 (fun s e => (s.finish q e.uid 0 0 (BitVec.ofNat 64 (fld (e.w 2) 0 20)) 0).pumpQ q)

/-- FENCE (R130): it starts at admission; its store waits for the entries before it. -/
def State.fenceAdmit (s : State) (q : Nat) : State :=
  s.admitPlain q 0x10 (fun s e =>
    let g := s.queue q
    let place : Option (Nat × Option Nat) :=
      if e.aux = 0 ∨ (g.dq ∧ !g.tdq) then some (e.aux, none)
      else match findWin s.wins g.tenant e.aux 8 with
        | none => none
        | some (_, w) => if !w.wr ∨ w.station ≠ s.stn.id then none else some (addOff e.aux w.offset, some w.port)
    match place with
    | none => (s.finish q e.uid 0x15 0x300 (e.w 1) 0).pumpQ q
    | some p =>
      if !g.dq && !s.portUp p.2 then (s.enterHeld q (p.2.getD 0)).pumpQ q
      else ((s.setEnt q e.uid (fun (x : Ent) => { x with stAt := p })).startEnt q e.uid).pumpQ q)

/-- WAIT_EVENT (R131): it starts at admission and holds later admissions. -/
def State.waitAdmit (s : State) (q : Nat) : State :=
  s.admitPlain q 0x14 (fun s e =>
    let w := e.w 2
    let s1 := s.startEnt q e.uid
    (s1.updQueue q (fun g => { g with
      wait := some (e.uid, fld w 0 2, fld w 8 8, fld w 16 4, s.tt.ticks, fld w 32 32) })).pumpQ q)

/-- Complete a waiting WAIT_EVENT. -/
def State.endWait (s : State) (q st : Nat) (res : Word) : State :=
  match (s.queue q).wait with
  | none => s
  | some w => ((s.updQueue q (fun g => { g with wait := none })).finish q w.1 st 0 res 0).pumpQ q

/-- An event sampled now completes the WAIT_EVENT entries that name it (R131). -/
def State.waitEvents (s : State) (kind num stn : Nat) : State :=
  (Tbl.keys (s.queues.filter (fun p => match p.2.wait with
    | some w => w.2.1 == kind && w.2.2.1 == num && (kind == 0 || w.2.2.2.1 == stn)
    | none => false))).foldl (fun s q => s.endWait q 0 (BitVec.ofNat 64 s.ns)) s

/-- TIMEOUT of a WAIT_EVENT: TIMEOUT tick boundaries have passed since its admission. -/
def State.waitTimeout (s : State) (q : Nat) : State :=
  match (s.queue q).wait with
  | some w =>
    let t := w.2.2.2.2.2
    if t ≠ 0 ∧ w.2.2.2.2.1 + t ≤ s.tt.ticks then s.endWait q 0x19 0 else s
  | none => s

def execCopy (q : Fin 8192) (s : State) : Host.Outcome State Fault Refusal := s.act (fun s => s.admitOp q 1)
def execFill (q : Fin 8192) (s : State) : Host.Outcome State Fault Refusal := s.act (fun s => s.admitOp q 2)
def execZero (q : Fin 8192) (s : State) : Host.Outcome State Fault Refusal := s.act (fun s => s.admitOp q 3)
def execCompare (q : Fin 8192) (s : State) : Host.Outcome State Fault Refusal := s.act (fun s => s.admitOp q 4)
def execCheck (q : Fin 8192) (s : State) : Host.Outcome State Fault Refusal := s.act (fun s => s.admitOp q 5)
def execMcopy (q : Fin 8192) (s : State) : Host.Outcome State Fault Refusal := s.act (fun s => s.admitOp q 6)
def execGather (q : Fin 8192) (s : State) : Host.Outcome State Fault Refusal := s.act (fun s => s.admitOp q 8)
def execScatter (q : Fin 8192) (s : State) : Host.Outcome State Fault Refusal := s.act (fun s => s.admitOp q 9)
def execGreduce (q : Fin 8192) (s : State) : Host.Outcome State Fault Refusal := s.act (fun s => s.admitOp q 10)
def execFence (q : Fin 8704) (s : State) : Host.Outcome State Fault Refusal := s.act (fun s => s.fenceAdmit q)
def execNop (q : Fin 8704) (s : State) : Host.Outcome State Fault Refusal := s.act (fun s => s.nopAdmit q)
def execLink (q : Fin 8704) (s : State) : Host.Outcome State Fault Refusal := s.act (fun s => s.linkAdmit q)
def execWaitEvent (q : Fin 8192) (s : State) : Host.Outcome State Fault Refusal := s.act (fun s => s.waitAdmit q)
def execWaitEventTimeout (q : Fin 8192) (s : State) : Host.Outcome State Fault Refusal := s.act (fun s => s.waitTimeout q)

end Sys2Proof.Machine
end

