-- ==== Sys2Proof/Machine/SignalBox.lean ====
section
/-! DEFINITION. The Signal Box (chapter 10): classes, latches, the memory log, fences, entry into SAFE, force and
injection, the SBX registers. -/

namespace Sys2Proof.Machine

/-! ### Classes (R277, R278) -/

/-- The stored class of a source, and its NOLOG bit. -/
def State.sevOf (s : State) (src : Nat) : Nat :=
  if 0x17A ≤ src then 4 else fld (s.sbx.sev.getD (src / 16) 0) (4 * (src % 16)) 3
def State.noLog (s : State) (src : Nat) : Bool := fbit (s.sbx.sev.getD (src / 16) 0) (4 * (src % 16) + 3)

/-- Sources whose floor is Halting. -/
def haltFloor (src : Nat) : Bool := (decide (0x160 ≤ src) && decide (src ≤ 0x166)) || [0x169, 0x16E, 0x16F].contains src

/-- A source has a row in the table of units that Containing fences (R280). -/
def hasUnit (src : Nat) : Bool :=
  decide (src ≤ 0x04F) || src == 0x058 || (decide (0x0A0 ≤ src) && decide (src ≤ 0x0A7)) || src == 0x167 ||
  [0x060, 0x061, 0x062, 0x064, 0x065].contains src ||
  (decide (0x0C0 ≤ src) && decide (src ≤ 0x0C7) && src != 0x0C6) || (decide (0x0E0 ≤ src) && decide (src ≤ 0x0E5)) ||
  src == 0x16A || (decide (0x100 ≤ src) && decide (src ≤ 0x103)) || src == 0x168 ||
  (decide (0x120 ≤ src) && decide (src ≤ 0x128)) || (decide (0x140 ≤ src) && decide (src ≤ 0x144)) || src == 0x16D || src == 0x16C

/-- The class stored when a class is written to a source, or `none` where the value is not permitted (R34, R278);
`maker`: a Maker session in FACTORY_TEST. -/
def sevStore (src old c : Nat) (maker : Bool) : Option Nat :=
  if 4 < c then none
  else if c = 4 ∧ !maker ∧ old ≠ 4 then none
  else if haltFloor src then some (if c = 4 then 4 else 3)
  else if c = 2 ∧ !hasUnit src then
    some (if src = 0x063 ∨ src = 0x16B ∨ (0x170 ≤ src ∧ src ≤ 0x179) then 1 else 3)
  else some c

/-- The class applied to a message (R33, R34, R278). -/
def State.applied (s : State) (m : Msg) : Nat :=
  let c := s.sevOf m.source
  let sixth := fun b => decide (6 ≤ popcount (s.sbx.fbank ||| 2 ^ b) 8) && !s.sbx.fbank.testBit b
  if c ≠ 2 then c
  else if m.source = 0x058 then (if 8 ≤ m.ctx then 1 else if sixth m.ctx then 3 else 2)
  else if 0x048 ≤ m.source ∧ m.source ≤ 0x04F then (if sixth (m.source - 0x048) then 3 else 2)
  else c

/-- The 128-bit message (R275). -/
def Msg.word (m : Msg) (cls : Nat) : Nat :=
  m.source % 2 ^ 10 + (m.kind % 64) * 2 ^ 10 + cls * 2 ^ 16 + (m.addr % 2 ^ 52) * 2 ^ 19 + (m.ctx % 65536) * 2 ^ 71 +
  (m.time % 2 ^ 32) * 2 ^ 87

/-! ### Latches, log and collector (R279, R282 to R284) -/

/-- Latch and count (R279, R282). -/
def State.latch (s : State) (m : Msg) (cls : Nat) : State :=
  let b := s.sbx
  let b1 := { b with
    raw := setAt (m.source / 64) ((b.raw.getD (m.source / 64) 0) ||| BitVec.ofNat 64 (2 ^ (m.source % 64))) b.raw,
    counts := Tbl.put m.source (min (2 ^ 32 - 1) (Tbl.getD m.source 0 b.counts + 1)) b.counts }
  let b2 := match b.first with
    | none => { b1 with first := some (m.word cls), worst := cls }
    | some _ => { b1 with worst := max b.worst cls, ovf := true, ovfCount := min (2 ^ 32 - 1) (b.ovfCount + 1),
                          ovfLast := m.source }
  { s with sbx := b2 }

/-- SBX_LOGBASE. -/
def State.logCfg (s : State) : Word := s.reg 0x20600 0

/-- Records of the memory log leave as control traffic (R283); in SAFE and OFF, and under deep parking, they wait.
DESIGN CHOICE (log 92): an index beyond a ring made smaller counts modulo its size. -/
def State.logPump (s : State) : State :=
  if s.mode = .safe ∨ s.mode = .off ∨ !s.isOn domQM ∨ s.pwr.parked = 2 ∨ !fbit s.logCfg 0 then s
  else
    let base := fld s.logCfg 12 40 * 4096
    let n := 2 ^ fld s.logCfg 1 5
    s.sbx.logBuf.foldl (fun s w =>
      let b := s.sbx
      let i := b.logWr % n
      let s1 := { s with sbx := { b with
        logBuf := b.logBuf.drop 1, logSeq := b.logSeq + 1, logOut := b.logOut + 1,
        logWr := if i + 1 ≥ n then 0 else i + 1, logWrap := if i + 1 ≥ n then !b.logWrap else b.logWrap } }
      s1.engCtl 0xC301 0xC301 false [wrBytes (base + 16 * i) (leBytes 16 (w % 2 ^ 119 + (b.logSeq % 512) * 2 ^ 119))] ⟨.faultLog, 0, 0⟩) s

/-- A message for the memory log. -/
def State.logMsg (s : State) (w : Nat) : State :=
  if !fbit s.logCfg 0 then s
  else if 64 ≤ s.sbx.logBuf.length then { s with sbx := { s.sbx with logDrop := min 65535 (s.sbx.logDrop + 1) } }
  else { s with sbx := { s.sbx with logBuf := s.sbx.logBuf ++ [w] } }.logPump

def msgSev (w : Nat) : Nat := bits w 16 3

/-- A message for the chip-level collector (R284). -/
def fltPush (q : List Nat) (w : Nat) : List Nat :=
  let urgent := q.takeWhile (fun x => decide (3 ≤ msgSev x))
  let rest := q.dropWhile (fun x => decide (3 ≤ msgSev x))
  if msgSev w < 3 then (if q.length < 16 then q ++ [w] else q)
  else if q.length < 16 then urgent ++ [w] ++ rest
  else if rest.isEmpty then q else urgent ++ [w] ++ rest.dropLast

/-! ### Fences (R32, R33, R161, R280, R443) -/

def State.anyFenced (s : State) : Bool := s.sbx.fxa != 0 || s.sbx.fmv != 0 || s.sbx.fbank != 0 || s.sbx.frq != 0

def State.degrade (s : State) : State := if s.mode = .run then { s with mode := .degraded } else s

/-- The work item ends, or moves to another Mover (R32). -/
def State.fenceItem (s : State) (wid : Nat) : State :=
  match Tbl.get wid s.works with
  | none => s
  | some w =>
    if w.who = 0 then
      let s1 := s.fenceWork wid
      match Tbl.get w.uid s1.jobs with
      | some j => s1.pumpQ j.q
      | none => s1
    else if w.who = 1 then (s.chMoverFence wid).chPump w.which
    else if w.who = 2 ∨ w.who = 6 then (s.tFence wid).tPump w.which
    else s.engFence wid

def State.fenceMover (s : State) (m : Nat) : State :=
  let s1 := { s with sbx := { s.sbx with fmv := s.sbx.fmv ||| 2 ^ m } }
  let ws := (s1.works.filter (fun p => p.2.mover == some m)).map (·.1)
  (ws.foldl State.fenceItem s1).degrade

/-- An attachment is fenced: lines not yet issued are presented again, ahead of their work item's other bursts. -/
def State.fenceXa (s : State) (n : Nat) : State :=
  let s1 := { s with sbx := { s.sbx with fxa := s.sbx.fxa ||| 2 ^ n } }
  let mine := s1.granted.filter (fun b => b.xa == n)
  let s2 := mine.foldl State.ungrant s1
  let s3 := { s2 with bursts := mine.map (fun b => { b with front := true, xa := 0, rs := false }) ++ s2.bursts }
  let dead := (Tbl.keys s3.queues).filter (fun q => !s3.setAlive (s3.queue q).xset)
  let s4 := dead.foldl State.holdDead s3
  let chs := (Tbl.keys s4.chn.chans).filter (fun c => !s4.setAlive (s4.chan c).xset && (s4.chan c).st == ChSt.active)
  (chs.foldl (fun s c => s.updChan c (fun x => { x with st := ChSt.parked })) s4).degrade

/-- Whether a work item holds data in the data group (R28): source lines in read reorder that are not on their way to a
destination, tables, accumulators; store-and-forward data lies in the state group. DEDUCED (log 93): each partition is
striped over every bank of the group, so such an item holds data in each. -/
def State.holdsData (s : State) (wid : Nat) (w : Work) : Bool :=
  if w.who = 0 then
    match Tbl.get w.uid s.jobs with
    | none => false
    | some j =>
      let at_ := fun (g : Nat × Nat × Line) => g.2.1 * 64 - (j.src g.1).fa
      if j.op = 10 ∨ j.op = 8 ∨ j.op = 9 then !j.got.isEmpty || !w.acc.isEmpty
      else if j.op = 4 then j.got.any (fun g => decide (w.lo ≤ at_ g) && decide (at_ g < w.hi) &&
        (j.line (1 - g.1) ((j.src (1 - g.1)).fa / 64 + (at_ g) / 64)).isNone)
      else if j.stream then
        let done := w.wrIss.foldl min w.hi
        j.got.any (fun g => decide (done ≤ at_ g) && decide (w.lo ≤ at_ g) && decide (at_ g < w.hi))
      else false
  else if w.who = 1 then
    (s.chan w.which).reqs.any (fun r => r.d == w.uid && !r.got.isEmpty && !(r.ph == 2 && r.todo.isEmpty && !r.busy))
  else if w.who = 2 then (s.tw w.which).copies.any (fun c => c.wid == wid && !c.got.isEmpty && !c.wrSent)
  else false

/-- A data bank is fenced: the items that held data in it end as at a fence of their Mover (R32). -/
def State.fenceBank (s : State) (b : Nat) : State :=
  if s.sbx.fbank.testBit b then s
  else
    let s1 := { s with sbx := { s.sbx with fbank := s.sbx.fbank ||| 2 ^ b } }
    let ws := (s1.works.filter (fun p => s1.holdsData p.1 p.2)).map (·.1)
    (ws.foldl State.fenceItem s1).degrade

def State.fenceQuad (s : State) (q : Nat) : State :=
  let s1 := { s with sbx := { s.sbx with frq := s.sbx.frq ||| 2 ^ q } }
  let ws := (s1.works.filter (fun p => p.2.quad == some q)).map (·.1)
  (ws.foldl (fun s w => s.moveGroup w) s1).degrade

/-- Keep only the messages a step raised after its first one: a fence by the Signal Box raises no second message. -/
def dropRaise (old new : State) : State :=
  { new with sbx := { new.sbx with inbox := old.sbx.inbox ++ new.sbx.inbox.drop (old.sbx.inbox.length + 1) } }

def State.fenceChan (s : State) (c : Nat) : State :=
  if (s.chan c).st = .disabled ∨ (s.chan c).st = .fenced then s else (dropRaise s (s.chFence c 0)).chPump c

/-- A Transit window goes to FAILED, unless its rebind request has been issued (R184, R280). -/
def State.fenceWin (s : State) (w : Nat) : State :=
  let t := s.tw w
  if t.ph = .idle ∨ t.ph = .failed ∨ t.ph = .close ∨ t.ending.isSome then s
  else if (t.conj.map (fun c => c.rebind.isSome)).getD false then s
  else dropRaise s (s.tFail w 0)

/-- STOP of a service slot without a command. -/
def State.stopSlot (s : State) (sv slot : Nat) : State :=
  (s.bgStop [mkWord [(0, 4, sv), (8, 6, slot)]] (0x3000, 0)).getD s

/-- The fence of a Containing message (R280). -/
def State.fence (s : State) (src ctx : Nat) : State :=
  if src ≤ 0x03F then s.fenceMover src
  else if src ≤ 0x047 then s.fenceXa (src - 0x040)
  else if src ≤ 0x04F then s.fenceBank (src - 0x048)
  else if src = 0x058 then s.fenceBank (ctx % 8)
  else if 0x0A0 ≤ src ∧ src ≤ 0x0A7 then s.fenceQuad ((src - 0x0A0) % 4)
  else if src = 0x167 then [0, 1, 2, 3].foldl State.fenceQuad s
  else if src = 0x060 ∨ src = 0x061 then ((s.boundQ ctx).map (·.1)).foldl State.fenceQ s
  else if src = 0x062 ∨ src = 0x064 ∨ src = 0x065 then s.fenceQ ctx
  else if 0x0C0 ≤ src ∧ src ≤ 0x0C7 then (if ctx < 8 then s.fenceWin ctx else s)
  else if 0x0E0 ≤ src ∧ src ≤ 0x0E5 then s.fenceChan ctx
  else if src = 0x16A then (Tbl.keys s.chn.chans).foldl State.fenceChan { s with sbx := { s.sbx with fchn := true } }
  else if (0x100 ≤ src ∧ src ≤ 0x103) ∨ src = 0x168 then { s with sbx := { s.sbx with fdsp := true } }
  else if 0x120 ≤ src ∧ src ≤ 0x123 then s.stopSlot 1 (ctx % 64)
  else if 0x124 ≤ src ∧ src ≤ 0x126 then { s with bgs := { s.bgs with calOff := true } }
  else if src = 0x127 then s.stopSlot 3 0
  else if src = 0x128 then (if ctx < 8 then s.stopSlot 2 ctx else s)
  else if (0x140 ≤ src ∧ src ≤ 0x144) ∨ src = 0x16D then { s with sbx := { s.sbx with fpeer := true } }
  else if src = 0x16C then { s with sbx := { s.sbx with ftrc := true } }
  else s

/-! ### SAFE (R285 to R288, R246) -/

/-- STOPPING ends once nothing is outstanding (R286). -/
def State.safeSettle (s : State) : State :=
  if s.mode = .safe ∧ s.sbx.sub = 1 ∧ s.txns.isEmpty then
    { s with sbx := { s.sbx with sub := if s.sbx.terminal then 3 else 2, ack := true,
                                 ackUs := min 65535 ((s.clk - s.sbx.entered) / 1000000) } }
  else s

/-- Enter SAFE: requests and grants stop, every fence line drops what has not been issued (R285 to R288). -/
def State.enterSafe (s : State) (cause source : Nat) (term : Bool) : State :=
  if s.mode = .off then { s with sbx := { s.sbx with terminal := s.sbx.terminal || term } }
  else if s.mode = .safe then
    let t := s.sbx.terminal || term
    { s with sbx := { s.sbx with terminal := t, sub := if t && s.sbx.sub == 2 then 3 else s.sbx.sub } }
  else
    { s with
      mode := .safe, bursts := [], granted := [], holds := [],
      pwr := { s.pwr with trans := none },
      stn := { s.stn with relay := [], own := [] },
      sbx := { s.sbx with sub := 1, cause := cause, source := source, entered := s.clk, ackUs := 0, lost := false,
                          terminal := s.sbx.terminal || term, fltN := false, ack := false } }

/-- Sources whose trips act through the hardwired path (R290); a forced message of one (KIND 0x3F) is no trip. -/
def hardwired (src : Nat) : Bool := [0x166, 0x169, 0x16E, 0x16F].contains src || (decide (0x17C ≤ src) && decide (src ≤ 0x17F))

/-- A message reaches the Signal Box (R279, R281, R285, R290). -/
def State.sbxTake (s : State) (m : Msg) : State :=
  let c := s.applied m
  let s1 := s.latch m c
  let w := m.word c
  let s2 := if s.noLog m.source ∧ c < 3 then s1
    else
      let s2 := s1.logMsg w
      { s2 with sbx := { s2.sbx with fltq := fltPush s2.sbx.fltq w } }
  if s.mode = .safe ∨ s.mode = .off then (if c = 4 then s2.enterSafe 0 m.source true else s2)
  else
    let ctl := s.reg 0x20000 0
    if c = 0 then s2
    else if c ≤ 2 then
      let s3 := if fbit ctl 11 then s2.irqDue (some (fld ctl 0 11)) else s2
      if c = 2 then s3.fence m.source m.ctx else s3
    else s2.enterSafe (if hardwired m.source ∧ m.kind ≠ 0x3F then 3 else 0) m.source (c == 4)

/-- The message of the inbox handled next: the lowest source, the earliest of its kind (R276). -/
def State.nextMsg (s : State) : Option Msg := argmin (fun (m : Msg) => m.source) s.sbx.inbox

/-- Remove the first occurrence. -/
def rmMsg (m : Msg) : List Msg → List Msg
  | [] => []
  | a :: t => if a = m then t else a :: rmMsg m t

/-- FAULT_MESSAGE: a detector's report, or the next one waiting. A stuck detector reports nothing (R295). -/
def State.faultMessage (s : State) (det : Option Detection) : State :=
  match (match det with
    | some d => some ({ source := d.source, kind := d.kind.toNat, addr := d.addr.toNat, ctx := d.context.toNat, time := s.ns } : Msg)
    | none => s.nextMsg) with
  | none => s
  | some m =>
    let s1 := if det.isSome then s else { s with sbx := { s.sbx with inbox := rmMsg m s.sbx.inbox } }
    if s.sbx.stuck = some m.source ∧ m.kind ≠ 0x3F then
      { s1 with sbx := { s1.sbx with inj := s1.sbx.inj ||| BitVec.ofNat 64 (2 ^ 26) } }
    else s1.sbxTake m

/-- Outstanding transactions are declared lost without report at ABSORB (R286). -/
def State.safeAbsorbEnd (s : State) : State :=
  if s.mode = .safe ∧ s.sbx.sub = 1 then
    let at_ := s.sbx.entered + fld (s.reg 0x20400 90) 0 7 * 1000000
    let s1 := s.reach at_
    { s1 with txns := [], sbx := { s1.sbx with lost := s1.sbx.lost || !s1.txns.isEmpty } }
  else s

/-! ### Force and injection (R293 to R295) -/

/-- The role of the session on the register path, for the journal entries of forces and injections. -/
def State.regRole (s : State) : Nat := ((Tbl.get 0 s.dct.sess).map (·.role)).getD 0

/-- Force bits: each is judged alone; false where one of them raises nothing. -/
def State.sbxForceBits (s : State) (k : Nat) (data : Word) : State × Bool :=
  let v : Nat := data.toNat
  (List.range 64).foldl (fun (r : State × Bool) i =>
    if !v.testBit i then r
    else
      let src := 64 * k + i
      let s := r.1
      if 3 ≤ s.sevOf src ∧ s.sbx.key ≠ 2 then (s, false)
      else ((s.journalE 4 0 s.regRole 0 0 src 0 0).sbxTake { source := src, kind := 0x3F, time := s.ns }, r.2)) (s, true)

/-- Any other write to the SBX page restarts the arming sequence (R294). -/
def State.keyTouch (s : State) : State := if s.sbx.key = 1 then { s with sbx := { s.sbx with key := 0 } } else s

def State.testkey (s : State) (data : Word) (strb : BitVec 8) : State :=
  let c := fld (strobe 0 data strb) 0 16
  if c = 0x5AFE then { s with sbx := { s.sbx with key := if s.sbx.key = 2 then 2 else 1 } }
  else if c = 0xA501 ∧ s.sbx.key = 1 then { s with sbx := { s.sbx with key := 2, keyAt := s.clk } }
  else s.keyTouch

def State.testkeyExpiry (s : State) : State :=
  if s.sbx.key = 2 then
    let s1 := s.reach (s.sbx.keyAt + 1000000000)
    { s1 with sbx := { s1.sbx with key := 0 } }
  else s

/-- An injection has acted. -/
def State.injDone (s : State) : State :=
  { s with sbx := { s.sbx with inj := (s.sbx.inj &&& ~~~(BitVec.ofNat 64 (2 ^ 25))) ||| BitVec.ofNat 64 (2 ^ 26) } }

/-- The armed injection, where the event is one it can act on: Mover datapath at a burst of that Mover, attachment
datapath at a burst there, a bank at its next read (R295). -/
def State.injAct (s : State) (mover xa : Option Nat) (bank : Bool) (ctx : Nat) : State :=
  let v := s.sbx.inj
  if !fbit v 25 then s
  else
    let k := fld v 0 4
    let u := fld v 4 6
    if k = 1 ∧ mover = some u then (s.raise (u % 64) 1 0 ctx).injDone
    else if k = 2 ∧ xa = some u then
      let f := s.freeVal
      ((f.2).raise (0x040 + u % 8) (f.1 % 64) 0 ctx).injDone
    else if (k = 3 ∨ k = 4) ∧ bank then
      let f := s.freeVal
      ((f.2).raise (if k = 3 then 0x058 else 0x048 + u % 16) 0 (f.1 % 2 ^ 21) (u % 16)).injDone
    else s

/-- A write to SBX_INJ in a window of R295: false where it is refused. `ft`: FACTORY_TEST with a Maker session. -/
def State.injWrite (s : State) (data : Word) (strb : BitVec 8) (ok ft : Bool) : State × Bool :=
  let old := s.sbx.inj
  let v := strobe old data strb
  let k := fld v 0 4
  if !ok ∨ s.sbx.key ≠ 2 ∨ k = 0 ∨ 7 < k ∨ (5 < k ∧ !ft) then (s, false)
  else
    let done := fbit old 26 && !(strb.toNat.testBit 3 && fbit data 26)
    let arm := strb.toNat.testBit 3 && fbit data 25
    let w := mkWord [(0, 25, fld v 0 25), (25, 1, b2n (fbit old 25 || arm)), (26, 1, b2n done)]
    let s1 := { s with sbx := { s.sbx with inj := w, stuck := if k = 6 then s.sbx.stuck else none } }
    let s2 := s1.journalE 4 0 s1.regRole 0 0 (512 + k) 0 0
    if !arm then (s2, true)
    else if k = 5 then ((s2.sbxTake { source := fld w 10 9, time := s2.ns }).injDone, true)
    else if k = 6 then ({ s2 with sbx := { s2.sbx with stuck := some (fld w 10 9), inj := s2.sbx.inj &&& ~~~(BitVec.ofNat 64 (2 ^ 25)) } }, true)
    else if k = 7 then
      let f := s2.freeVal
      (((f.2).sbxTake { source := 0x17C + f.1 % 4, time := s2.ns }).injDone, true)
    else (s2, true)

/-! ### SBX registers (R299) -/

def State.firstWord (s : State) (hi : Bool) : Word :=
  let w := s.sbx.first.getD 0
  BitVec.ofNat 64 (if hi then w / 2 ^ 64 else w % 2 ^ 64)

def State.sbxStatus (s : State) : Word :=
  let b := s.sbx
  mkWord [(0, 3, b.worst), (3, 1, b2n b.first.isSome), (4, 1, b2n (s.mode == .safe)), (5, 1, b2n (b.sub == 3)),
          (6, 1, b2n b.bypass), (16, 16, b.logWr), (32, 1, b2n b.logWrap), (48, 16, b.logDrop)]

def State.safeStat (s : State) : Word :=
  let b := s.sbx
  mkWord [(0, 3, b.sub), (3, 2, b.cause), (8, 9, b.source), (32, 16, b.ackUs), (48, 1, b2n b.lost)]

def State.sbxRead (s : State) (off : Nat) : Word :=
  let b := s.sbx
  if off = 0 then s.reg 0x20000 0
  else if off = 8 then s.sbxStatus
  else if off = 0x10 then s.firstWord false
  else if off = 0x18 then b.hi.getD (s.firstWord true)
  else if off = 0x20 then mkWord [(0, 1, b2n b.ovf), (16, 32, b.ovfCount), (48, 9, b.ovfLast)]
  else if 0x100 ≤ off ∧ off < 0x1C0 then
    let k := (off - 0x100) / 8
    b.sev.getD k 0
  else if 0x300 ≤ off ∧ off < 0x330 then b.raw.getD ((off - 0x300) / 8) 0
  else if off = 0x400 then s.reg 0x20400 90
  else if off = 0x408 then s.safeStat
  else if off = 0x500 then mkWord [(16, 1, b2n (b.key == 2))]
  else if off = 0x508 then b.inj
  else if off = 0x600 then s.logCfg
  else 0

/-- A read of SBX_FIRST_LO freezes SBX_FIRST_HI until it is read (R12). -/
def State.sbxReadEff (s : State) (off : Nat) : State :=
  if off = 0x10 then { s with sbx := { s.sbx with hi := some (s.firstWord true) } }
  else if off = 0x18 then { s with sbx := { s.sbx with hi := none } } else s

/-- A write to SBX_SEVk (R278): the new word, and whether every field of it was permitted. -/
def sevWord (k : Nat) (old v : Word) (maker : Bool) : Word × Bool :=
  (List.range 16).foldl (fun (r : Word × Bool) i =>
    let src := 16 * k + i
    let o := fld old (4 * i) 3
    let c := fld v (4 * i) 3
    let w1 := setFld r.1 (4 * i + 3) 1 (fld v (4 * i + 3) 1)
    if 0x17A ≤ src then (w1, r.2)
    else match sevStore src o c maker with
      | some d => (setFld w1 (4 * i) 3 d, r.2)
      | none => (w1, r.2 && c == o)) (old, true)

/-- FIRST_VALID is cleared (R282). -/
def State.firstClear (s : State) : State :=
  { s with sbx := { s.sbx with first := none, worst := 0, ovf := false, ovfCount := 0, ovfLast := 0, hi := none } }

/-- A write to the SBX page, WARM_RESET apart (R299); `maker`: a Maker session in FACTORY_TEST; `injOk`: a window of
R295 with its session. -/
def State.sbxWrite (s0 : State) (off : Nat) (data : Word) (strb : BitVec 8) (maker injOk : Bool) : State × Bool :=
  if off = 0x500 then (s0.testkey data strb, true)
  else
  let s := s0.keyTouch
  if off = 0 then
    let old := s.reg 0x20000 0
    let v := strobe old data strb
    (s.setReg 0x20000 (mkWord [(0, 12, fld v 0 12), (16, 1, b2n (fbit old 16 || fbit v 16))]), true)
  else if off = 8 then (if strb.toNat.testBit 0 ∧ fbit data 3 then s.firstClear else s, true)
  else if 0x100 ≤ off ∧ off < 0x1C0 then
    let k := (off - 0x100) / 8
    let old := s.sbx.sev.getD k 0
    let r := sevWord k old (strobe old data strb) maker
    if fbit (s.reg 0x20000 0) 16 then (s, strobe old data strb == old)
    else
      ({ s with sbx := { s.sbx with sev := setAt k r.1 s.sbx.sev } }, r.2)
  else if 0x200 ≤ off ∧ off < 0x230 then
    if s.mode = .safe ∨ s.mode = .off then (s, false)
    else s.sbxForceBits ((off - 0x200) / 8) (strobe 0 data strb)
  else if 0x300 ≤ off ∧ off < 0x330 then
    let k := (off - 0x300) / 8
    ({ s with sbx := { s.sbx with raw := updAt k (fun r => r &&& ~~~(strobe 0 data strb)) s.sbx.raw } }, true)
  else if off = 0x400 then
    let v := strobe (s.reg 0x20400 90) data strb
    if fld v 0 7 < 10 ∨ 90 < fld v 0 7 then (s, false) else (s.setReg 0x20400 (BitVec.ofNat 64 (fld v 0 7)), true)
  else if off = 0x508 then s.injWrite data strb injOk maker
  else if off = 0x600 then
    let old := s.logCfg
    let v := strobe old data strb
    let n := fld v 1 5
    if (fbit old 0 ∧ (n ≠ fld old 1 5 ∨ fld v 12 40 ≠ fld old 12 40)) ∨ (n ≠ fld old 1 5 ∧ (n < 6 ∨ 16 < n)) ∨ (fbit v 0 ∧ n < 6) then (s, false)
    else
      let s1 := s.setReg 0x20600 (mkWord [(0, 6, fld v 0 6), (12, 40, fld v 12 40)])
      (if fbit v 0 ∧ !fbit old 0 then { s1 with sbx := { s1.sbx with logSeq := 0 } } else s1, true)
  else (s, true)

end Sys2Proof.Machine
end

