-- ==== Sys2Proof/Machine/Sha.lean ====
section
/-! DEFINITION. SHA-256 and HMAC-SHA-256 as the standards table of the scope chapter names them (FIPS 180-4, FIPS 198-1):
the session proofs (R348) and the Dallor records (R308, R312) use them. The constants are computed from their definition,
the fractional parts of roots of the first primes, and the eight working variables are kept as two histories of four. -/

namespace Sys2Proof.Machine

namespace Sha

/-- Words are 32 bits wide. -/
def wide : Nat := 0x100000000

/-- The first 64 primes: what no prime below 18 divides properly. -/
def primes : List Nat :=
  (List.range 312).filter (fun n => decide (2 ≤ n) && [2, 3, 5, 7, 11, 13, 17].all (fun d => n % d != 0 || n == d))

/-- Bits k − 1 to 0 of the floor of the e-th root of n, onto the bits found already. -/
def rootFrom (e n : Nat) : Nat → Nat → Nat
  | 0, r => r
  | k + 1, r => rootFrom e n k (if (r + 2 ^ k) ^ e ≤ n then r + 2 ^ k else r)

/-- 32 bits of the fractional part of the e-th root of p. -/
def fracRoot (e p : Nat) : Nat := rootFrom e (p * wide ^ e) 37 0 % wide

/-- The round constants, from cube roots; the initial hash value, from square roots of the first eight primes. -/
def constants : List Nat := primes.map (fracRoot 3)
def initial : List Nat := (primes.take 8).map (fracRoot 2)

/-- The XOR of a word turned right by each of some distances. -/
def turned (ds : List Nat) (x : Nat) : Nat := ds.foldl (fun a d => a ^^^ ((x * wide + x) / 2 ^ d % wide)) 0

/-- A schedule, newest word first, grown by n words. -/
def grow : Nat → List Nat → List Nat
  | 0, ws => ws
  | n + 1, ws =>
    let near := ws.getD 1 0
    let far := ws.getD 14 0
    let next := ws.getD 15 0 + ws.getD 6 0 + (turned [7, 18] far ^^^ far / 8) + (turned [17, 19] near ^^^ near / 1024)
    grow n (next % wide :: ws)

/-- A number of eight words of 32 bits as two histories of four, newest first. -/
abbrev Pair := List Nat × List Nat

/-- One round with the sum of its constant and its schedule word. -/
def turn (p : Pair) (kw : Nat) : Pair :=
  match p with
  | ([a, b, c, d], [e, f, g, h]) =>
    let pick := g ^^^ (e &&& (f ^^^ g))
    let most := (a &&& (b ||| c)) ||| (b &&& c)
    let t := h + turned [6, 11, 25] e + pick + kw
    ([(t + turned [2, 13, 22] a + most) % wide, a, b, c], [(d + t) % wide, e, f, g])
  | p => p

/-- The 32-bit words of some bytes, most significant byte first. -/
def bigWords (bs : List Nat) : List Nat :=
  (List.range (bs.length / 4)).map (fun i => ((bs.drop (4 * i)).take 4).foldl (fun a b => 256 * a + b) 0)

/-- The hash value after one block of 64 bytes. -/
def absorb (hash bs : List Nat) : List Nat :=
  let ws := (grow 48 (bigWords bs).reverse).reverse
  let p := ((constants.zip ws).map (fun x => x.1 + x.2)).foldl turn (hash.take 4, hash.drop 4)
  (hash.zip (p.1 ++ p.2)).map (fun x => (x.1 + x.2) % wide)

/-- A message closed by a one bit, zeros and its length, to whole blocks. -/
def closed (bs : List Nat) : List Nat :=
  bs ++ 0x80 :: (List.replicate (63 - (bs.length + 8) % 64) 0 ++ beBytes 8 (8 * bs.length))

end Sha

/-- SHA-256 of a byte string, 32 bytes. -/
def sha256 (bs : List Nat) : List Nat :=
  let msg := Sha.closed bs
  let hash := (List.range (msg.length / 64)).foldl (fun h i => Sha.absorb h ((msg.drop (64 * i)).take 64)) Sha.initial
  hash.flatMap (beBytes 4)

/-- HMAC-SHA-256 of a message under a key of at most 64 bytes, 32 bytes. -/
def hmac (key msg : List Nat) : List Nat :=
  let mask := fun (m : Nat) => (List.range 64).map (fun i => (key.getD i 0) ^^^ m)
  sha256 (mask 0x5C ++ sha256 (mask 0x36 ++ msg))

end Sys2Proof.Machine
end

