-- ==== Sys2Proof/Machine/Weigh.lean ====
section
/-! DEFINITION. The Weighbridge (chapter 11): the Metering Tap, counters, intervals, Dallor records, sealing, keys, the WBG
registers. -/

namespace Sys2Proof.Machine

def State.updWbg (s : State) (f : Wbg → Wbg) : State := { s with wbg := f s.wbg }

/-- Weighbridge time in ns. -/
def Wbg.ns (w : Wbg) : Nat := w.time / 1000

/-- A 256-bit number from 32 bytes, and back. -/
def hashNat (bs : List Nat) : Nat := leNat bs

/-- KCV: the first four bytes of HMAC-SHA-256 (key, "WBDL-KCV") (R312). -/
def kcvOf (key : Nat) : Nat := leNat ((hmac (leBytes 32 key) [0x57, 0x42, 0x44, 0x4C, 0x2D, 0x4B, 0x43, 0x56]).take 4)

/-! ### Records (R308) -/

/-- Bytes 0 to 24,671 of a record. -/
def WRec.body (r : WRec) : List Nat :=
  leBytes 4 0x4C444257 ++ leBytes 2 1 ++ [r.station % 16 + (r.kind % 16) * 16] ++
  [b2n r.sealed_ + 2 * b2n r.holdover + 4 * b2n r.tapLost + 8 * b2n r.tickChanged] ++
  leBytes 8 r.seq ++ leBytes 8 r.interval ++ leBytes 8 r.start ++ leBytes 8 r.end_ ++ leBytes 4 (r.ovh % 256) ++
  leBytes 4 r.lost ++ leBytes 4 r.tamper ++ leBytes 4 0x00010002 ++ leBytes 2 1 ++ [0, 0] ++ leBytes 4 r.tickNs ++
  ((List.range 2048).flatMap (fun k => leBytes 12 (Tbl.getD k 0 r.ctr))) ++ leBytes 32 r.prev

/-- All 24,704 bytes: the body and its TAG. -/
def WRec.bytes (r : WRec) : List Nat :=
  r.body ++ (match r.key with | some k => hmac (leBytes 32 k) r.body | none => leBytes 32 0)

/-- Word w of WBG_RECORD. -/
def WSlot.word (w : WSlot) (i : Nat) : Word :=
  match w.rec_ with
  | some r => if w.ready then BitVec.ofNat 64 (leNat ((r.bytes.drop (8 * i)).take 8)) else 0
  | none => 0

/-! ### Counting (R300 to R305) -/

/-- Byte quantities, which carry OVH per transaction. -/
def byteQty (q : Nat) : Bool := q == 0 || q == 1 || q == 4 || q == 7

/-- A raw event is well formed (R303, R304): parity, zero field, NTX. -/
def tapOk (e : Tap) : Bool :=
  let n := e.toNat
  (List.range 8).all (fun i => parity 8 (bits n (8 * i) 8) == bit n (64 + i)) && !bit n 3 &&
  (byteQty (bits n 0 3) || bits n 12 16 == 0)

/-- An event is received (R303, R304). DESIGN CHOICE (log 94): a pending entry of 48 bits (R305) saturates. -/
def State.tapEvent (s : State) (seen : Option Tap) (clocked : Bool) : State :=
  match s.tap, seen with
  | [], none => s
  | tap, seen =>
    let e : Tap := seen.getD (tap.head?.getD 0)
    let s1 := { s with tap := tap.drop 1 }
    let w := s.wbg
    if w.st = 2 then s1
    else if clocked ∧ tapOk e then
      let n := e.toNat
      let q := bits n 0 3
      let k := 8 * bits n 4 8 + q
      let a := bits n 28 36 + (if byteQty q then bits n 12 16 * w.ovh else 0)
      s1.updWbg (fun w => { w with pend := Tbl.put k (min (2 ^ 48 - 1) (Tbl.getD k 0 w.pend + a)) w.pend })
    else
      (s1.updWbg (fun w => { w with lost := min (2 ^ 32 - 1) (w.lost + 1), tapLost := true, ivTap := true })).raise0 0x171 0

/-! ### Slots and the chain (R307, R309, R310, R316) -/

/-- Put a record into the interval slot (R310). -/
def State.ivPut (s : State) (r : WRec) : State :=
  let w := s.wbg
  let miss := w.iv.rec_.isSome && !w.iv.acked
  let s1 := s.updWbg (fun w => { w with
    iv := { rec_ := some r, ready := false, acked := false },
    missed := if miss then min 65535 (w.missed + 1) else w.missed })
  if miss then s1.raise0 0x173 0 else s1

/-- The fields every record takes from the latch. -/
def State.wrec (s : State) (kind : Nat) : WRec :=
  let w := s.wbg
  { station := s.stn.id, kind := kind, sealed_ := w.st != 0, holdover := w.ivHold || !w.valid, tapLost := w.ivTap,
    tickChanged := w.ivTick, seq := w.seq, interval := w.n, start := w.ivStart, end_ := w.ns, ovh := w.ovh, lost := w.lost,
    tamper := w.tamper, ctr := w.ctr, prev := match w.last with | some r => hashNat (sha256 r.bytes) | none => 0,
    tickNs := 250 * 2 ^ s.tt.len, key := if w.st = 0 then none else w.key }

/-- A chain begins (R309): counters 0, the chain start record. -/
def State.chainStart (s : State) : State :=
  let s1 := s.updWbg (fun w => { w with
    chain := true, seq := 0, n := 0, ivStart := w.ns, ctr := [], pend := [], lost := 0, missed := 0, tamper := 0, lastKind := 0,
    ivHold := !w.valid, ivTap := false, ivTick := false, last := none })
  let r : WRec := { s1.wrec 3 with prev := 0, interval := 0 }
  (s1.updWbg (fun w => { w with last := some r })).ivPut r

/-- BROKEN (R316): counting stops; a KIND 0x4 record carries the counters of the last chained record. DEDUCED (log 101):
its SEQ is that of the last chained record and its INTERVAL the open one, as in a snapshot; with no chained record yet its
counters and PREV_HASH are zero; its TAG follows R316, the key held, also where SEALED is 0. -/
def State.wbgBreak (s : State) (source ctx : Nat) : State :=
  if s.wbg.st = 2 then s
  else
    let r0 := s.wrec 4
    let r : WRec := { r0 with ctr := (s.wbg.last.map (·.ctr)).getD [], key := s.wbg.key }
    ((s.updWbg (fun w => { w with st := 2, chain := false })).ivPut r).raise0 source ctx

/-- The VLT side drains the pending array (R305). -/
def State.tapDrain (s : State) (mismatch : Option (Fin 256)) : State :=
  match mismatch with
  | some t => s.wbgBreak 0x17A t.val
  | none =>
    if s.wbg.st = 2 then s
    else s.updWbg (fun w => { w with pend := [], ctr := w.pend.foldl (fun c p =>
      Tbl.put p.1 (min (2 ^ 96 - 1) (Tbl.getD p.1 0 c + p.2)) c) w.ctr })

/-- The end of the open interval (R307). -/
def State.intervalEnd (s : State) : State :=
  if !s.wbg.chain then s
  else
    let end_ := s.wbg.ivStart + s.wbg.secs * 1000000000
    let s1 := s.advance (end_ * 1000 - s.wbg.time)
    let r : WRec := { s1.wrec 1 with seq := s1.wbg.seq + 1, end_ := end_ }
    (s1.ivPut r).updWbg (fun w => { w with
      seq := w.seq + 1, n := w.n + 1, ivStart := end_, last := some r, ivHold := !w.valid, ivTap := false, ivTick := false })

/-- Forming of a record completes (R307, R310). -/
def State.recordReady (s : State) (snap : Bool) : State :=
  if snap then s.updWbg (fun w => { w with snap := { w.snap with ready := w.snap.rec_.isSome } })
  else s.updWbg (fun w => { w with iv := { w.iv with ready := w.iv.rec_.isSome } })

/-- A snapshot (R310): refused while one is being formed; none is formed once BROKEN. -/
def State.snapWrite (s : State) : State × Bool :=
  if s.wbg.snap.rec_.isSome ∧ !s.wbg.snap.ready then (s, false)
  else if s.wbg.st = 2 then (s, true)
  else (s.updWbg (fun w => { w with snap := { rec_ := some (s.wrec 2), ready := false } }), true)

def State.recAck (s : State) : State := s.updWbg (fun w => { w with iv := { w.iv with acked := w.iv.rec_.isSome } })

/-! ### Tamper, sealing, keys (R311 to R316, R397) -/

/-- A tamper attempt (R315); `who`: path, role, origin for the journal. The journal's reason code is LOCKED (R328) for a
register of a sealed Weighbridge, 0 for a key transfer. -/
def State.tamper (s : State) (kind : Nat) (who : Nat × Nat × Nat) : State :=
  ((s.updWbg (fun w => { w with tamper := min (2 ^ 32 - 1) (w.tamper + 1), lastKind := kind })).raise 0x170 kind 0 0).journalE
    5 who.1 who.2.1 who.2.2 (if kind = 4 then 0 else 9) kind 0 0

/-- A key transfer (R312, R397). -/
def State.keyTransfer (s : State) (bs : List Byte) : State :=
  let b := bs.map BitVec.toNat
  if s.wbg.keyStat = 1 ∨ s.wbg.keyStat = 3 then (s.updWbg (fun w => { w with keyStat := 3 })).tamper 4 (3, 4, 0)
  else if b.length = 36 ∧ crc32c 0 (b.take 32) = leNat (b.drop 32) then
    let k := leNat (b.take 32)
    let s1 := s.updWbg (fun w => { w with keyStat := 1, key := some k })
    if s.wbg.st = 1 ∧ !s.wbg.chain then
      (match s.wbg.cells with
       | some c => if c.2.2 = kcvOf k then s1.chainStart else s1.wbgBreak 0x17B 0
       | none => s1.wbgBreak 0x17B 0)
    else s1
  else s.updWbg (fun w => { w with keyStat := 2 })

/-- A gap ends a transfer as rejected. -/
def State.keyGap (s : State) : State :=
  if s.wbg.keyStat = 0 ∨ s.wbg.keyStat = 2 then s.updWbg (fun w => { w with keyStat := 2 }) else s

/-- No matching key 100 ms after the release of cold reset (R314). -/
def State.keyTimeout (s : State) : State :=
  if s.wbg.st = 1 ∧ !s.wbg.chain then (s.reach (s.wbg.relAt + 100000000000)).wbgBreak 0x17B 0 else s

/-- A write to WBG_SEALCTL (R313, R315); `ft`: a Maker session in FACTORY_TEST. DEDUCED (log 62): a tamper is answered with
the error response, as R12 and R442 answer any write of an RWM field that is discarded. -/
def State.sealctl (s : State) (data : Word) (strb : BitVec 8) (ft : Bool) (who : Nat × Nat × Nat) : State × Bool :=
  let c := fld (strobe 0 data strb) 0 16
  if s.wbg.st ≠ 0 then (s.tamper 3 who, false)
  else if !ft then (s.updWbg (fun w => { w with sealing := false }), false)
  else if c = 0x5EA1 then (s.updWbg (fun w => { w with sealing := true }), true)
  else if c = 0x0D1E ∧ s.wbg.sealing then
    match s.wbg.key with
    | none => (s.updWbg (fun w => { w with sealing := false }), false)
    | some k =>
      ((s.updWbg (fun w => { w with st := 1, sealing := false, cells := some (w.ovh, w.secs, kcvOf k) })).chainStart, true)
  else (s.updWbg (fun w => { w with sealing := false }), true)

/-- A write to WBG_OVH or WBG_INTERVAL (R315). -/
def State.wbgConfig (s : State) (interval : Bool) (data : Word) (strb : BitVec 8) (ft : Bool) (who : Nat × Nat × Nat) : State × Bool :=
  if s.wbg.st ≠ 0 then (s.tamper (if interval then 2 else 1) who, false)
  else if interval then
    let v := fld (strobe (BitVec.ofNat 64 s.wbg.secs) data strb) 0 17
    if v = s.wbg.secs then (s, true)
    else if !ft ∨ v = 0 ∨ 86400 < v then (s, false) else (s.updWbg (fun w => { w with secs := v }), true)
  else
    let v := fld (strobe (BitVec.ofNat 64 s.wbg.ovh) data strb) 0 8
    if v = s.wbg.ovh then (s, true)
    else if !ft then (s, false) else (s.updWbg (fun w => { w with ovh := v }), true)

/-- VLT against TIM, once a second (R306). -/
def State.vltCal (s : State) (khz : Nat) : State :=
  let s1 := { s with pwr := { s.pwr with clkMeas := Tbl.put 12 khz s.pwr.clkMeas } }
  if khz < 98000 ∨ 102000 < khz then s1.raise0 0x172 0 else s1

/-- The Weighbridge at cold reset (R423): the one-time cells keep what was sealed. -/
def Wbg.cold (w : Wbg) (now : Nat) : Wbg :=
  match w.cells with
  | none => { relAt := now }
  | some c => { st := 1, cells := w.cells, ovh := c.1, secs := c.2.1, relAt := now }

/-! ### WBG registers (R320) -/

def Wbg.state (w : Wbg) : Word :=
  mkWord [(0, 2, w.st), (2, 1, b2n w.key.isSome), (3, 1, b2n w.iv.ready), (4, 1, b2n w.iv.acked), (5, 1, b2n w.snap.ready),
          (6, 1, b2n (!w.valid)), (7, 1, b2n w.tapLost), (16, 32, w.n)]
def Wbg.loss (w : Wbg) : Word := mkWord [(0, 32, w.lost), (32, 16, w.missed)]
def Wbg.kcv (w : Wbg) : Nat := match w.key with | some k => kcvOf k | none => 0

def State.wbgRead (s : State) (off : Nat) : Word :=
  let w := s.wbg
  if off = 0 then 0x10002
  else if off = 8 then 1
  else if off = 0x10 then w.state
  else if off = 0x18 then BitVec.ofNat 64 w.ovh
  else if off = 0x20 then BitVec.ofNat 64 w.secs
  else if off = 0x28 then BitVec.ofNat 64 w.kcv
  else if off = 0x40 then BitVec.ofNat 64 (b2n w.sel)
  else if off = 0x50 then mkWord [(0, 32, w.tamper), (32, 4, w.lastKind)]
  else if off = 0x58 then w.loss
  else if off = 0x60 then BitVec.ofNat 64 w.ns
  else if 0x8000 ≤ off ∧ off < 0xE080 then (if w.sel then w.snap else w.iv).word ((off - 0x8000) / 8)
  else 0

/-- A write to the WBG page: any but the second sealing code ends a sealing sequence. -/
def State.wbgWrite (s : State) (off : Nat) (data : Word) (strb : BitVec 8) (ft : Bool) (who : Nat × Nat × Nat) : State × Bool :=
  if off = 0x30 then s.sealctl data strb ft who
  else
    let s := s.updWbg (fun w => { w with sealing := false })
    if off = 0x10 then
      (if strb.toNat.testBit 0 ∧ fbit data 7 then s.updWbg (fun w => { w with tapLost := false }) else s, true)
    else if off = 0x18 then s.wbgConfig false data strb ft who
    else if off = 0x20 then s.wbgConfig true data strb ft who
    else if off = 0x38 then s.snapWrite
    else if off = 0x40 then (if strb.toNat.testBit 0 then s.updWbg (fun w => { w with sel := fbit data 0 }) else s, true)
    else if off = 0x48 then (s.recAck, true)
    else (s, true)

end Sys2Proof.Machine
end

