-- ==== Sys2Proof/Machine/Roles.lean ====
section
/-! DEFINITION. Paths, roles and sessions (R343, R347 to R349), and journal entries made on behalf of a path (R350). -/

namespace Sys2Proof.Machine

/-- Number of a Dispatch Queue (R321). -/
def dqId : DqRef → Nat
  | .installer => 0x2000
  | .tenant t => 0x2100 + t.val

/-- Key of a path among sessions and nonces; PATH of a journal entry. -/
def pathKey : Path → Nat
  | .reg => 0
  | .mctp e => 1 + e.toNat
  | .dq d => dqId d
def pathCode : Path → Nat
  | .reg => 0
  | .mctp _ => 1
  | .dq _ => 2

/-- The tenant to which TENANT_SET maps an endpoint (R334). -/
def State.eidTenant (s : State) (e : Nat) : Option Nat :=
  (s.tenants.find? (fun p => p.2.enabled && fbit p.2.set0 56 && fld p.2.set0 48 8 == e)).map (·.1)

/-- The role of the session on a path, 0 for none. -/
def State.sessRole (s : State) (k : Nat) : Nat := ((Tbl.get k s.dct.sess).map (·.role)).getD 0

/-- The role with which a path acts (R347): 0 none, 1 Operator, 2 Installer, 3 Maker. -/
def State.role (s : State) : Path → Nat
  | .reg => s.sessRole 0
  | .mctp e => if s.sessRole (1 + e.toNat) ≠ 0 then s.sessRole (1 + e.toNat)
               else if (s.eidTenant e.toNat).isSome then 1 else 0
  | .dq .installer => 2
  | .dq (.tenant _) => 1

/-- The tenant an Operator acts for. -/
def State.operator (s : State) : Path → Option Nat
  | .reg => none
  | .mctp e => if s.sessRole (1 + e.toNat) ≠ 0 then none else s.eidTenant e.toNat
  | .dq .installer => none
  | .dq (.tenant t) => some t.val

/-- ORIGIN of a journal entry (R350). -/
def State.origin (s : State) (p : Path) : Nat :=
  match s.operator p with
  | some t => t
  | none => match p with | .mctp e => e.toNat | _ => 0

def State.who (s : State) (p : Path) : Nat × Nat × Nat := (pathCode p, s.role p, s.origin p)

/-- A journal entry for a path. -/
def State.jrn (s : State) (kind : Nat) (p : Path) (result target : Nat) (old new : Word) : State :=
  s.journalE kind (pathCode p) (s.role p) (s.origin p) result target old new

/-- An access on a path holds its session open (R349). -/
def State.touch (s : State) (p : Path) : State :=
  { s with dct := { s.dct with sess := Tbl.upd (pathKey p) (fun (x : Sess) => { x with last := s.clk }) s.dct.sess } }

/-- End the session of a path (R349); it is journalled. -/
def State.endSession (s : State) (p : Path) : State :=
  let r := s.sessRole (pathKey p)
  if r = 0 then s
  else
    let s1 := s.journalE 3 (pathCode p) r (match p with | .mctp e => e.toNat | _ => 0) 0 (r + 256) 0 0
    { s1 with dct := { s1.dct with sess := Tbl.del (pathKey p) s1.dct.sess } }

/-- End every session: of the register path, and of MCTP endpoints. -/
def State.endMctp (s : State) : State :=
  (Tbl.keys s.dct.sess).foldl (fun s k => if k = 0 then s else s.endSession (.mctp (BitVec.ofNat 8 (k - 1)))) s
def State.endAll (s : State) : State := s.endMctp.endSession .reg

/-- The idle limit of a session has passed (R349). -/
def State.idleEnd (s : State) (p : Path) : State :=
  match Tbl.get (pathKey p) s.dct.sess with
  | none => s
  | some x => (s.reach (x.last + s.dct.idleS * 10 ^ 12)).endSession p

/-- A Maker session in FACTORY_TEST on the register path. -/
def State.makerFt (s : State) : Bool := s.mode == .factoryTest && s.sessRole 0 == 3

/-- The answer of the register target. -/
def State.answer (s : State) (data : Word) (err : Bool) : State := { s with rsp := { rdata := data, err := err } }
def State.answerW (r : State × Bool) : State := r.1.answer 0 (!r.2)

/-! ### The audit journal's spill (R350, R351, R422) -/

/-- The Dispatch Processor can serve dictionary accesses. -/
def State.dspUp (s : State) : Bool := s.isOn domDSP && !s.sbx.fdsp

/-- The 32 bytes of an entry. -/
def JEnt.bytes (e : JEnt) : List Nat :=
  leBytes 8 e.time ++ [e.kind % 16 + (e.path % 4) * 16, e.role % 8, e.origin % 256, e.result % 256] ++ leBytes 4 e.target ++
  leBytes 8 e.old.toNat ++ leBytes 8 e.new.toNat

/-- Free slots of the spill ring ahead of ODW_JRD. -/
def State.jRoom (s : State) : Nat :=
  let n := 2 ^ fld s.jCfg 2 5
  let rd := s.reg 0x30208 0
  if s.dct.wrWrap = fbit rd 20 then n - (s.dct.wr - fld rd 0 20) else fld rd 0 20 - s.dct.wr

/-- The entries a group needs: 64, or any on the way to OFF (R422). -/
def State.spillMin (s : State) : Nat :=
  match s.pwr.trans with
  | some t => if t.target = 0 ∧ s.mode ≠ .safe then 1 else 64
  | none => 64

/-- Write a group of 64 entries to the spill ring; the last one before OFF is filled with zero entries. -/
def State.spill (s : State) : State :=
  let d := s.dct
  if !fbit s.jCfg 0 ∨ !d.spill.isEmpty ∨ s.journal.length < s.spillMin ∨ !s.mode.grants ∨ !s.dspUp then s
  else if s.jRoom < 64 then
    if d.fullRaised then s else ({ s with dct := { d with fullRaised := true } }).raise0 0x102 0
  else
    let g := s.journal.take 64
    let base := fld s.jCfg 12 40 * 4096 + 32 * d.wr
    let bytes := g.flatMap JEnt.bytes ++ List.replicate (32 * (64 - g.length)) 0
    let ops := (List.range 32).map (fun i => wrLine (base + 64 * i) (lineOf ((bytes.drop (64 * i)).take 64)))
    ({ s with journal := s.journal.drop 64,
              dct := { d with spill := g, spillOut := 32, spillBad := false, fullRaised := false } }).engCtl 0xC302 0xC300 false ops ⟨.spill, 0, 0⟩

end Sys2Proof.Machine
end

