-- ==== Sys2Proof/Machine/Power.lean ====
section
/-! DEFINITION. Resets, cold start-up, operating modes and the power domains (chapter 15; R286, R296, R297, R398 to
R400). -/

namespace Sys2Proof.Machine

/-! ### Resets (R399, R423, R427) -/

/-- Registers a warm reset keeps: those of PD_AON and PD_VLT that the register file holds. -/
def aonReg (off : Nat) : Bool :=
  (decide (0x20000 ≤ off) && decide (off < 0x30000)) || (decide (0x60000 ≤ off) && decide (off < 0x60020)) || decide (0x400000 ≤ off)

/-- The tick keeper restarts; the time input goes on. -/
def Timetable.restart (t : Timetable) : Timetable :=
  { time := t.time, timeValid := t.timeValid, everValid := t.timeValid }

/-- Signal Box state after a warm reset or a wake (R296). -/
def Sbx.restart (b : Sbx) : Sbx :=
  { first := b.first, hi := b.hi, worst := b.worst, ovf := b.ovf, ovfCount := b.ovfCount, ovfLast := b.ovfLast,
    sev := b.sev, raw := b.raw, counts := b.counts, cause := b.cause, source := b.source, ackUs := b.ackUs, lost := b.lost,
    terminal := b.terminal, forceSafe := b.forceSafe, fltN := true, logSeq := b.logSeq, logWr := b.logWr,
    logWrap := b.logWrap, logDrop := b.logDrop }

/-- Power state after a warm reset: requests stay, settings return to their defaults. -/
def Pwr.restart (p : Pwr) (now : Nat) : Pwr :=
  { up := p.up, req := p.req, retReq := p.retReq, ret := p.ret, wait := p.wait, init := 1, initAt := now,
    mbistDone := p.mbistDone, mbistFail := p.mbistFail, modeReq := p.modeReq, modeErr := p.modeErr,
    clkMeas := p.clkMeas, supply := p.supply, misordered := p.misordered, early := p.early, coldLow := p.coldLow, testMode := p.testMode,
    dark := p.dark }

/-- The Station across a warm reset. -/
def Stn.restart (t : Stn) : Stn :=
  { id := t.id, nonce := t.nonce, holdover := t.holdover, broken := t.broken, mismatch := t.mismatch, dup := t.dup,
    crcErrs := t.crcErrs, corr := t.corr, lastErr := t.lastErr }

/-- The session engine across a warm reset: every session ends. -/
def Dct.restart (d : Dct) : Dct :=
  { nonceCtr := d.nonceCtr, idleS := d.idleS, keyCells := d.keyCells, key := d.key, maker := d.maker, eid := d.eid }

/-- Reset of every switched domain (warm reset, wake): COLD_INIT begins. -/
def State.restart (s : State) (recovery : Bool) : State :=
  { pending := s.pending, held := false, clk := s.clk, out := s.out, rsp := s.rsp,
    cfg := s.cfg.filter (fun p => aonReg p.1), mode := .coldInit, tt := s.tt.restart, nextId := s.nextId, tap := s.tap,
    sbx := s.sbx.restart, pwr := { (s.pwr.restart s.clk) with recovery := recovery }, stn := s.stn.restart,
    dct := s.dct.restart, wbg := s.wbg, freeCtr := s.freeCtr }

/-- The block under cold reset: what survives is the one-time and non-volatile cells, the levels of the input pins and
the time input. -/
def State.cold (s : State) : State :=
  { pending := s.pending, held := true, clk := s.clk, nextId := s.nextId, tt := s.tt.restart,
    sbx := { forceSafe := s.sbx.forceSafe },
    pwr := { coldLow := s.pwr.coldLow, testMode := s.pwr.testMode, dark := s.pwr.dark, misordered := s.pwr.misordered,
             early := s.pwr.early },
    stn := { id := s.stn.id, nonce := s.stn.nonce }, dct := { nonceCtr := s.dct.nonceCtr, keyCells := s.dct.keyCells },
    wbg := { (s.wbg.cold s.clk) with time := s.wbg.time, valid := s.wbg.valid }, freeCtr := s.freeCtr }

/-- `held` follows its causes. -/
def State.reheld (s : State) : State :=
  { s with held := s.pwr.coldLow || s.pwr.testMode || s.pwr.dark }

/-! ### COLD_INIT (R421) -/

/-- PD_SS00 to PD_SS15, PD_QM, PD_TT and PD_DSP. -/
def baseMask : Nat := domRange 76 19
def allMask : Nat := domRange 0 98

def State.maskUp (s : State) (m : Nat) : Bool := (m &&& s.pwr.up) == m

/-- A mask without the domains recorded as failed. -/
def State.unfailed (s : State) (m : Nat) : Nat := m ^^^ (m &&& s.pwr.failed)

/-- Step 2 asks for the initial domains as their last changes complete; step 3 begins once they are on. -/
def State.initRun (s : State) : State :=
  if s.mode = .coldInit ∧ s.pwr.init = 1 then
    let s1 := s.askOnMask (s.unfailed baseMask)
    if s1.maskUp baseMask then { s1 with pwr := { s1.pwr with init := 2, initAt := s1.clk } } else s1
  else s

def State.initStart (s : State) : State := s.initRun

def State.initDone (s : State) : Bool := s.pwr.init == 5

/-- Leave cold reset (R421 item 1): FLT_N high, keys loaded, COLD_INIT, the initial requests, a chain of the unsealed
Weighbridge; supplies found misordered enter SAFE (R411). DEDUCED (log 99): what the monitors of VDD_ANA and VDD_AON,
armed since the power-on release, found under cold reset is raised here too. -/
def State.coldStart (s : State) : State :=
  let s1 : State := { s with
    mode := .coldInit, sbx := { s.sbx with fltN := true },
    pwr := { s.pwr with init := 1, initAt := s.clk, modeReq := 1 },
    dct := { s.dct with key := s.dct.keyCells, maker := true },
    wbg := { s.wbg with relAt := s.clk } }
  let s2 := if s1.wbg.st = 0 then s1.chainStart else s1
  let s3 := s2.initStart
  let s4 := if s.pwr.misordered then
      ({ s3 with pwr := { s3.pwr with misordered := false } }).sbxTake { source := 0x165, time := s3.ns }
    else s3
  s.pwr.early.foldl (fun s k => s.raise0 (0x160 + k) 0) { s4 with pwr := { s4.pwr with early := [] } }

def State.coldReset (s : State) : State :=
  ({ s with pwr := { s.pwr with coldLow := true } }).cold

def State.coldRelease (s : State) (id : Nat) : State :=
  if !s.pwr.coldLow ∨ s.pwr.dark then s
  else
    let f := s.freeVal
    let s1 : State := { f.2 with pwr := { f.2.pwr with coldLow := false }, stn := { f.2.stn with id := id, nonce := f.1 % 2 ^ 16 } }
    let s2 := s1.reheld
    if s2.held then s2 else s2.coldStart

/-- DFT_TEST_MODE (R400): while high the functional logic is in reset; key copies and sessions are cleared. -/
def State.testModePin (s : State) (high : Bool) : State :=
  if high then
    if s.pwr.testMode then s
    else
      let s1 := ({ s with pwr := { s.pwr with testMode := true } }).cold
      { s1 with wbg := { s1.wbg with key := none } }
  else if !s.pwr.testMode then s
  else
    let s1 := ({ s with pwr := { s.pwr with testMode := false } }).reheld
    if s1.held then s1
    else
      let s2 := s1.coldStart
      { s2 with dct := { s2.dct with key := 0, maker := false } }

/-- VDD_AON below 0.60 V: as OFF, dark (R407, R411). -/
def State.aonLoss (s : State) : State :=
  let s1 := ({ s with pwr := { s.pwr with dark := true, coldLow := true, early := [] } }).cold
  { s1 with mode := .off, tt := {}, wbg := { s1.wbg with time := 0, valid := false } }

/-- The power-on release of PD_AON, with RST_COLD_N still low. -/
def State.aonRelease (s : State) (misordered : Bool) : State :=
  if !s.pwr.coldLow then s
  else ({ s with mode := .coldInit, pwr := { s.pwr with dark := false, misordered := misordered } }).reheld

/-- The wait of 1 µs ends: memory BIST where asked for, else the Staging clear. -/
def State.mbistWait (s : State) : State :=
  if s.mode = .coldInit ∧ s.pwr.init = 2 then
    let s1 := s.reach (s.pwr.initAt + 1000000)
    { s1 with pwr := { s1.pwr with init := if s1.pwr.mbistGo then 3 else 4, initAt := s1.clk } }
  else s

def State.mbistGoPin (s : State) : State :=
  if s.mode = .coldInit ∧ (s.pwr.init = 1 ∨ s.pwr.init = 2) then { s with pwr := { s.pwr with mbistGo := true } } else s

def State.mbistEnd (s : State) (failed : Bool) : State :=
  if s.mode = .coldInit ∧ s.pwr.init = 3 then
    { s with pwr := { s.pwr with mbistDone := true, mbistFail := failed, mbistGo := false, init := 4, initAt := s.clk } }
  else s

/-- The Staging clear takes 16,384 CORE cycles. -/
def State.clearDone (s : State) : State :=
  if s.mode = .coldInit ∧ s.pwr.init = 4 then
    let s1 := s.reach (s.pwr.initAt + 16384 * s.corePs)
    { s1 with pwr := { s1.pwr with init := 5 } }
  else s

/-! ### Mode transitions (R402 to R407, R416, R422) -/

def State.xaWanted (s : State) : Nat :=
  (List.range 8).foldl (fun a n => if s.xaFenced n then a else maskSet a (domXa n)) 0

def State.banksWanted (s : State) : Nat :=
  (List.range 16).foldl (fun a b => if s.sbx.fbank.testBit b then a else maskSet a (domSs b)) 0

/-- Domains that CONFIGURE, RUN and an unparked QUIESCE need on (R416). -/
def State.serviceMask (s : State) : Nat := s.moversWanted ||| s.xaWanted ||| s.banksWanted ||| domRange 92 6

/-- Domains a target mode needs on. -/
def State.needMask (s : State) (target : Nat) : Nat := if target = 2 then allMask else s.serviceMask

/-- The items of R406, domains off for parking apart. -/
def State.runOk (s : State) : Bool :=
  let parkedOff := if s.pwr.parked = 0 then 0 else domRange 95 3 ||| (if s.pwr.parked = 2 then domRange 84 8 else 0)
  let xas := (List.range 8).filter (fun n => !s.xaFenced n)
  s.tt.running &&
  (let need := s.banksWanted ||| domRange 92 6
   (need &&& (s.pwr.up ||| parkedOff)) == need) &&
  !xas.isEmpty && (List.range 64).any (fun m => !s.mvFenced m) && s.pwr.failed == 0 &&
  (match Tbl.get 0 s.pwr.clkMeas with
   | none => true
   | some k => decide (97 * s.pwr.coreMhz * 1000 ≤ 100 * k ∧ 100 * k ≤ 103 * s.pwr.coreMhz * 1000)) &&
  xas.all (fun n => decide (s.xaFreq n ≠ 0) && decide (s.xaFreq n ≤ s.pwr.coreMhz))

/-- QUIESCE is reached: the quadrants go off, and light or deep parking takes effect (R416). -/
def State.park (s : State) : State :=
  let q := s.pwr.qpark
  let s := s.askOffMask (domRange 72 4)
  if q = 0 then s
  else
    let s1 := ({ s with pwr := { s.pwr with parked := q } }).askOffMask (domRange 0 64 ||| domRange 95 3)
    if q = 1 then s1
    else
      let keep := ((List.range 8).find? (fun n => !s.xaFenced n)).getD 8
      let s2 := (List.range 8).foldl (fun s n => if n = keep then s else s.askOff (domXa n) false) s1
      (List.range 8).foldl (fun s b => s.askOff (domSs (8 + b)) true) s2

/-- Windows of Transit on the way to QUIESCE (R186): an attempt of a Conjunction finishes first. -/
def State.quiesceTransit (s : State) : State :=
  (List.range 8).foldl (fun s w =>
    let t := s.tw w
    if t.ph = .idle then s
    else if t.ph = .conjunction then s.updTw w (fun t => { t with conj := t.conj.map (fun c => { c with abort := true }) })
    else s.tAbort w none) s

/-- What QUIESCE asks for at once (R244). -/
def State.quiesceStart (s : State) : State :=
  (({ s with pwr := { s.pwr with trans := some { target := 6 } } }).quiesceQueues).chQuiesce.quiesceTransit

/-- Scans of recorded doorbells, and waiting work, when data work may start (R245, R403). -/
def State.resumeAll (s : State) : State :=
  let s1 := s.unquiesceQueues.chUnquiesce
  let s2 := (Tbl.keys s1.queues).foldl (fun s q =>
    let s1 := if (s.queue q).rung && s.scanMode (s.queue q) then (s.updQueue q (fun g => { g with rung := false })).scanReq q else s
    s1.pumpQ q) s1
  s2.wearFetch

def State.resumeDq (s : State) : State :=
  (Tbl.keys s.queues).foldl (fun s q =>
    if (s.queue q).dq then
      let s1 := if (s.queue q).rung then (s.updQueue q (fun g => { g with rung := false })).scanReq q else s
      s1.pumpQ q
    else s) s

/-- The groups of R422 item 3. -/
def offGroup (k : Nat) : Nat :=
  if k = 1 then domRange 0 64 ||| domRange 72 4
  else if k = 2 then domRange 95 3
  else if k = 3 then domRange 64 8
  else if k = 4 then maskSet (maskSet 0 domDSP) domQM
  else if k = 5 then maskSet 0 domTT
  else domRange 76 16

/-- OFF is reached (R371, R407, R422): outputs at their Safe values; what the journal still held is gone (R423). -/
def State.arriveOff (s : State) : State :=
  { s with mode := .off, bursts := [], granted := [], txns := [], quar := [], holds := [], journal := [],
           sbx := { s.sbx with sub := if s.sbx.sub = 3 then 3 else 0, fltN := false, ack := false, offHeld := false, warmHeld := false },
           pwr := { s.pwr with trans := none, parked := 0, init := 0 } }

/-- Item 2 of R422 is done: the journal spilled and the fault log written, where a burst can still be granted and the
Dispatch Processor works. -/
def State.offWritten (s : State) : Bool :=
  (!(fbit s.jCfg 0) || !s.mode.grants || !s.dspUp || (s.jHeld == 0 && s.dct.spillOut == 0)) &&
  (!s.mode.grants || (s.sbx.logBuf.isEmpty && s.sbx.logOut == 0))

/-- The power-down of R422 goes on: spill and logs first, once the state banks are back, then group after group. A
domain that denied its off request waits for OFF_REQUEST_RETRY. -/
def State.offRun (s : State) : Nat → State
  | 0 => s
  | n + 1 =>
    match s.pwr.trans with
    | some t =>
      if t.target ≠ 0 then s
      else if t.stage = 0 then
        if s.pwr.ret ≠ 0 ∨ s.pwr.retReq ≠ 0 then s
        else
          let s1 := (({ s with pwr := { s.pwr with parked := 0 } }).logPump).spill
          if s1.offWritten then State.offRun { s1 with pwr := { s1.pwr with trans := some { target := 0, stage := 1 } } } n
          else s1
      else
        let g := offGroup t.stage
        let s1 := s.askOffMask (g ^^^ (g &&& s.pwr.again))
        if (List.range 98).all (fun d => !(maskHas g d) || s1.isOff d) then
          if t.stage = 6 then s1.arriveOff
          else State.offRun { s1 with pwr := { s1.pwr with trans := some { target := 0, stage := t.stage + 1 } } } n
        else s1
    | none => s

/-- Begin the power-down: from SAFE at item 3 (R422). -/
def State.offStart (s : State) : State :=
  if s.mode = .safe then
    ({ s with pwr := { s.pwr with trans := some { target := 0, stage := 1 }, again := 0 } }).endAll.offRun 9
  else
    let s1 := ({ s with pwr := { s.pwr with trans := some { target := 0 }, again := 0 } }).endAll
    let s2 := (Tbl.keys s1.bgs.scr).foldl (fun s r => s.stopSlot 1 r) s1
    let s3 := ((Tbl.keys s2.bgs.tel).foldl (fun s g => s.stopSlot 2 g) s2).stopSlot 3 0
    (s3.askOnMask s3.pwr.retReq).offRun 9

/-- What waits in SAFE for SETTLED (R296, R297, R404): OFF before a warm reset; nothing while FLT_FORCE_SAFE is high. -/
def State.afterSafe (s : State) : State :=
  if s.mode ≠ .safe ∨ s.sbx.forceSafe ∨ s.pwr.trans.isSome then s
  else if s.sbx.offHeld ∧ (s.sbx.sub = 2 ∨ s.sbx.sub = 3) then
    ({ s with sbx := { s.sbx with offHeld := false } }).offStart
  else if s.sbx.warmHeld ∧ s.sbx.sub = 2 then (s.restart true).initStart
  else s

/-- A transition goes on: its domains, then its mode. -/
def State.transRun (s : State) : State :=
  match s.pwr.trans with
  | none => s.initRun
  | some t =>
    if t.target = 0 then s.offRun 9
    else if t.target = 6 then
      if s.quiet && s.trn.wins.all (fun w => w.ph == TPh.idle) then
        ({ s with mode := .quiesce, pwr := { s.pwr with trans := none } }).park
      else s
    else
    let s := s.askOnMask (s.needMask t.target)
    if !(s.maskUp (s.needMask t.target)) then s
    else
      let s1 : State := { s with pwr := { s.pwr with trans := none, parked := 0, again := 0 } }
      if t.target = 2 then ({ s1 with mode := .factoryTest }).resumeAll
      else if t.target = 3 then ({ s1 with mode := .configure }).resumeDq
      else if !s1.runOk then { s1 with pwr := { s1.pwr with modeErr := 0xC } }
      else
        ({ s1 with mode := if s1.anyFenced then .degraded else .run,
                   pwr := { s1.pwr with recovery := false } }).resumeAll

/-- Begin a transition that needs domains on. -/
def State.goTo (s : State) (target : Nat) : State :=
  let s1 : State := { s with pwr := { s.pwr with trans := some { target := target } } }
  (s1.askOnMask s1.pwr.retReq).transRun

/-- Why a request for a mode is refused now, 0 where it is accepted (R297, R404 to R407). `maker`: a Maker session. -/
def State.modeReason (s : State) (r : Nat) (session maker : Bool) : Nat :=
  let m := s.mode
  if m = .off then
    if r = 1 ∧ !s.sbx.terminal then (if s.pwr.supply.getD 0 0 ≠ 0 ∨ s.pwr.supply.getD 1 0 ≠ 0 then 0xC else 0) else 4
  else if r ≠ 0 ∧ r ≠ 7 ∧ !session then 3
  else if r ≠ 0 ∧ r ≠ 7 ∧ s.pwr.trans.isSome then 0xF
  else if r = 0 then 0
  else if r = 7 then (if m = .safe ∧ s.sbx.sub = 3 then 4 else 0)
  else if m = .coldInit ∧ r = 2 then (if maker ∧ s.initDone then 0 else 4)
  else if m = .coldInit ∧ r = 3 then (if s.initDone ∧ !s.pwr.mbistFail then 0 else 4)
  else if m = .factoryTest ∧ r = 1 then (if maker then 0 else 4)
  else if (m = .configure ∨ m = .quiesce) ∧ r = 4 then (if s.runOk then 0 else 0xC)
  else if (m = .run ∨ m = .degraded) ∧ r = 6 then 0
  else if m = .quiesce ∧ r = 3 then 0
  else 4

/-- The effect of an accepted request. -/
def State.modeGo (s : State) (r : Nat) : State :=
  let s : State := { s with pwr := { s.pwr with modeReq := r, modeErr := 0 } }
  if s.mode = .off then
    let s1 := s.restart false
    ({ s1 with dct := { s1.dct with key := s1.dct.keyCells, maker := true } }).initStart
  else if r = 7 then
    ({ s with pwr := { s.pwr with trans := none }, sbx := { s.sbx with offHeld := false } }).enterSafe 2 0x1FF false
  else if r = 0 then
    if s.mode = .run ∨ s.mode = .degraded then
      let s1 := s.enterSafe 2 0x1FF false
      { s1 with sbx := { s1.sbx with offHeld := true } }
    else if s.mode = .safe then
      if s.pwr.trans.isSome then s else ({ s with sbx := { s.sbx with offHeld := true } }).afterSafe
    else if (s.pwr.trans.map (·.target)) = some 0 then s
    else s.offStart
  else if s.mode = .factoryTest ∧ r = 1 then
    let s1 := s.endAll.askOffMask (domRange 0 76 ||| domRange 95 3)
    { s1 with mode := .coldInit, bgs := {}, cfg := s1.cfg.filter (fun p => !(decide (0x40000 ≤ p.1) && decide (p.1 < 0x50000))),
              pwr := { s1.pwr with init := 4, initAt := s1.clk } }
  else if r = 6 then s.quiesceStart.transRun
  else s.goTo r

/-- A request on a path (R404, R405): the reason it is refused with, 0 where it is accepted. `free`: requests for SAFE
and OFF need no session. -/
def State.modeRequest (s : State) (r : Nat) (p : Path) (free : Bool) : State × Nat :=
  let role := s.role p
  let why :=
    if !free && decide (role < 2) then 3
    else
      let w := s.modeReason r (decide (2 ≤ role)) (role == 3)
      if w = 0 ∧ r ≠ 0 ∧ r ≠ 7 ∧ s.mode ≠ .off ∧ s.jFull then 0xA else w
  let note := fun (x : State) => x.jrn 6 p why r (BitVec.ofNat 64 s.pwr.modeReq) (BitVec.ofNat 64 r)
  let s1 := note s
  if why = 0 then (if s.mode = .off then note (s.modeGo r) else s1.modeGo r, 0)
  else
    let clear : State := if s.mode = .off then { s1 with pwr := { s1.pwr with supply := [0, 0, 0, 0] } } else s1
    ({ clear with pwr := { clear.pwr with modeErr := why } }, why)

/-! ### Answers of the power controller (R398, R417) -/

/-- Reset of a domain that comes on: its registers hold their reset values (R427). DEDUCED (log 90): a service of PD_BGS
that parking stopped keeps its configuration and its values (R253), so there only the two selectors are reset. -/
def State.domReset (s : State) (d : Nat) : State :=
  if d = domTRN then { s with trn := {}, cfg := s.cfg.filter (fun p => !(decide (0x50000 ≤ p.1) && decide (p.1 < 0x60000))) }
  else if d = domCHN then
    { s with chn := { chans := s.chn.chans.map (fun (p : Nat × Chan) =>
        (p.1, { granted := p.2.granted, tenant := p.2.tenant, cls := p.2.cls, prio := p.2.prio, xset := p.2.xset,
                limiter := p.2.limiter, qrd := p.2.qrd, qwr := p.2.qwr })) } }
  else if d = domBGS then { s with cfg := s.cfg.filter (fun p => p.1 != 0x40100 && p.1 != 0x40600) }
  else s

def State.powerAck (s : State) (d : Nat) (retained : Bool) : State :=
  let p := s.pwr
  match Tbl.get d p.wait with
  | none => s
  | some _ =>
    if maskHas p.req d then
      if retained then s
      else
        let s1 : State := { s with pwr := { p with
          wait := Tbl.del d p.wait, up := maskSet p.up d, ret := maskClr p.ret d,
          mvSince := if d < 64 then Tbl.put d s.clk p.mvSince else p.mvSince,
          rqSince := if 72 ≤ d ∧ d < 76 then Tbl.put (d - 72) s.clk p.rqSince else p.rqSince } }
        (s1.domReset d).transRun
    else if maskHas p.retReq d = retained then
      ({ s with pwr := { p with wait := Tbl.del d p.wait, ret := if retained then maskSet p.ret d else p.ret } }).transRun
    else s

/-- A needed domain has failed: the transition is refused with UNAVAILABLE. -/
def State.transFail (s : State) (d : Nat) : State :=
  match s.pwr.trans with
  | some t =>
    if t.target ≠ 6 ∧ (if t.target = 0 then t.stage = 0 ∧ maskHas s.pwr.ret d else maskHas (s.needMask t.target) d) then
      { s with pwr := { s.pwr with trans := none, modeErr := 0xC } }
    else s
  | none => s

def State.domFail (s : State) (d : Nat) : State :=
  let s1 := s.transFail d
  { s1 with pwr := { s1.pwr with wait := Tbl.del d s1.pwr.wait, req := maskClr s1.pwr.req d, failed := maskSet s1.pwr.failed d } }

def State.powerDeny (s : State) (d : Nat) : State :=
  match Tbl.get d s.pwr.wait with
  | none => s
  | some _ =>
    let s1 : State := { s with pwr := { s.pwr with lastDeny := d, denies := min (2 ^ 32 - 1) (s.pwr.denies + 1) } }
    if maskHas s.pwr.req d then s1.domFail d
    else
      let p := s1.pwr
      { s1 with pwr := { p with wait := Tbl.del d p.wait, req := maskSet p.req d, up := maskSet p.up d,
                                retReq := maskClr p.retReq d, again := maskSet p.again d,
                                mvSince := if d < 64 then Tbl.put d s1.clk p.mvSince else p.mvSince,
                                rqSince := if 72 ≤ d ∧ d < 76 then Tbl.put (d - 72) s1.clk p.rqSince else p.rqSince } }

def State.powerTimeout (s : State) (d : Nat) : State :=
  match Tbl.get d s.pwr.wait with
  | none => s
  | some t =>
    let s1 := s.reach (t + usPs s.pwr.tmo)
    if maskHas s.pwr.req d then s1.domFail d else s1.transRun

/-- A domain whose off request was denied and which its mode still wants off: the power-down, parking, a quadrant outside
RUN and DEGRADED, or the domain of a fenced unit (R416, R417). -/
def State.offWanted (s : State) (d : Nat) : Bool :=
  maskHas s.pwr.again d &&
  ((s.pwr.trans.map (·.target)) == some 0 || s.mode == .coldInit ||
   (s.pwr.parked != 0 && !(decide (72 ≤ d) && decide (d < 76)) && !(s.pwr.parked == 1 && decide (64 ≤ d) && decide (d < 72))) ||
   (decide (72 ≤ d) && decide (d < 76) && (s.mode == .configure || s.mode == .quiesce)))

/-- A denied off request of a domain other than a Mover or quadrant is raised again (R417). -/
def State.offRetry (s : State) (d : Nat) : State :=
  let fenced := (decide (64 ≤ d) && decide (d < 72) && s.xaFenced (d - 64)) ||
                (decide (76 ≤ d) && decide (d < 84) && s.sbx.fbank.testBit (d - 76))
  if (s.offWanted d ∨ (maskHas s.pwr.again d ∧ s.mode = .degraded ∧ fenced)) ∧
     ((64 ≤ d ∧ !(72 ≤ d ∧ d < 76)) ∨ (s.pwr.trans.map (·.target)) = some 0) then
    (s.askOff d (s.pwr.parked == 2 && decide (84 ≤ d) && decide (d < 92))).transRun
  else s

/-! ### Idle gating (R418, R419) -/

/-- An idle Mover beyond MV_MIN is requested off, the highest-numbered first of those idle for MV_IDLE_US. -/
def State.moverIdle (s : State) (m : Nat) : State :=
  let at_ := Tbl.getD m s.clk s.pwr.mvSince + usPs s.pwr.mvIdle
  if s.offWanted (domMv m) ∨ (maskHas s.pwr.again m ∧ s.mode = .degraded ∧ s.mvFenced m ∧ s.moverLoad m = 0) then
    ((s.reach at_).askOff (domMv m) false).transRun
  else
    let on := (List.range 64).filter (fun k => !s.mvFenced k && s.isOn (domMv k))
    let idle := on.filter (fun k => s.moverLoad k == 0)
    let s1 := s.reach at_
    let above := idle.filter (fun k => decide (m < k) && decide (Tbl.getD k s.clk s.pwr.mvSince + usPs s.pwr.mvIdle ≤ s1.clk))
    if s.gates_ && decide (s.pwr.mvMin < on.length) && idle.contains m && above.isEmpty then s1.askOff (domMv m) false
    else s

/-- An idle quadrant is requested off. -/
def State.quadIdle (s : State) (q : Nat) : State :=
  let free := (Tbl.vals s.works).all (fun w => w.quad != some q)
  if s.offWanted (domRq q) ∨ (maskHas s.pwr.again (domRq q) ∧ s.mode = .degraded ∧ s.rqFenced q ∧ free) then
    ((s.reach (Tbl.getD q s.clk s.pwr.rqSince + usPs s.pwr.rqIdle)).askOff (domRq q) false).transRun
  else if (s.mode == .run || s.mode == .degraded) && s.isOn (domRq q) && !s.rqFenced q && free then
    (s.reach (Tbl.getD q s.clk s.pwr.rqSince + usPs s.pwr.rqIdle)).askOff (domRq q) false
  else s

/-- Movers and quadrants that fell idle in a step are idle from now (R418, R419). -/
def State.idleMark (before s : State) : State :=
  let mv := (List.range 64).filter (fun m => decide (0 < before.moverLoad m) && s.moverLoad m == 0)
  let held := fun (x : State) q => (Tbl.vals x.works).any (fun w => w.quad == some q)
  let rq := (List.range 4).filter (fun q => held before q && !held s q)
  { s with pwr := { s.pwr with mvSince := mv.foldl (fun t m => Tbl.put m s.clk t) s.pwr.mvSince,
                               rqSince := rq.foldl (fun t q => Tbl.put q s.clk t) s.pwr.rqSince } }

/-- The domain of a fenced Mover, attachment, quadrant or data bank goes off once its work has ended (R416). -/
def State.fencedOff (s : State) : State :=
  if s.mode ≠ .degraded then s
  else
    let mv := (List.range 64).filter (fun m => s.mvFenced m && s.moverLoad m == 0)
    let xa := (List.range 8).filter (fun n => s.xaFenced n && !s.txns.any (fun t => t.xa == n))
    let rq := (List.range 4).filter (fun q => s.rqFenced q && (Tbl.vals s.works).all (fun w => w.quad != some q))
    let ss := (List.range 8).filter (fun b => s.sbx.fbank.testBit b && (Tbl.vals s.works).all (fun w => w.units == 0))
    ((mv.map domMv ++ xa.map domXa ++ rq.map domRq ++ ss.map domSs).filter (fun d => !(maskHas s.pwr.again d))).foldl
      (fun s d => s.askOff d false) s

/-! ### Supplies and clocks (R408, R411, R412, R415) -/

/-- A supply monitor: sources 0x160 to 0x165. Those of VDD_CORE, VDD_MEM and their difference are armed from the release
of cold reset or wake to OFF, the other two from the power-on release of PD_AON. -/
def State.supplyFault (s : State) (k : Nat) : State :=
  if k = 5 ∨ s.pwr.dark then s
  else if s.held then
    (if (k = 2 ∨ k = 3) ∧ !s.pwr.early.contains k then { s with pwr := { s.pwr with early := s.pwr.early ++ [k] } } else s)
  else if (k = 0 ∨ k = 1 ∨ k = 4) ∧ s.mode = .off then
    (if k = 4 then s else { s with pwr := { s.pwr with supply := setAt k 1 s.pwr.supply } })
  else s.raise0 (0x160 + k) 0

/-- Nominal frequency in kHz, and the band in percent below and above (0: no upper end); none where no monitor applies
R415. -/
def State.clkBand (s : State) (d : Nat) : Option (Nat × Nat × Nat) :=
  if d = 0 then some (s.pwr.coreMhz * 1000, 97, 103)
  else if d ≤ 8 then some (s.xaFreq (d - 1) * 1000, 97, 0)
  else if d = 9 then some (2000000, 97, 103)
  else if d = 10 then some (400000, 97, 103)
  else if d = 11 ∨ d = 17 then some (250000, 97, 103)
  else if d = 13 then some (25000, 95, 105)
  else if d = 14 ∨ d = 16 then some (800000, 97, 103)
  else if d = 15 then some (500000, 97, 103)
  else if d = 18 then some (100000, 95, 105)
  else none

/-- Source and kind of a clock's monitor. -/
def clkSource (d : Nat) : Nat × Nat :=
  if d = 0 then (0x166, 0)
  else if d ≤ 8 then (0x040 + (d - 1), 4)
  else if d = 9 then (0x167, 0)
  else if d = 10 then (0x168, 0)
  else if d = 11 then (0x169, 0)
  else if d = 12 then (0x172, 0)
  else if d = 13 then (0x16E, 0)
  else if d = 14 then (0x16A, 0)
  else if d = 15 then (0x16B, 0)
  else if d = 16 then (0x16C, 0)
  else if d = 17 then (0x16D, 0)
  else (0x16F, 0)

/-- A domain is on: it was acknowledged, and an off request since then is not. -/
def State.powered (s : State) (d : Nat) : Bool :=
  maskHas s.pwr.up d || (!(maskHas s.pwr.req d) && Tbl.has d s.pwr.wait && !s.isOff d)

/-- When a clock's monitor is armed (R412). -/
def State.clkArmed (s : State) (d : Nat) : Bool :=
  if d = 0 ∨ d = 15 then (List.range 98).any s.powered
  else if d ≤ 8 then s.powered (domXa (d - 1))
  else if d = 9 then [0, 1, 2, 3].any (fun q => s.powered (domRq q))
  else if d = 10 ∨ d = 11 then s.mode != .off
  else if d = 12 then Tbl.get 11 s.pwr.clkMeas != some 0
  else if d = 14 then s.powered domCHN
  else if d = 16 then s.mode == .factoryTest
  else if d = 17 then s.linkEn
  else decide (d ≠ 19)

/-- A clock monitor trips: through the hardwired path where R290 says so. -/
def State.clkTrip (s : State) (d : Nat) : State :=
  let x := clkSource d
  if hardwired x.1 then s.sbxTake { source := x.1, kind := x.2, time := s.ns } else s.raise x.1 x.2 0 0

def State.clkWindow (s : State) (d khz : Nat) : State :=
  if !s.clkArmed d then { s with pwr := { s.pwr with clkMeas := Tbl.del d s.pwr.clkMeas, clkBad := maskClr s.pwr.clkBad d } }
  else
    let s1 : State := { s with pwr := { s.pwr with clkMeas := Tbl.put d khz s.pwr.clkMeas } }
    match s.clkBand d with
    | none => s1
    | some (n, lo, hi) =>
      if 100 * khz < lo * n ∨ (hi ≠ 0 ∧ hi * n < 100 * khz) then
        let s2 : State := { s1 with pwr := { s1.pwr with clkBad := maskSet s1.pwr.clkBad d } }
        if maskHas s.pwr.clkBad d then s2.clkTrip d else s2
      else { s1 with pwr := { s1.pwr with clkBad := maskClr s1.pwr.clkBad d } }

def State.clkAbsent (s : State) (d : Nat) : State :=
  if !s.clkArmed d ∨ d = 19 then s
  else ({ s with pwr := { s.pwr with clkMeas := Tbl.put d 0 s.pwr.clkMeas } }).clkTrip d

/-! ### Pins that lead to SAFE (R285, R395, R399) -/

def State.forceSafePin (s : State) : State :=
  let s1 : State := { s with sbx := { s.sbx with forceSafe := true } }
  if s.mode = .off then s1 else s1.enterSafe 1 0x1FF false

def State.forceSafeFall (s : State) : State := ({ s with sbx := { s.sbx with forceSafe := false } }).afterSafe

/-- A warm reset request in SAFE: held until SETTLED (R296); ignored in TERMINAL (R297). -/
def State.warmRequest (s : State) : State :=
  if s.mode = .safe ∧ (s.sbx.sub = 1 ∨ s.sbx.sub = 2) ∧ s.pwr.trans.isNone then
    ({ s with sbx := { s.sbx with warmHeld := true } }).afterSafe
  else s

def State.warmPinFall (s : State) : State :=
  if s.mode = .off then s
  else if s.mode = .safe then s.warmRequest
  else (s.enterSafe 1 0x1FF false).warmRequest

end Sys2Proof.Machine
end

