-- ==== Sys2Proof/Machine/Regs.lean ====
section
/-! DEFINITION. The register map (chapter 16): what every register reads, what a write to each page does, and the gates an
access passes (R12, R68, R69, R196, R291, R343, R384, R426 to R442). The ODW page stands with the dictionary. -/

namespace Sys2Proof.Machine

/-! ### Power domains (R428) -/

/-- The domain of a register, none for PD_AON and PD_VLT. -/
def regDom (off : Nat) : Option Nat :=
  if off < 0x10000 then
    if off = 0x48 ∨ off = 0x50 then some domDSP
    else if 0x100 ≤ off ∧ off < 0x200 then some domTT
    else if 0x1000 ≤ off ∧ off ≤ 0x9000 then some domQM
    else none
  else if off < 0x20000 then some domTT
  else if off < 0x30000 then none
  else if off < 0x40000 then some domDSP
  else if off < 0x50000 then some domBGS
  else if off < 0x60000 then some domTRN
  else if off < 0x70000 then (if 0x20 ≤ off % 65536 ∧ off % 65536 ≤ 0x40 then some domDSP else none)
  else if off < 0x80000 then none
  else if off < 0x100000 then some domCHN
  else if off < 0x300000 then (if off % 8192 = 0x18 ∨ off % 8192 = 0x20 then some domDSP else some domQM)
  else none

/-- Whether the register answers as one of an off domain. -/
def State.regOff (s : State) (off : Nat) : Bool :=
  match regDom off with
  | some d => !s.isOn d
  | none => false

/-! ### GLB page (R430) -/

def State.modestat (s : State) : Word :=
  mkWord [(0, 4, s.mode.code), (4, 1, b2n s.pwr.trans.isSome), (5, 1, b2n s.pwr.recovery), (6, 1, b2n (s.pwr.parked != 0))]

/-- GLB_STATUS: the fences as they stood at the last boundary (R31, R441). -/
def State.glbStatus (s : State) : Word :=
  mkWord [(0, 1, b2n s.initDone), (1, 1, b2n s.pwr.mbistFail), (8, 4, s.pwr.modeErr), (16, 7, 64 - popcount s.sbx.smv 64),
          (24, 8, 255 - s.sbx.sxa), (32, 4, 15 - s.sbx.srq), (36, 16, 65535 - s.sbx.sbank)]

/-- State code of a Dispatch Queue (R324). -/
def State.dqState (s : State) (q : Nat) : Nat :=
  match (s.queue q).st with
  | .active => if Tbl.has q s.queues then 1 else 0
  | .stopping => 2
  | .error => 3
  | _ => 0

/-- The dispatch record of a Dispatch Queue is being read (R324). -/
def State.dqEnabling (s : State) (q : Nat) : Bool :=
  let mine := fun (o : Own) => o.k == OwnK.dqRec && o.a == q
  s.bursts.any (fun b => mine b.own) || s.granted.any (fun b => mine b.own) || s.txns.any (fun t => mine t.own && t.own.b == 0)

/-- Where the ADDR field of a Dispatch Queue is kept. -/
def dqReg (q : Nat) : Nat := if q = 0x2000 then 0x48 else 0x100018 + 0x2000 * (q - 0x2100)

def State.dqBase (s : State) (q : Nat) : Word :=
  mkWord [(0, 1, b2n (s.dqState q == 1 || s.dqEnabling q)), (2, 4, (s.queue q).err), (6, 46, fld (s.reg (dqReg q) 0) 6 46),
          (56, 3, s.dqState q)]

def State.vecWord (s : State) (v : Nat) : Word :=
  let x := s.vec v
  mkWord [(0, 8, x.tenant), (8, 1, b2n x.assigned), (16, 1, b2n x.mask), (17, 1, b2n x.due)]

def State.glbRead (s : State) (off : Nat) : Word :=
  if off = 0 then 0x48574B4D
  else if off = 8 then 0x10004
  else if off = 0x10 then Config.build
  else if off = 0x20 then BitVec.ofNat 64 s.pwr.modeReq
  else if off = 0x28 then s.modestat
  else if off = 0x30 then s.glbStatus
  else if off = 0x40 then BitVec.ofNat 64 s.stn.id
  else if off = 0x48 then s.dqBase 0x2000
  else if 0x100 ≤ off ∧ off < 0x200 then
    let n := (off - 0x100) / 32
    if off % 32 = 0 then s.xaCfg n
    else if off % 32 = 8 then
      let quar := fun rd => (s.quar.filter (fun q => q.xa == n && q.rd == rd)).length
      mkWord [(0, 1, b2n (s.isOn (domXa n))), (1, 1, b2n (s.xaFenced n)), (16, 14, quar true), (32, 13, quar false)]
    else 0
  else if off = 0x200 then BitVec.ofNat 64 s.ns
  else if off = 0x208 then BitVec.ofNat 64 s.tt.tickNum
  else if 0x1000 ≤ off ∧ off < 0x9000 then
    let v := (off - 0x1000) / 16
    if off % 16 = 0 then s.vecWord v else BitVec.ofNat 64 (s.vec v).sent
  else if off = 0x9000 then s.reg 0x9000 0
  else 0

/-- GLB_XA<n>CFG word 0. -/
def State.xaCfgWrite (s : State) (n : Nat) (data : Word) (strb : BitVec 8) : State × Nat :=
  let v := strobe (s.xaCfg n) data strb
  let f := fld v 0 11
  let t := fld v 32 20
  if f ≠ s.xaFreq n ∧ s.isOn (domXa n) ∧ s.mode ≠ .coldInit ∧ s.mode ≠ .configure ∧ s.mode ≠ .quiesce then (s, 4)
  else if (f ≠ 0 ∧ (f < 400 ∨ 1600 < f)) ∨ t = 0 ∨ 1000000 < t then (s, 1)
  else (s.setReg (0x100 + 0x20 * n) (mkWord [(0, 11, f), (32, 20, t)]), 0)

/-- Something names the vector (R431). -/
def State.vecNamed (s : State) (v : Nat) : Bool :=
  s.rings.any (fun p => p.2.vec == some v &&
    (!p.2.dq || [QSt.active, QSt.stopping].contains (s.queue p.1).st)) ||
  (fbit (s.reg 0x20000 0) 11 && fld (s.reg 0x20000 0) 0 11 == v)

/-- GLB_VEC[v] word 0 (R431). -/
def State.vecWrite (s : State) (v : Nat) (data : Word) (strb : BitVec 8) : State × Nat :=
  let x := s.vec v
  let w := strobe (s.vecWord v) data strb
  if (fld w 0 8 ≠ x.tenant ∨ (x.assigned ∧ !fbit w 8)) ∧ s.vecNamed v then (s, 5)
  else (s.updVec v (fun x => { x with tenant := fld w 0 8, assigned := fbit w 8, mask := fbit w 16,
                                       at_ := if x.mask && !fbit w 16 then s.clk else x.at_ }), 0)

/-! ### TTB page (R67) -/

def State.limSel (s : State) : Nat := fld (s.reg 0x10200 0) 0 12
def State.hwmSel (s : State) : Nat := fld (s.reg 0x10300 0) 0 6
def classRst (c : Nat) : Nat := [8, 0x130, 0x0102040810204080, 0x40].getD c 0
def State.classCfg (s : State) (c : Nat) : Word := s.reg (0x10010 + 8 * c) (classRst c)
def State.tickCfg (s : State) : Word := mkWord [(0, 3, s.tt.cfgLen), (16, 14, s.tt.cfgPhase)]
def State.admitReg (s : State) : Word := mkWord [(0, 7, s.tt.limit), (8, 1, b2n s.admitOver), (16, 16, s.tt.refused)]

def State.gateStat (s : State) (c : Nat) : Word :=
  let g := s.gate c
  mkWord [(0, 1, g.active), (1, 1, b2n g.pend.isSome), (2, 1, b2n g.late), (3, 1, b2n g.rejected),
          (4, 10, if g.inForce then (s.gateNow c).1 else 0), (16, 16, if g.inForce then s.gatePos c else 0),
          (32, 16, if g.inForce then g.cycle - 1 else 0), (48, 16, g.acts)]

def State.ttbRead (s : State) (off : Nat) : Word :=
  let t := s.tt
  if off = 0 then s.tickCfg
  else if off = 8 then
    mkWord [(0, 1, b2n t.running), (1, 1, b2n t.holdover), (2, 1, b2n t.stepped), (3, 1, b2n t.overrun),
            (16, 16, t.passCycles), (32, 16, if t.running then s.resMax else 0), (48, 16, t.resv.length)]
  else if 0x10 ≤ off ∧ off < 0x30 then s.classCfg ((off - 0x10) / 8)
  else if 0x40 ≤ off ∧ off < 0x60 then s.reg (0x10000 + off) 0
  else if 0x60 ≤ off ∧ off < 0x80 then
    let g := s.gate ((off - 0x60) / 8)
    BitVec.ofNat 64 (match g.pend with | some p => p.2.2 | none => g.base)
  else if 0x80 ≤ off ∧ off < 0xA0 then s.gateStat ((off - 0x80) / 8)
  else if off = 0x100 then s.admitReg
  else if off = 0x200 then s.reg 0x10200 0
  else if off = 0x208 then (s.limiter s.limSel).cfg
  else if off = 0x210 then (s.limiter s.limSel).stat
  else if off = 0x300 then s.reg 0x10300 0
  else if off = 0x308 then
    let h := Tbl.getD s.hwmSel {} t.hwm
    mkWord [(0, 32, h.peak), (32, 24, h.thresh), (63, 1, b2n h.crossed)]
  else 0

/-- A change of the tick length or phase (R39). DESIGN CHOICE (log 100): the spec names no path by which the Weighbridge
learns of a change of LEN (the Tap of R303 has no such event); here the accepted write sets TICK_CHANGED itself. -/
def State.tickCfgWrite (s : State) (data : Word) (strb : BitVec 8) : State × Nat :=
  let v := strobe s.tickCfg data strb
  let l := fld v 0 3
  let p := fld v 16 14
  if l = s.tt.cfgLen ∧ p = s.tt.cfgPhase then (s, 0)
  else if s.mode ≠ .configure then (s, 4)
  else if l = 7 ∨ tickPs l ≤ p * 1000 then (s, 1)
  else if !s.tt.resv.isEmpty then (s, 5)
  else
    let s1 : State := { s with tt := { s.tt with cfgLen := l, cfgPhase := p } }
    (if l = s.tt.cfgLen then s1 else s1.updWbg (fun w => { w with ivTick := true }), 0)

def State.classWrite (s : State) (c : Nat) (data : Word) (strb : BitVec 8) : State × Nat :=
  let v := strobe (s.classCfg c) data strb
  let w : Word :=
    if c = 0 then mkWord [(0, 7, fld v 0 7)] else if c = 1 then mkWord [(0, 6, fld v 0 6), (8, 1, fld v 8 1)]
    else if c = 2 then v else mkWord [(0, 7, fld v 0 7)]
  let bad := (c == 0 && decide (64 < fld v 0 7)) || (c == 1 && decide (fld v 0 6 < 16)) ||
             (c == 3 && decide (fld v 0 7 = 0 ∨ 64 < fld v 0 7))
  if bad then (s, 1) else (s.setReg (0x10010 + 8 * c) w, 0)

def State.updGate (s : State) (c : Nat) (f : Gate → Gate) : State :=
  { s with tt := { s.tt with gates := updAt c f s.tt.gates } }

/-- A change of a limiter's configuration (R62). -/
def State.limWrite (s : State) (i : Nat) (v : Word) : State × Nat :=
  let v : Word := mkWord [(0, 60, fld v 0 60)]
  if limCfgOk v then (s.setLimiter i ((s.limiter i).write v s.tt.ticks s.T), 0) else (s, 1)

/-- TTB_LIMCTL and the actions of LIMITER_SET (R63, R64). -/
def State.limAct (s : State) (i : Nat) (zero fill adapt : Bool) : State × Nat :=
  if zero ∧ fill then (s, 1)
  else
    let l0 := s.limiter i
    let l1 := if zero then l0.zero s.tt.ticks s.T s.clk else l0
    let l2 := if fill then l1.fill else l1
    let l3 := if adapt then l2.resetAdapt s.tt.ticks s.T else l2
    (s.setLimiter i l3, 0)

def State.hwmWrite (s : State) (data : Word) (strb : BitVec 8) : State :=
  let i := s.hwmSel
  if 22 ≤ i then s
  else
    let h := Tbl.getD i {} s.tt.hwm
    let v := strobe (mkWord [(32, 24, h.thresh)]) data strb
    let h1 : Hwm := { peak := if fbit v 62 then s.hwmVal i else h.peak, thresh := fld v 32 24, crossed := h.crossed && !fbit v 63 }
    { s with tt := { s.tt with hwm := Tbl.put i h1 s.tt.hwm } }

def State.ttbWrite (s : State) (off : Nat) (data : Word) (strb : BitVec 8) : State × Nat :=
  let b0 := fun (i : Nat) => strb.toNat.testBit 0 && fbit data i
  if off = 0 then s.tickCfgWrite data strb
  else if off = 8 then
    ({ s with tt := { s.tt with stepped := s.tt.stepped && !b0 2, overrun := s.tt.overrun && !b0 3 } }, 0)
  else if 0x10 ≤ off ∧ off < 0x30 then s.classWrite ((off - 0x10) / 8) data strb
  else if 0x40 ≤ off ∧ off < 0x60 then
    (s.setReg (0x10000 + off) (mkWord [(0, 2, fld (strobe (s.reg (0x10000 + off) 0) data strb) 0 2)]), 0)
  else if 0x80 ≤ off ∧ off < 0xA0 then
    (s.updGate ((off - 0x80) / 8) (fun g => { g with late := g.late && !b0 2, rejected := g.rejected && !b0 3 }), 0)
  else if off = 0x100 then
    let l := fld (strobe s.admitReg data strb) 0 7
    if l < 50 ∨ 90 < l then (s, 1) else ({ s with tt := { s.tt with limit := l } }, 0)
  else if off = 0x200 then (s.setReg 0x10200 (mkWord [(0, 12, fld (strobe (s.reg 0x10200 0) data strb) 0 12)]), 0)
  else if off = 0x208 then s.limWrite s.limSel (strobe (s.limiter s.limSel).cfg data strb)
  else if off = 0x218 then s.limAct s.limSel (b0 0) (b0 1) (b0 2)
  else if off = 0x300 then (s.setReg 0x10300 (mkWord [(0, 6, fld (strobe (s.reg 0x10300 0) data strb) 0 6)]), 0)
  else if off = 0x308 then (s.hwmWrite data strb, 0)
  else (s, 0)

/-! ### TRN_CTL (R194) -/

def State.trnWrite (s : State) (off : Nat) (data : Word) (strb : BitVec 8) : State × Nat :=
  if off ≠ 0 then (s, 0)
  else
    let v := strobe s.trnCtl data strb
    let h := fld v 0 10
    let g := fld v 12 8
    if s.trn.wins.any (fun w => w.ph == TPh.conjunction) then (s, if v = s.trnCtl then 0 else 5)
    else if h < 10 ∨ 1000 < h ∨ g = 0 ∨ h ≤ g ∨ fld v 20 8 = 0 then (s, 1)
    else (s.setReg 0x50000 (mkWord [(0, 10, h), (12, 8, g), (20, 8, fld v 20 8)]), 0)

/-! ### Tenant pages (R106, R439) -/

def State.tenantQs (s : State) (t : Nat) : List Queue := (Tbl.vals s.queues).filter (fun g => !g.dq && g.tenant == t)
def State.tenantRings (s : State) (t : Nat) : List Ring := (Tbl.vals s.rings).filter (fun g => !g.dq && g.tenant == t)

def State.tenStatus (s : State) (t : Nat) : Word :=
  let qs := (s.tenantQs t).filter (fun g => !isFwdQ g.ring)
  let rs := s.tenantRings t
  let any := fun (st : QSt) => b2n (qs.any (fun g => g.st == st))
  mkWord [(0, 1, b2n (s.tenant t).enabled), (1, 1, any QSt.held), (2, 1, any QSt.backed), (3, 1, any QSt.error),
          (8, 10, qs.length), (18, 9, rs.length),
          (32, 16, min 65535 (rs.foldl (fun a r => a + r.shareSlots) 0))]

/-- The queue at a doorbell index, the ring at a ring index. -/
def State.queueAt (s : State) (t d : Nat) : Option Nat :=
  (s.queues.find? (fun p => !p.2.dq && !isFwdQ p.1 && p.2.tenant == t && p.2.db == d)).map (·.1)
def State.ringAt (s : State) (t c : Nat) : Option Nat :=
  (s.rings.find? (fun p => !p.2.dq && p.2.tenant == t && p.2.c == c)).map (·.1)

def Ring.armWord (g : Ring) : Word :=
  mkWord [(0, 16, g.rdIdx), (16, 1, b2n g.rdWrap), (31, 1, b2n g.armed), (32, 16, g.wr), (48, 1, b2n g.wrWrap),
          (56, 1, b2n g.full), (57, 1, b2n g.sided)]

def ResultSlot.word0 (r : ResultSlot) : Word :=
  mkWord [(0, 1, b2n r.valid), (1, 1, b2n (!r.valid && !r.busy)), (2, 1, b2n r.busy),
          (8, 8, if r.valid then r.status else 0), (16, 16, if r.valid then r.tag else 0), (32, 32, if r.valid then r.info else 0)]
def ResultSlot.word1 (r : ResultSlot) : Word := if r.valid then r.data else 0

def State.tenRead (s : State) (t off : Nat) : Word :=
  let x := s.tenant t
  if !x.enabled then 0
  else if off = 0 then s.tenStatus t
  else if off = 8 then
    mkWord [(0, 1, b2n x.irqRing), (1, 1, b2n x.irqSiding), (2, 1, b2n x.irqBacked), (3, 1, b2n x.irqHeld), (4, 1, b2n x.irqError),
            (5, 1, b2n x.irqBadDb), (16, 8, x.lastRing), (32, 9, x.lastSq)]
  else if off = 0x18 then s.dqBase (0x2100 + t)
  else if 0x100 ≤ off ∧ off < 0x200 then
    let r := x.slots.getD ((off - 0x100) / 16) {}
    if off % 16 = 0 then r.word0 else r.hi.getD r.word1
  else if 0x800 ≤ off ∧ off < 0x1000 then
    match s.ringAt t ((off - 0x800) / 8) with
    | some r => (s.ring r).armWord
    | none => 0
  else 0

/-- A read of word 0 of a result slot freezes word 1 until that is read or word 0 is read again (R12, R105, R106). -/
def State.tenReadEff (s : State) (t off : Nat) : State :=
  if (s.tenant t).enabled ∧ 0x100 ≤ off ∧ off < 0x200 then
    let f := fun (r : ResultSlot) => { r with hi := if off % 16 = 0 then some r.word1 else none }
    s.updTenant t (fun x => { x with slots := updAt ((off - 0x100) / 16) f x.slots })
  else s

/-- A doorbell or arm write names an index not in use (R79, R98). -/
def State.badDb (s : State) (t : Nat) : State :=
  (s.updTenant t (fun x => { x with irqBadDb := true })).raise0 0x063 t

/-- TEN_DB (R79). -/
def State.ringDb (s : State) (t d : Nat) : State :=
  match s.queueAt t d with
  | none => s.badDb t
  | some q => (s.scanReq q).pumpQ q

/-- The re-read of R97 on a TEN_CRARM write, and that of R235 once the ring's port is UP. -/
def State.armReread (s : State) (r : Nat) : State :=
  let g := s.ring r
  if g.hold then
    if s.portUp g.port then (s.updRing r (fun g => { g with hold := false, edge := false })).look r else s
  else s.reread r

/-- TEN_CRARM (R100): a message is due where completions are unconsumed. -/
def State.crArm (s : State) (t c : Nat) (data : Word) (strb : BitVec 8) : State :=
  match s.ringAt t c with
  | none => s.badDb t
  | some r =>
    let g := s.ring r
    let v := strobe g.armWord data strb
    let s1 := s.updRing r (fun g => { g with rdIdx := fld v 0 16, rdWrap := fbit v 16, armed := fbit v 31 })
    let s2 := s1.armReread r
    if fbit v 31 ∧ (g.wr ≠ fld v 0 16 ∨ g.wrWrap ≠ fbit v 16) then s2.ringDue r else s2

/-- Release of a result slot (R104). -/
def State.slotRelease (s : State) (t i : Nat) : State :=
  if ((s.tenant t).slots.getD i {}).valid then s.slotSet t i {} else s

/-- The queue and ring of a Dispatch Queue exist from its first enable on. -/
def State.dqMake (s : State) (q : Nat) : State :=
  if Tbl.has q s.queues then s
  else
    let t := q - 0x2100
    let x := if q = 0x2000 then 0 else t
    { s with queues := Tbl.put q { dq := true, tenant := x, ring := q, cls := 3, st := QSt.disabled } s.queues,
             rings := Tbl.put q { dq := true, tenant := x } s.rings }

/-- TEN_DQBASE and GLB_DQBASE (R324). -/
def State.dqWrite (s : State) (q : Nat) (data : Word) (strb : BitVec 8) : State × Nat :=
  let old := s.dqBase q
  let v := strobe old data strb
  let idle := (s.dqState q == 0 || s.dqState q == 3) && !s.dqEnabling q
  let moved := fld v 6 46 != fld old 6 46
  let hit := moved || decide (bits strb.toNat 1 6 ≠ 0)
  if moved && !idle then (s, 1)
  else
    let s1 := if idle && hit then
        ((s.setReg (dqReg q) (mkWord [(6, 46, fld v 6 46)])).dqMake q).updQueue q (fun g => { g with addrNew := true }) else s
    if !strb.toNat.testBit 0 then (s1, 0)
    else if fbit v 0 then
      if !idle then (s1, 0)
      else
        let s2 := s1.dqMake q
        let a := 64 * fld v 6 46
        if q = 0x2000 then (s2.ctl q true (rdLines a 64 0) ⟨.dqRec, q, 0⟩ none false, 0)
        else
          match findWin s2.wins (q - 0x2100) a 64 with
          | some (_, w) =>
            if w.rd then (s2.ctl q true (rdLines (addOff a w.offset) 64 0) ⟨.dqRec, q, 0⟩ (some w.port) w.mem, 0)
            else (s2.updQueue q (fun g => { g with err := 1 }), 0)
          | none => (s2.updQueue q (fun g => { g with err := 1 }), 0)
    else if s.dqState q = 1 then (s1.dqHalt q false, 0)
    else (s1, 0)

/-- TEN_DQDB and GLB_DQDB (R322): a doorbell and a ring re-read of an ACTIVE Dispatch Queue. -/
def State.dqBell (s : State) (q : Nat) : State :=
  if s.dqState q = 1 then ((s.reread (s.queue q).ring).scanReq q).pumpQ q else s

def State.tenWrite (s : State) (t off : Nat) (data : Word) (strb : BitVec 8) : State × Nat :=
  if !(s.tenant t).enabled then (s, 5)
  else if off = 8 then
    let c := fun (i : Nat) (b : Bool) => b && !(strb.toNat.testBit 0 && fbit data i)
    (s.updTenant t (fun x => { x with irqRing := c 0 x.irqRing, irqSiding := c 1 x.irqSiding, irqBacked := c 2 x.irqBacked,
                                      irqHeld := c 3 x.irqHeld, irqError := c 4 x.irqError, irqBadDb := c 5 x.irqBadDb }), 0)
  else if off = 0x18 then s.dqWrite (0x2100 + t) data strb
  else if off = 0x20 then (s.dqBell (0x2100 + t), 0)
  else if 0x100 ≤ off ∧ off < 0x200 then (s.slotRelease t ((off - 0x100) / 16), 0)
  else if 0x800 ≤ off ∧ off < 0x1000 then (s.crArm t ((off - 0x800) / 8) data strb, 0)
  else if 0x1000 ≤ off then (s.ringDb t ((off - 0x1000) / 8), 0)
  else (s, 0)

/-! ### The aperture (R426) -/

/-- What a register of a page other than ODW holds. -/
def State.pageRead (s : State) (off : Nat) : Word :=
  if off < 0x10000 then s.glbRead off
  else if off < 0x20000 then s.ttbRead (off % 65536)
  else if off < 0x30000 then s.sbxRead (off % 65536)
  else if off < 0x40000 then 0
  else if off < 0x50000 then s.bgsRead (off % 65536)
  else if off < 0x60000 then (if off % 65536 = 0 then s.trnCtl else s.trnReg (off % 65536))
  else if off < 0x70000 then s.stnRead (off % 65536)
  else if off < 0x80000 then 0
  else if off < 0x100000 then s.chRead ((off - 0x80000) / 1024) (off % 1024)
  else if off < 0x300000 then s.tenRead ((off - 0x100000) / 8192) (off % 8192)
  else if 0x400000 ≤ off ∧ off < 0x410000 then s.wbgRead (off % 65536)
  else 0

/-- What a read of a register changes: the frozen words of the RL registers (R12). -/
def State.readEff (s : State) (off : Nat) : State :=
  if 0x20000 ≤ off ∧ off < 0x30000 then s.sbxReadEff (off % 65536)
  else if 0x100000 ≤ off ∧ off < 0x300000 then s.tenReadEff ((off - 0x100000) / 8192) (off % 8192)
  else s

/-- The code a refused write carries where only a flag says so. -/
def refusal (r : State × Bool) (why : Nat) : State × Nat := (r.1, if r.2 then 0 else why)

/-- The windows of R295 in which SBX_INJ accepts writes. -/
def State.injWindow (s : State) : Bool :=
  (s.mode == .coldInit && decide (2 ≤ s.sessRole 0)) || s.makerFt ||
  (s.mode == .configure && s.pwr.recovery && decide (2 ≤ s.sessRole 0))

/-- A write to a GLB register other than GLB_MODE. -/
def State.glbWrite (s : State) (off : Nat) (data : Word) (strb : BitVec 8) : State × Nat :=
  if off = 0x48 then s.dqWrite 0x2000 data strb
  else if off = 0x50 then (s.dqBell 0x2000, 0)
  else if 0x100 ≤ off ∧ off < 0x200 ∧ off % 32 = 0 then s.xaCfgWrite ((off - 0x100) / 32) data strb
  else if 0x1000 ≤ off ∧ off < 0x9000 ∧ off % 16 = 0 then s.vecWrite ((off - 0x1000) / 16) data strb
  else if off = 0x9000 then (s.setReg 0x9000 (mkWord [(0, 16, fld (strobe (s.reg 0x9000 0) data strb) 0 16)]), 0)
  else (s, 0)

/-- SBX page, WARM_RESET included (R299). -/
def State.sbxPage (s : State) (off : Nat) (data : Word) (strb : BitVec 8) (p : Path) : State × Nat :=
  if off = 0x400 ∧ strb.toNat.testBit 2 ∧ fbit data 16 then (s.keyTouch, 4)
  else
    let maker := s.mode == .factoryTest && s.role p == 3
    let locked := decide (0x100 ≤ off ∧ off < 0x1C0) && fbit (s.reg 0x20000 0) 16
    refusal (s.sbxWrite off data strb maker s.injWindow) (if locked then 9 else 1)

/-- STN page: a RWC field refused outside CONFIGURE is a matter of mode. -/
def State.stnPage (s : State) (off : Nat) (data : Word) (strb : BitVec 8) : State × Nat :=
  let v := strobe s.stnCtl data strb
  let rwc := off == 0 && (fbit v 0 != fbit s.stnCtl 0 || fld v 16 16 != fld s.stnCtl 16 16) && s.mode != .configure
  refusal (s.stnWrite off data strb) (if rwc then 4 else 1)

/-- The effect of a write that has passed the gates, on any page but ODW and apart from GLB_MODE: the new state, and the
reason it is refused with, 0 where it is accepted. -/
def State.pageWrite (s : State) (off : Nat) (data : Word) (strb : BitVec 8) (p : Path) : State × Nat :=
  if off < 0x10000 then s.glbWrite off data strb
  else if off < 0x20000 then s.ttbWrite (off % 65536) data strb
  else if off < 0x30000 then s.sbxPage (off % 65536) data strb p
  else if off < 0x40000 then (s, 0)
  else if off < 0x50000 then refusal (s.bgsWrite (off % 65536) data strb) 1
  else if off < 0x60000 then s.trnWrite (off % 65536) data strb
  else if off < 0x70000 then s.stnPage (off % 65536) data strb
  else if off < 0x80000 then (s, 0)
  else if off < 0x100000 then
    let c := (off - 0x80000) / 1024
    if (s.chan c).granted then
      let r := s.chWrite c (off % 1024) data strb
      refusal (r.1.chPump c, r.2) 1
    else (s, 5)
  else if off < 0x300000 then s.tenWrite ((off - 0x100000) / 8192) (off % 8192) data strb
  else if 0x400000 ≤ off ∧ off < 0x410000 then
    refusal (s.wbgWrite (off % 65536) data strb (s.mode == .factoryTest && s.role p == 3) (s.who p)) 1
  else if 0x1000000 ≤ off then (s, if s.makerFt then 0 else 4)
  else (s, 0)

/-- Registers whose writes are journalled (R67, R194, R274, R278, R370, R431). -/
def journalled (off : Nat) : Bool :=
  (decide (0x1000 ≤ off ∧ off < 0x9000) && off % 16 == 0) || off == 0x10000 || (decide (0x10010 ≤ off) && decide (off < 0x10030)) ||
  (decide (0x10040 ≤ off) && decide (off < 0x10060)) || off == 0x10100 || off == 0x10208 || off == 0x10218 ||
  (decide (0x20100 ≤ off) && decide (off < 0x201C0)) || off == 0x40000 || off == 0x50000 ||
  off == 0x60000 || off == 0x60020 || off == 0x60028 || off == 0x60030

/-- A write on the register path that has passed the gates of power and mode: session, journal, effect. -/
def State.gatedWrite (s : State) (off : Nat) (data : Word) (strb : BitVec 8) : State × Nat :=
  let needs := decide (off < 0x70000) && !(decide (0x30000 ≤ off) && decide (off < 0x40000))
  let old := s.pageRead off
  let new := if off = 0x10218 then strobe 0 data strb else strobe old data strb
  if needs && decide (s.sessRole 0 < 2) then
    (if journalled off && !s.jFull then s.jrn 1 .reg 3 off old new else s, 3)
  else if journalled off then
    if s.jFull then (s, 0xA)
    else
      let r := s.pageWrite off data strb .reg
      (r.1.jrn 1 .reg r.2 off old new, r.2)
  else s.pageWrite off data strb .reg

/-- GLB_MODE on the register path (R404, R405): a write whose strobes leave REQ out requests nothing. -/
def State.modeWrite (s : State) (data : Word) (strb : BitVec 8) : State × Nat :=
  if strb.toNat.testBit 0 then s.modeRequest (fld data 0 4) .reg true else (s, 0)

/-- Writes served while SAFE or OFF is in force (R291, R407). -/
def State.safeWrite (s : State) (off : Nat) (data : Word) (strb : BitVec 8) : State × Nat :=
  if 0x400000 ≤ off ∧ off < 0x410000 then s.pageWrite off data strb .reg
  else if off = 0x20 ∧ strb.toNat.testBit 0 ∧
      (fld data 0 4 = 0 ∨ fld data 0 4 = 7 ∨ (s.mode = .off ∧ fld data 0 4 = 1)) then s.modeWrite data strb
  else if off = 0x20400 ∧ strb.toNat.testBit 2 ∧ fbit data 16 ∧ s.mode = .safe ∧ s.sbx.sub ≠ 3 then (s.warmRequest, 0)
  else (s, 4)

/-- Reads served while SAFE or OFF is in force. -/
def safeRead (off : Nat) : Bool :=
  off == 0 || off == 8 || off == 0x28 || (decide (0x20000 ≤ off) && decide (off < 0x30000)) ||
  (decide (0x400000 ≤ off) && decide (off < 0x410000))

end Sys2Proof.Machine
end

