-- ==== Sys2Proof/Machine/Dict.lean ====
section
/-! DEFINITION. The object dictionary, its register path (the ODW page), sessions, MCTP access and the spilling of the audit
journal (R339 to R351, with the objects of R195, R292, R318, R342, R370 and R424). -/

namespace Sys2Proof.Machine

/-! ### Objects -/

/-- An object: value bytes; rights of Operator, Installer and Maker (0 none, 1 read, 2 read and write); the tenant it
belongs to, where it belongs to one (256: to no tenant that exists); the register domain it mirrors. -/
structure Obj where
  size : Nat
  o : Nat
  i : Nat
  m : Nat
  owner : Option Nat := none
  dom : Option Nat := none
deriving DecidableEq, Repr

def sizeOfList (l : List Nat) (k : Nat) : Option Nat := l[k]?

/-- The objects (R341, R342 and the tables it names). -/
def State.odObj (s : State) (ix sub : Nat) : Option Obj :=
  let ro : Nat → Option Obj := fun n => some ⟨n, 1, 1, 1, none, none⟩
  let ir : Nat → Option Nat → Option Obj := fun n d => some ⟨n, 0, 1, 1, none, d⟩
  if ix = 0x1000 then (if sub = 0 then none else (sizeOfList [4, 4, 8, 4, 1] (sub - 1)).bind ro)
  else if ix = 0x1010 then
    if sub = 1 then ro 32 else if sub = 2 then some ⟨40, 2, 2, 2, none, none⟩ else if sub = 3 then some ⟨1, 2, 2, 2, none, none⟩
    else if sub = 4 then some ⟨2, 0, 2, 2, none, none⟩ else if sub = 5 then ro 1 else none
  else if ix = 0x1100 then
    if sub = 1 then some ⟨1, 0, 2, 2, none, none⟩ else if sub = 0 then none else (sizeOfList [1, 1, 1, 1, 2, 4, 4] (sub - 2)).bind ro
  else if ix = 0x2000 then
    let n := if sub = 1 ∨ sub = 3 then 1 else if sub = 2 then 4
             else if (0x10 ≤ sub ∧ sub < 0x14) ∨ (0x20 ≤ sub ∧ sub < 0x24) then 8 else 0
    if n = 0 then none else some ⟨n, 1, 2, 2, none, some domTT⟩
  else if 0x2110 ≤ ix ∧ ix < 0x2120 then some ⟨8, 0, 2, 2, none, some domTT⟩
  else if 0x3000 ≤ ix ∧ ix < 0x3100 then
    if sub = 0 then none
    else (sizeOfList [1, 2, 2, 1, 1, 2, 1, 1] (sub - 1)).bind (fun n => some ⟨n, 1, 1, 1, some (ix - 0x3000), none⟩)
  else if 0x3800 ≤ ix ∧ ix < 0x3A00 then
    let q := 16 * (ix - 0x3800) + sub / 16
    (sizeOfList [1, 1, 2, 2, 1, 1, 1, 2, 4, 4, 8] (sub % 16)).bind (fun n =>
      some ⟨n, 1, 1, 1, some (if Tbl.has q s.queues then (s.queue q).tenant else 256), none⟩)
  else if 0x4000 ≤ ix ∧ ix < 0x4200 then
    let own := some (s.chan (ix - 0x4000)).tenant
    if sub = 0 then none
    else (sizeOfList [1, 1, 1, 1, 1, 2, 4, 4] (sub - 1)).map (fun n => (⟨n, 1, 2, 2, own, none⟩ : Obj)) <|>
      (if sub = 9 then some ⟨1, 1, 1, 1, own, none⟩ else none)
  else if 0x5000 ≤ ix ∧ ix < 0x5100 then
    let w := 16 * (ix - 0x5000) + sub / 16
    (sizeOfList [1, 1, 8, 8, 8, 1, 1, 1] (sub % 16)).bind (fun n =>
      some ⟨n, 1, 1, 1, some (match Tbl.get w s.wins with | some x => x.tenant | none => 256), none⟩)
  else if ix = 0x6000 then (if sub = 6 then ro 8 else if 1 ≤ sub ∧ sub ≤ 5 then ir 8 none else none)
  else if ix = 0x6001 then (if sub < 24 then some ⟨8, 0, 2, 2, none, none⟩ else none)
  else if ix = 0x6002 then ir 4 none
  else if ix = 0x6003 then (if sub < 0x80 then ir 4 none else none)
  else if ix = 0x7000 then
    if sub = 1 then some ⟨8, 0, 2, 2, none, some domBGS⟩
    else if (2 ≤ sub ∧ sub ≤ 5) ∨ (0x10 ≤ sub ∧ sub < 0x28) ∨ (0x40 ≤ sub ∧ sub < 0xC8) then ir 8 (some domBGS) else none
  else if ix = 0x7800 then
    if sub = 1 then some ⟨8, 0, 2, 2, none, some domTRN⟩ else if sub = 2 then ir 8 (some domTRN) else none
  else if 0x7801 ≤ ix ∧ ix ≤ 0x7808 then
    if 1 ≤ sub ∧ sub ≤ 5 then ir 8 (some domTRN)
    else if sub < 0x10 then none
    else (sizeOfList [8, 8, 8, 8, 8, 4, 8, 8, 1] (sub - 0x10)).bind (fun n => ir n (some domTRN))
  else if ix = 0x8000 then
    if sub = 1 then ro 4 else if sub = 2 then ro 2 else if sub = 3 ∨ sub = 5 then ir 8 none
    else if sub = 4 ∨ sub = 6 then ir 4 none else none
  else if ix = 0x9000 then
    let d := if 5 ≤ sub then some domDSP else none
    if sub = 1 ∨ (5 ≤ sub ∧ sub ≤ 7) then some ⟨8, 1, 2, 2, none, d⟩ else if 1 ≤ sub ∧ sub ≤ 8 then some ⟨8, 1, 1, 1, none, d⟩ else none
  else if ix = 0xA000 then
    if sub = 1 then some ⟨2, 1, 2, 2, none, none⟩ else if sub = 2 then some ⟨1, 1, 2, 2, none, none⟩
    else if sub = 3 ∨ sub = 4 ∨ sub = 6 then some ⟨2, 0, 2, 2, none, none⟩ else if sub = 5 then some ⟨1, 0, 2, 2, none, none⟩
    else if sub = 7 ∨ sub = 8 ∨ sub = 12 then ir 13 none else if sub = 9 ∨ sub = 11 then ir 4 none else if sub = 10 then ir 1 none
    else none
  else if ix = 0xA001 then (if sub < 0x14 then ir 4 none else none)
  else if ix = 0xA002 then (if 1 ≤ sub ∧ sub ≤ 4 then ir 2 none else none)
  else if ix = 0xF010 then (if sub = 1 then some ⟨32, 0, 0, 2, none, none⟩ else if sub = 2 then ir 4 none else none)
  else none

/-- The right a path holds on an object (R340). -/
def State.odRight (s : State) (p : Path) (ix sub : Nat) (ob : Obj) : Nat :=
  let r := s.role p
  let foreign := r == 1 && (match ob.owner with | some t => s.operator p != some t | none => false)
  if r = 0 ∨ foreign then
    if ix = 0x1010 ∧ (sub = 2 ∨ sub = 3) then 2
    else if (0x1000 ≤ ix ∧ ix < 0x1100) ∨ (ix = 0x1100 ∧ sub = 2) ∨ (ix = 0x6000 ∧ sub = 6) then 1 else 0
  else if r = 1 then ob.o else if r = 2 then ob.i else ob.m

/-- INSTALLER_KCV (R341). -/
def kcvInst (key : Nat) : Nat :=
  if key = 0 then 0
  else leNat ((hmac (leBytes 32 key) [0x48, 0x5A, 0x2D, 0x49, 0x4E, 0x53, 0x54, 0x2D, 0x4B, 0x43, 0x56]).take 4)

/-- STATE of a queue in the codes of R338. -/
def QSt.code : QSt → Nat
  | .active => 1 | .backed => 2 | .draining => 3 | .disabled => 4 | .held => 5 | .error => 6 | .stopping => 0

/-- A limiter binding as a U16: number and enable. -/
def limU16 (l : Option Nat) : Nat := match l with | some i => i + 32768 | none => 0

/-- Fields of a queue summary. DEDUCED (log 95): RING, a U16, is the block-wide ring ID. -/
def State.odQueue (s : State) (q f : Nat) : Nat :=
  match Tbl.get q s.queues with
  | none => 0
  | some g =>
    let r := Tbl.get q s.tt.resv
    match f with
    | 0 => g.st.code
    | 1 => g.tenant
    | 2 => g.db
    | 3 => g.ring
    | 4 => g.cls
    | 5 => g.prio
    | 6 => g.xset
    | 7 => limU16 g.lim
    | 8 => (r.map (·.qrd)).getD 0
    | 9 => (r.map (·.qwr)).getD 0
    | _ => (mkWord [(0, 20, g.hwIdx), (20, 1, b2n g.hwWrap), (32, 32, g.hwStarts)]).toNat

def State.odWindow (s : State) (w f : Nat) : Nat :=
  match Tbl.get w s.wins with
  | none => 0
  | some x =>
    match f with
    | 0 => 1
    | 1 => x.tenant
    | 2 => x.base
    | 3 => x.size
    | 4 => unsign x.offset 64
    | 5 => b2n x.mem + 2 * b2n x.rd + 4 * b2n x.wr
    | 6 => x.station
    | _ => x.port

def State.odTenant (s : State) (t f : Nat) : Nat :=
  let x := s.tenant t
  match f with
  | 1 => b2n x.enabled
  | 2 => x.maxSq
  | 3 => x.maxCr
  | 4 => x.classes
  | 5 => x.bestPrio
  | 6 => x.limiter + (if x.limEn then 32768 else 0)
  | 7 => fld x.set0 48 8
  | _ => b2n (fbit x.set0 56)

def State.odChan (s : State) (c f : Nat) : Nat :=
  let x := s.chan c
  match f with
  | 1 => b2n x.granted
  | 2 => x.tenant
  | 3 => x.cls
  | 4 => x.prio
  | 5 => x.xset
  | 6 => x.limiter
  | 7 => x.qrd
  | 8 => x.qwr
  | _ => x.st.code

/-- Rates of R31 from the units GLB_STATUS shows. -/
def State.copyRate (s : State) : Nat :=
  min (min ((8 - popcount s.sbx.sxa 8) * 204800) ((64 - popcount s.sbx.smv 64) * 51200)) ((8 - popcount s.sbx.sbank 8) * 409600)

def State.odTransit (s : State) (w f : Nat) : Nat :=
  let t := s.tw w
  if f < 0x10 then (s.trnReg (0x100 + 0x80 * w + 8 * (f - 1))).toNat
  else match f with
    | 0x10 => t.p.served
    | 0x11 => t.p.size
    | 0x12 => t.p.dst
    | 0x13 => t.p.src
    | 0x14 => t.p.bitmap
    | 0x15 => t.p.bind
    | 0x16 => t.p.params.toNat
    | 0x17 => t.p.limits.toNat
    | _ => (t.conjoin.map (fun c => c.2.2)).getD 0

def State.odPower (s : State) (f : Nat) : Nat :=
  let p := s.pwr
  match f with
  | 1 => p.coreMhz
  | 2 => p.mvMin
  | 3 => p.mvIdle
  | 4 => p.rqIdle
  | 5 => p.qpark
  | 6 => p.tmo
  | 7 => p.req
  | 8 => p.wait.foldl (fun a d => if maskHas p.req d.1 then a else maskSet a d.1) p.up
  | 9 => (List.range 16).foldl (fun a b =>
      let d := domSs b
      a + (if Tbl.has d p.wait then 3 else if maskHas p.up d then 1 else if maskHas p.ret d then 2 else 0) * 4 ^ b) 0
  | 10 => p.lastDeny
  | 11 => p.denies
  | _ => p.failed

/-- The value of an object that is not drawn afresh at each read. -/
def State.odValue (s : State) (p : Path) (ix sub : Nat) : Nat :=
  if ix = 0x1000 then
    (if sub = 1 then 0x48574B4D else if sub = 2 then 0x10004 else if sub = 3 then Config.build.toNat else if sub = 4 then 0xD1A4 else s.stn.id)
  else if ix = 0x1010 then (if sub = 4 then s.dct.idleS else if sub = 5 then s.role p else 0)
  else if ix = 0x1100 then
    if sub = 1 then s.pwr.modeReq else if sub = 2 then s.mode.code else if sub = 3 then 64 - popcount s.sbx.smv 64
    else if sub = 4 then 255 - s.sbx.sxa else if sub = 5 then 15 - s.sbx.srq else if sub = 6 then 65535 - s.sbx.sbank
    else if sub = 7 then s.copyRate else 512 * (4 - popcount s.sbx.srq 4)
  else if ix = 0x2000 then
    if sub = 1 then s.tt.cfgLen else if sub = 2 then s.tt.cfgPhase else if sub = 3 then s.tt.limit
    else if sub < 0x20 then (s.classCfg (sub - 0x10)).toNat else (s.reg (0x10040 + 8 * (sub - 0x20)) 0).toNat
  else if ix < 0x3000 then (s.limiter (256 * (ix - 0x2110) + sub)).cfg.toNat
  else if ix < 0x3800 then s.odTenant (ix - 0x3000) sub
  else if ix < 0x4000 then s.odQueue (16 * (ix - 0x3800) + sub / 16) (sub % 16)
  else if ix < 0x5000 then s.odChan (ix - 0x4000) sub
  else if ix < 0x6000 then s.odWindow (16 * (ix - 0x5000) + sub / 16) (sub % 16)
  else if ix = 0x6000 then
    (if sub = 1 then s.sbxRead 8 else if sub = 2 then s.firstWord false else if sub = 3 then s.firstWord true
     else if sub = 4 then s.sbxRead 0x20 else if sub = 5 then s.safeStat else s.modestat).toNat
  else if ix = 0x6001 then (s.sbx.sev.getD sub 0).toNat
  else if ix = 0x6002 then Tbl.getD sub 0 s.sbx.counts
  else if ix = 0x6003 then Tbl.getD (256 + sub) 0 s.sbx.counts
  else if ix = 0x7000 then
    (if sub = 1 then s.bgsRead 0 else if sub = 2 then s.bgsRead 8 else if sub = 3 then s.bgsRead 0x400
     else if sub = 4 then s.bgsRead 0x408 else if sub = 5 then s.bgsRead 0x500
     else if sub < 0x20 then s.bgsRead (0x200 + 8 * (sub - 0x10))
     else if sub < 0x28 then s.bgsRead (0x300 + 8 * (sub - 0x20))
     else if sub < 0x80 then (s.setReg 0x40100 (BitVec.ofNat 64 (sub - 0x40))).bgsRead 0x108
     else if sub < 0xC0 then (s.setReg 0x40100 (BitVec.ofNat 64 (sub - 0x80))).bgsRead 0x110
     else (s.setReg 0x40600 (BitVec.ofNat 64 (sub - 0xC0))).bgsRead 0x608).toNat
  else if ix = 0x7800 then (if sub = 1 then s.trnCtl else s.trnReg 8).toNat
  else if ix < 0x8000 then s.odTransit (ix - 0x7801) sub
  else if ix = 0x8000 then
    if sub = 1 then 0x10002 else if sub = 2 then 1 else if sub = 3 then s.wbg.state.toNat else if sub = 4 then s.wbg.tamper
    else if sub = 5 then s.wbg.loss.toNat else s.wbg.kcv
  else if ix = 0x9000 then (s.stnRead ([0, 8, 0x10, 0x18, 0x20, 0x28, 0x30, 0x40].getD (sub - 1) 0)).toNat
  else if ix = 0xA000 then s.odPower sub
  else if ix = 0xA001 then (if s.clkArmed sub then Tbl.getD sub 0 s.pwr.clkMeas else 0)
  else if ix = 0xF010 then kcvInst s.dct.key
  else 0

/-! ### Sessions (R348) -/

/-- Nonce reads on a path are refused (R348). -/
def State.locked (s : State) (k : Nat) : Bool := match Tbl.get k s.dct.lock with | some t => decide (s.clk < t) | none => false

/-- A nonce read: a fresh nonce replaces the path's earlier one. -/
def State.nonceRead (s : State) (k : Nat) : State × Nat × Nat :=
  if s.locked k then (s, 0xB, 0)
  else
    let n := s.dct.nonceCtr
    ({ s with dct := { s.dct with nonceCtr := n + 1, nonces := Tbl.put k ⟨n, s.clk⟩ s.dct.nonces } }, 0, (Config.nonce n).toNat)

/-- EID of a path in a proof. -/
def pathEid : Path → Nat
  | .mctp e => e.toNat
  | _ => 0

/-- The TAG a proof must carry, where a nonce is in force and the key is not all zero. -/
def State.proofTag (s : State) (p : Path) (role : Nat) : Option Nat :=
  let key := if role = 3 then (if s.dct.maker then Config.makerKey.toNat else 0) else s.dct.key
  match Tbl.get (pathKey p) s.dct.nonces with
  | none => none
  | some n =>
    if key = 0 ∨ n.at_ + 10 ^ 13 < s.clk then none
    else some (leNat (hmac (leBytes 32 key) (leBytes 32 (Config.nonce n.n).toNat ++ [role, pathCode p, pathEid p, s.stn.id])))

/-- A PROOF write: a session of the role sought, or the reason it is refused with. -/
def State.proof (s : State) (p : Path) (v : Nat) : State × Nat :=
  let k := pathKey p
  let role := bits v 0 8
  let s0 : State := { s with dct := { s.dct with nonces := Tbl.del k s.dct.nonces } }
  let full := k != 0 && !(Tbl.has k s.dct.sess) && decide (16 ≤ (s.dct.sess.filter (fun x => x.1 != 0)).length)
  if (role ≠ 2 ∧ role ≠ 3) ∨ bits v 8 56 ≠ 0 then (s.jrn 3 p 1 role 0 0, 1)
  else if role = 3 ∧ s.mode = .safe then (s0.jrn 3 p 4 role 0 0, 4)
  else if s.proofTag p role = some (bits v 64 256) then
    if full then (s0.jrn 3 p 0xE role 0 0, 0xE)
    else
      let s1 : State := { s0 with dct := { s0.dct with sess := Tbl.put k ⟨role, s.clk⟩ s0.dct.sess } }
      (s1.jrn 3 p 0 role 0 0, 0)
  else
    let s1 : State := { s0 with dct := { s0.dct with
      fails := min 65535 (s0.dct.fails + 1), lock := Tbl.put k (s.clk + 10 ^ 11) s0.dct.lock } }
    ((s1.raise0 0x101 (pathEid p)).jrn 3 p 0xB role 0 0, 0xB)

/-- A nonce expires 10 s after its issue. -/
def State.nonceEnd (s : State) (k : Nat) : State :=
  match Tbl.get k s.dct.nonces with
  | none => s
  | some n =>
    let s1 := s.reach (n.at_ + 10 ^ 13)
    { s1 with dct := { s1.dct with nonces := Tbl.del k s1.dct.nonces } }

/-- The refusal of nonce reads ends. -/
def State.lockEnd (s : State) (k : Nat) : State :=
  match Tbl.get k s.dct.lock with
  | none => s
  | some t =>
    let s1 := s.reach t
    { s1 with dct := { s1.dct with lock := Tbl.del k s1.dct.lock } }

/-! ### Writes -/

/-- A write through to the register an object mirrors (R340). -/
def State.mirror (s : State) (off v : Nat) (p : Path) : State × Nat :=
  let r := s.pageWrite off (BitVec.ofNat 64 v) 0xFF p
  ({ r.1 with sbx := { r.1.sbx with key := s.sbx.key } }, r.2)

/-- The reservation of a channel with new figures (R195): the reason it is refused with. -/
def State.chanQ (s : State) (c rd wr : Nat) : State × Nat :=
  let ch := s.chan c
  let others := Tbl.del (chRq c) s.tt.resv
  let upd := fun (s : State) => s.updChan c (fun x => { x with qrd := rd, qwr := wr })
  if rd > 2 ^ 24 ∨ wr > 2 ^ 24 ∨ ((rd ≠ 0 ∨ wr ≠ 0) ∧ ch.cls ≠ 1) then (s, 1)
  else if rd = 0 ∧ wr = 0 then (upd { s with tt := { s.tt with resv := others } }, 0)
  else
    let r : Resv := { qrd := rd, qwr := wr, xset := ch.xset, rRd := shareOf rd ch.xset, rWr := shareOf wr ch.xset }
    if s.resvFits others r then (upd { s with tt := { s.tt with resv := Tbl.put (chRq c) r others } }, 0)
    else ({ s with tt := { s.tt with refused := (s.tt.refused + 1) % 65536 } }, 7)

/-- Objects 0x4000 + n (R195). -/
def State.chanPut (s : State) (c sub v : Nat) : State × Nat :=
  let ch := s.chan c
  let upd := fun (f : Chan → Chan) => s.updChan c f
  if ch.st ≠ .disabled then (s, 5)
  else if sub = 1 then (if 1 < v then (s, 1) else (upd (fun x => { x with granted := v == 1 }), 0))
  else if sub = 2 then (upd (fun x => { x with tenant := v }), 0)
  else if sub = 3 then (if 3 < v then (s, 1) else (upd (fun x => { x with cls := v }), 0))
  else if sub = 4 then (if 7 < v then (s, 1) else (upd (fun x => { x with prio := v }), 0))
  else if sub = 5 then (if v = 0 then (s, 1) else (upd (fun x => { x with xset := v }), 0))
  else if sub = 6 then (if bits v 12 3 ≠ 0 then (s, 1) else (upd (fun x => { x with limiter := v }), 0))
  else if sub = 7 then s.chanQ c v ch.qwr
  else s.chanQ c ch.qrd v

/-- Objects 0xA000 (R414, R416 to R419, R424). -/
def State.powerPut (s : State) (sub v : Nat) : State × Nat :=
  let rwc := (sub == 1 || sub == 6) && s.odPower sub != v && s.mode != .configure
  let lim : Nat × Nat := match sub with
    | 1 => (800, 1600) | 2 => (0, 64) | 3 => (1, 10000) | 4 => (1, 10000) | 5 => (0, 2) | _ => (10, 10000)
  if rwc then (s, 4)
  else if v < lim.1 ∨ lim.2 < v then (s, 1)
  else if sub = 1 ∧ v ≠ s.pwr.coreMhz ∧ !s.tt.resv.isEmpty then (s, 5)
  else
    let p := s.pwr
    ({ s with pwr := match sub with
      | 1 => { p with coreMhz := v } | 2 => { p with mvMin := v } | 3 => { p with mvIdle := v } | 4 => { p with rqIdle := v }
      | 5 => { p with qpark := v } | _ => { p with tmo := v } }, 0)

/-- The effect of a dictionary write whose right and length are in order. -/
def State.odPut (s : State) (p : Path) (ix sub v : Nat) : State × Nat :=
  if ix = 0x1010 then
    if sub = 2 then s.proof p v
    else if sub = 3 then (if 1 < v then (s, 1) else if v = 1 then (s.endSession p, 0) else (s, 0))
    else if v < 10 ∨ 3600 < v then (s, 1) else ({ s with dct := { s.dct with idleS := v } }, 0)
  else if ix = 0x1100 then (if 15 < v then (s, 1) else s.modeRequest v p false)
  else if ix = 0x2000 then
    if sub = 1 then
      (if v = s.tt.cfgLen then (s, 0) else if s.mode ≠ .configure then (s, 4) else if 7 < v then (s, 1)
       else s.mirror 0x10000 ((setFld s.tickCfg 0 3 v).toNat) p)
    else if sub = 2 then
      (if v = s.tt.cfgPhase then (s, 0) else if s.mode ≠ .configure then (s, 4) else if 2 ^ 14 ≤ v then (s, 1)
       else s.mirror 0x10000 ((setFld s.tickCfg 16 14 v).toNat) p)
    else if sub = 3 then (if 127 < v then (s, 1) else s.mirror 0x10100 v p)
    else if sub < 0x20 then s.mirror (0x10010 + 8 * (sub - 0x10)) v p
    else s.mirror (0x10040 + 8 * (sub - 0x20)) v p
  else if ix < 0x3000 then s.limWrite (256 * (ix - 0x2110) + sub) (BitVec.ofNat 64 v)
  else if ix < 0x5000 then s.chanPut (ix - 0x4000) sub v
  else if ix = 0x6001 then s.mirror (0x20100 + 8 * sub) v p
  else if ix = 0x7000 then s.mirror 0x40000 v p
  else if ix = 0x7800 then s.mirror 0x50000 v p
  else if ix = 0x9000 then s.mirror (0x60000 + [0, 8, 0x10, 0x18, 0x20, 0x28, 0x30].getD (sub - 1) 0) v p
  else if ix = 0xA000 then s.powerPut sub v
  else ({ s with dct := { s.dct with keyCells := v, key := v } }, 0)

/-- A Dispatch Queue has no session (R348). -/
def isDq : Path → Bool
  | .dq _ => true
  | _ => false

def objDown (s : State) (ob : Obj) : Bool := match ob.dom with | some d => !s.isOn d | none => false

/-- A dictionary read: the new state, reason, value and its length. -/
def State.odRead (s : State) (p : Path) (ix sub : Nat) : State × Nat × Nat × Nat :=
  match s.odObj ix sub with
  | none => (s, 2, 0, 0)
  | some ob =>
    if (isDq p && ix == 0x1010 && sub == 1) || s.odRight p ix sub ob == 0 then (s, 3, 0, 0)
    else if objDown s ob then (s, 0xC, 0, 0)
    else if ix = 0x1010 ∧ sub = 1 then
      let r := s.nonceRead (pathKey p)
      (r.1, r.2.1, r.2.2, if r.2.1 = 0 then 32 else 0)
    else if ix = 0xA002 then
      let f := s.freeVal
      (f.2, 0, f.1 % 65536, 2)
    else (s, 0, s.odValue p ix sub, ob.size)

/-- A dictionary write (R340, R350, R351): the new state, the reason, and the old value's low 64 bits. -/
def State.odWrite (s : State) (p : Path) (ix sub v len : Nat) : State × Nat × Nat :=
  let keyObj := ix == 0xF010
  let ses := ix == 0x1010 && (sub == 2 || (sub == 3 && v == 1 && s.sessRole (pathKey p) != 0))
  let mode := ix == 0x1100 && sub == 1
  let old := match s.odObj ix sub with | none => 0 | some _ => s.odValue p ix sub % 2 ^ 64
  let tgt := ix + sub * 65536
  let newJ := if keyObj then kcvInst (v % 2 ^ 256) else v % 2 ^ 64
  let log := fun (t : State) (why : Nat) => t.jrn 0 p why tgt (BitVec.ofNat 64 old) (BitVec.ofNat 64 newJ)
  let fail := fun (why : Nat) => (if s.jFull then s else log s why, why, 0)
  match s.odObj ix sub with
  | none => fail 2
  | some ob =>
    if (isDq p && ix == 0x1010 && (sub == 2 || sub == 3)) || s.odRight p ix sub ob != 2 then fail 3
    else if ob.i ≠ 2 ∧ s.mode ≠ .factoryTest then fail 4
    else if len ≠ ob.size then fail 8
    else if objDown s ob then fail 0xC
    else if s.jFull ∧ !(mode ∧ (v = 0 ∨ v = 7)) then (s, 0xA, 0)
    else
      let r := s.odPut p ix sub v
      (if ses || mode then r.1 else log r.1 r.2, r.2, old)

/-! ### The register path (R344) -/

/-- A dictionary access through ODW_CMD: `len` for a write. -/
def State.odwCmd (s : State) (write : Bool) (len : Nat) : State :=
  let ix := fld (s.reg 0x30000 0) 0 16
  let sub := fld (s.reg 0x30000 0) 16 8
  let d := s.dct
  if write then
    let r := if s.dspUp then s.odWrite .reg ix sub (d.buf % 2 ^ (8 * min len 256)) len else (s, 0xC, 0)
    { r.1 with dct := { r.1.dct with valid := true, stale := false, result := r.2.1, len := if r.2.1 = 0 then len else 0,
                                     seq := (d.seq + 1) % 65536 } }
  else
    let r := if s.dspUp then s.odRead .reg ix sub else (s, 0xC, 0, 0)
    { r.1 with dct := { r.1.dct with valid := true, stale := false, result := r.2.1, len := r.2.2.2, buf := r.2.2.1,
                                     seq := (d.seq + 1) % 65536 } }

def State.odwRelease (s : State) : State :=
  { s with dct := { s.dct with valid := false, stale := true, result := 0, len := 0, buf := 0 } }

/-- ODW_STATUS (R344). -/
def State.odwStatus (s : State) : Word :=
  mkWord [(0, 1, b2n s.dct.valid), (1, 1, b2n s.dct.stale), (8, 8, s.dct.result), (16, 9, s.dct.len), (32, 16, s.dct.seq)]

def State.odwRegRead (s : State) (off : Nat) : Word :=
  let d := s.dct
  if off = 0 then s.reg 0x30000 0
  else if off = 8 then (if d.valid then BitVec.ofNat 64 (bits d.buf (64 * fld (s.reg 0x30000 0) 24 5) 64) else 0)
  else if off = 0x18 then s.odwStatus
  else if off = 0x100 then
    let left := match Tbl.get 0 d.sess with | some x => (x.last + d.idleS * 10 ^ 12 - s.clk) / 10 ^ 12 | none => 0
    mkWord [(0, 3, s.sessRole 0), (3, 1, b2n (s.locked 0)), (16, 12, min 4095 left)]
  else if off = 0x108 then mkWord [(32, 16, d.fails)]
  else if off = 0x200 then s.jCfg
  else if off = 0x208 then s.reg 0x30208 0
  else if off = 0x210 then mkWord [(0, 20, d.wr), (20, 1, b2n d.wrWrap), (32, 11, s.jHeld), (48, 16, d.lost)]
  else 0

/-- ODW_JOURNAL (R351). -/
def State.jCfgWrite (s : State) (data : Word) (strb : BitVec 8) : State × Bool :=
  let old := s.jCfg
  let v := strobe old data strb
  let n := fld v 2 5
  let moved := n != fld old 2 5 || fld v 12 40 != fld old 12 40
  if (moved && fbit old 0) || (n != fld old 2 5 && decide (n < 6 ∨ 20 < n)) || (fbit v 0 && decide (n < 6)) then (s, false)
  else (s.setReg 0x30200 (mkWord [(0, 7, fld v 0 7), (12, 40, fld v 12 40)]), true)

/-- A write to the ODW page: false where it is refused. -/
def State.odwRegWrite (s : State) (off : Nat) (data : Word) (strb : BitVec 8) : State × Bool :=
  if off = 0 then (s.setReg 0x30000 (mkWord [(0, 29, fld (strobe (s.reg 0x30000 0) data strb) 0 29)]), true)
  else if off = 8 then
    let w := fld (s.reg 0x30000 0) 24 5
    let old : Word := BitVec.ofNat 64 (bits s.dct.buf (64 * w) 64)
    let v := strobe old data strb
    ({ s with dct := { s.dct with buf := s.dct.buf - old.toNat * 2 ^ (64 * w) + v.toNat * 2 ^ (64 * w) } }, true)
  else if off = 0x10 then
    let v := strobe 0 data strb
    if fld v 0 2 = 1 then (s.odwCmd false 0, true) else if fld v 0 2 = 2 then (s.odwCmd true (fld v 2 9), true) else (s, false)
  else if off = 0x18 then (s.odwRelease, true)
  else if off = 0x108 then (if fbit (strobe 0 data strb) 0 then s.endSession .reg else s, true)
  else if off = 0x200 then s.jCfgWrite data strb
  else if off = 0x208 then
    let v := strobe (s.reg 0x30208 0) data strb
    if 2 ^ fld s.jCfg 2 5 ≤ fld v 0 20 then (s, false) else (s.setReg 0x30208 (mkWord [(0, 21, fld v 0 21)]), true)
  else (s, true)

/-! ### The register target (R384) -/

/-- What a read of any register returns. -/
def State.regRead (s : State) (off : Nat) : Word :=
  if 0x30000 ≤ off ∧ off < 0x40000 then s.odwRegRead (off % 65536) else s.pageRead off

/-- Whether an access is answered with the error response before it reaches a register: SAFE, OFF, a domain that is off. -/
def State.readError (s : State) (off : Nat) : Bool :=
  if s.mode = .safe ∨ s.mode = .off then !safeRead off else s.regOff off

/-- A register read on the port. No row is an ordinary read (log 12); BYPASS_ANSWER serves its reads as this does. -/
def State.busRead (s : State) (off : Nat) : State :=
  let s0 := if off < 0x80000 then s.touch .reg else s
  if s0.readError off then s0.answer 0 true else (s0.readEff off).answer (s0.regRead off) false

/-- A register write on the port: what it does, and whether it is refused. -/
def State.busWrite (s : State) (off : Nat) (data : Word) (strb : BitVec 8) : State :=
  let s0 := if off < 0x80000 then s.touch .reg else s
  let r : State × Nat :=
    if s.mode = .safe ∨ s.mode = .off then s0.safeWrite off data strb
    else if s.regOff off then (s0, 0xC)
    else if off = 0x20 then s0.modeWrite data strb
    else if 0x30000 ≤ off ∧ off < 0x40000 then refusal (s0.odwRegWrite (off % 65536) data strb) 1
    else s0.gatedWrite off data strb
  r.1.answer 0 (decide (r.2 ≠ 0))

/-! ### MCTP (R345, R346, R389) -/

/-- The packets of a response, 64 B of body each. -/
def packets (dst src tag : Nat) : Nat → Nat → Bool → List Nat → List Out
  | 0, _, _, _ => []
  | n + 1, seq, first, body =>
    let last := decide (body.length ≤ 64)
    let b3 := b2n first * 128 + b2n last * 64 + (seq % 4) * 16 + tag
    .mgt ([1, dst, src, b3] ++ body.take 64) :: (if last then [] else packets dst src tag n (seq + 1) false (body.drop 64))

/-- Answer a message. -/
def State.reply (s : State) (h : MctpHdr) (body : List Nat) : State :=
  { s with out := s.out ++ packets h.src.toNat s.dct.eid h.tag.toNat 6 0 true body }

def State.mctpDrop (s : State) (src : Nat) : State := s.raise0 0x103 src

/-- A Kalmet message the block accepts: type, IANA number, length, request bit, destination. -/
def State.kalmetOk (s : State) (h : MctpHdr) (m : List Nat) : Bool :=
  decide (h.dst.toNat = s.dct.eid) && decide (16 ≤ m.length) && decide (m.length ≤ 320) &&
  m.take 5 == [0x7F, 0, 0, 0xD1, 0xA4] && bit (m.getD 5 0) 7

/-- A Kalmet request (R346). -/
def State.kalmet (s : State) (h : MctpHdr) (msg : List Byte) : State :=
  let m := msg.map BitVec.toNat
  if !s.kalmetOk h m then s.mctpDrop h.src.toNat
  else
    let p : Path := .mctp h.src
    let ix := leNat ((m.drop 8).take 2)
    let sub := m.getD 10 0
    let len := leNat ((m.drop 12).take 2)
    let data := m.drop 16
    let cmd := m.getD 6 0
    let bad := bits (m.getD 5 0) 5 2 != 0 || m.getD 7 0 != 0 || m.getD 11 0 != 0 || leNat ((m.drop 14).take 2) != 0 ||
      (cmd != 1 && cmd != 2) || (cmd == 1 && (len != 0 || !data.isEmpty))
    let aon := (decide (0x1000 ≤ ix) && decide (ix < 0x1100)) || (decide (0x6000 ≤ ix) && decide (ix < 0x6100))
    let s1 := s.touch p
    let r : State × Nat × Nat × Nat :=
      if bad then (s1, 1, 0, 0)
      else if !s.dspUp && !(cmd == 1 && aon) then (s1, 0xC, 0, 0)
      else if cmd = 1 then s1.odRead p ix sub
      else if data.length ≠ len then (s1, 8, 0, 0)
      else
        let w := s1.odWrite p ix sub (leNat data) len
        (w.1, w.2.1, 0, 0)
    let n := if r.2.1 = 0 then r.2.2.2 else 0
    r.1.reply h ([0x7F, 0, 0, 0xD1, 0xA4, bits (m.getD 5 0) 0 5, cmd, r.2.1] ++ leBytes 2 ix ++ [sub, 0] ++ leBytes 2 n ++ [0, 0] ++
      leBytes n r.2.2.1)

/-- A control request (R345): header, then the command's own answer. Another command is answered with
ERROR_UNSUPPORTED_CMD. -/
def State.control (s : State) (h : MctpHdr) (msg : List Byte) (code : Nat) (k : State → List Nat → State × List Nat) : State :=
  let m := msg.map BitVec.toNat
  if (h.dst.toNat ≠ s.dct.eid ∧ h.dst ≠ 0) ∨ m.length < 3 ∨ 320 < m.length ∨ m.getD 0 0 ≠ 0 ∨ !bit (m.getD 1 0) 7 then s.mctpDrop h.src.toNat
  else
    let r := if m.getD 2 0 = code then k s (m.drop 3) else (s, [5])
    r.1.reply h ([0, bits (m.getD 1 0) 0 5, m.getD 2 0] ++ r.2)

def State.mctpSetEid (s : State) (d : List Nat) : State × List Nat :=
  let e := d.getD 1 0
  if d.length ≠ 2 then (s, [3])
  else if 1 < bits (d.getD 0 0) 0 2 ∨ e = 0 ∨ e = 255 then (s, [2])
  else
    let s1 := s.endMctp
    ({ s1 with dct := { s1.dct with eid := e } }, [0, 0, e, 0])

def State.mctpGetEid (s : State) (_ : List Nat) : State × List Nat := (s, [0, s.dct.eid, 0, 0])

/-- Versions of the base specification and the control type; the numbers come from a free value. -/
def State.mctpVersions (s : State) (d : List Nat) : State × List Nat :=
  let t := d.getD 0 0
  if d.length ≠ 1 then (s, [3])
  else if t = 0xFF ∨ t = 0 ∨ t = 0x7F then
    let f := s.freeVal
    (f.2, [0, 1] ++ leBytes 4 f.1)
  else (s, [0x80])

def State.mctpTypes (s : State) (_ : List Nat) : State × List Nat := (s, [0, 2, 0, 0x7F])

def State.mctpVendor (s : State) (d : List Nat) : State × List Nat :=
  if d.length ≠ 1 then (s, [3])
  else if d.getD 0 0 ≠ 0 then (s, [2])
  else
    let f := s.freeVal
    (f.2, [0, 0xFF, 1, 0, 0, 0xD1, 0xA4] ++ leBytes 2 f.1)

/-- A packet the block discards (R345, R389). -/
def State.packetBad (s : State) (m : List Nat) : Bool :=
  let ty := m.getD 4 0
  let single := bits (m.getD 3 0) 6 2 == 3
  decide (68 < m.length) || decide (bits (m.getD 0 0) 0 4 ≠ 1) || decide (m.length < 4) ||
  (decide (m.getD 1 0 ≠ s.dct.eid) && !(m.getD 1 0 == 0 && bits ty 0 7 == 0)) ||
  (bit (m.getD 3 0) 7 && (bit ty 7 || (bits ty 0 7 != 0 && bits ty 0 7 != 0x7F))) ||
  (single && ty == 0x7F && (m.drop 5).take 4 != [0, 0, 0xD1, 0xA4])

def State.packetDiscard (s : State) (pkt : List Byte) : State :=
  let m := pkt.map BitVec.toNat
  if s.packetBad m then s.mctpDrop (m.getD 2 0) else s

/-! ### The audit journal's spill (R351) -/

/-- A write of the group ended; an error stops spilling and returns the group. -/
def State.spillEnd (s : State) (res : Res) : State :=
  let bad := s.dct.spillBad || (match res with | .bad _ => true | .good _ => false)
  let s1 : State := { s with dct := { s.dct with spillOut := s.dct.spillOut - 1, spillBad := bad } }
  let d := s1.dct
  if d.spillOut ≠ 0 ∨ d.spill.isEmpty then s1
  else if bad then
    let s2 : State := { s1 with journal := d.spill ++ s1.journal, dct := { d with spill := [], spillBad := false } }
    (s2.setReg 0x30200 (setFld s2.jCfg 0 1 0)).raise0 0x102 0
  else
    let n := 2 ^ fld s1.jCfg 2 5
    let w := d.wr + 64
    ({ s1 with dct := { d with spill := [], wr := if n ≤ w then 0 else w, wrWrap := if n ≤ w then !d.wrWrap else d.wrWrap } }).spill

end Sys2Proof.Machine
end

