-- ==== Sys2Proof/Machine/Admin.lean ====
section
/-! DEFINITION. Dispatch Queues and admin commands (R321 to R338): the dispatch record, the order in which commands are
admitted, the checks and effects of each, their buffers and completions. -/

namespace Sys2Proof.Machine

/-! ### Places of structures (R72, R324) -/

/-- Half-open ranges of every ring in use, submission and completion rings alike. -/
def State.ringSpans (s : State) : List (Nat × Nat) :=
  let qs := s.queues.filter (fun p => !isFwdQ p.1 && !(p.2.dq && p.2.st == QSt.disabled))
  let rs := s.rings.filter (fun p => !(p.2.dq && (s.queue p.1).st == QSt.disabled))
  qs.map (fun p => (p.2.base, 16 * p.2.n)) ++ rs.map (fun p => (p.2.base, p.2.esize * p.2.size))

/-- Addresses of every Head Word in use. -/
def State.heads (s : State) : List Nat :=
  (s.queues.filter (fun p => !isFwdQ p.1 && !(p.2.dq && p.2.st == QSt.disabled))).map (fun p => p.2.head)

def inSpans (rs : List (Nat × Nat)) (a : Nat) : Bool := rs.any (fun r => overlap r.1 r.2 a 8)

/-- A structure of a tenant at a tenant address: its fabric address, port and kind of memory (R72). -/
def State.place (s : State) (t a n : Nat) (rd wr : Bool) : Option (Nat × Option Nat × Bool) :=
  match findWin s.wins t a n with
  | none => none
  | some (_, w) => if (rd && !w.rd) || (wr && !w.wr) then none else some (addOff a w.offset, some w.port, w.mem)

/-- The same for a Dispatch Queue: Dispatch Queue 0 names fabric addresses (R322). -/
def State.dqPlace (s : State) (q a n : Nat) (rd wr : Bool) : Option (Nat × Option Nat × Bool) :=
  if q = 0x2000 then (if a + n ≤ 2 ^ 52 then some (a, none, false) else none) else s.place (q - 0x2100) a n rd wr

/-! ### The dispatch record (R323, R324) -/

/-- What an accepted dispatch record describes. -/
def State.dqParse (s : State) (q : Nat) (l : Line) : Option (Queue × Ring) :=
  let x := fun i => lineWord l i
  let w := x 3
  let ln := fld w 0 5
  let lm := fld w 8 4
  let v := fld w 16 11
  let en := fbit w 27
  let vec := s.vec v
  if (x 0).toNat % 4096 ≠ 0 ∨ (x 1).toNat % 8 ≠ 0 ∨ (x 2).toNat % 4096 ≠ 0 ∨ 2 ^ 52 ≤ (x 0).toNat ∨ 2 ^ 52 ≤ (x 1).toNat ∨
     2 ^ 52 ≤ (x 2).toNat ∨ ln < 8 ∨ 16 < ln ∨ fld w 5 3 ≠ 0 ∨ lm < 4 ∨ 12 < lm ∨ fld w 12 4 ≠ 0 ∨ fld w 28 36 ≠ 0 ∨
     x 4 ≠ 0 ∨ x 5 ≠ 0 ∨ x 6 ≠ 0 ∨ x 7 ≠ 0 ∨ (q ≠ 0x2000 ∧ en ∧ !(vec.assigned && vec.tenant == q - 0x2100)) then none
  else
    match s.dqPlace q (x 0).toNat (16 * 2 ^ ln) true false, s.dqPlace q (x 1).toNat 8 false true,
          s.dqPlace q (x 2).toNat (16 * 2 ^ lm) true true with
    | some (a, ap, ac), some (h, hp, _), some (c, cp, cc) =>
      let mine := [(a, 16 * 2 ^ ln), (c, 16 * 2 ^ lm)]
      let other : State := { s with queues := Tbl.del q s.queues, rings := Tbl.del q s.rings }
      if inSpans (mine ++ other.ringSpans) h || other.heads.any (inSpans mine) then none
      else
        some ({ s.queue q with base := a, port := ap, coh := ac, head := h, headPort := hp, log2n := ln },
              { s.ring q with base := c, port := cp, coh := cc, log2m := lm, vec := if en then some v else none })
    | _, _, _ => none

/-- The record has been read: the Dispatch Queue starts, or ERR holds FIELD (R324). -/
def State.dqRecEnd (s : State) (q : Nat) (res : Res) : State :=
  let fail := s.updQueue q (fun g => { g with err := 1 })
  if q ≠ 0x2000 ∧ !(s.tenant (q - 0x2100)).enabled then s
  else match res with
  | .bad _ => fail
  | .good l =>
    match s.dqParse q l with
    | none => fail
    | some (g, r) =>
      let new := (s.queue q).addrNew
      let g1 : Queue := if new then
          { g with sp := 0, spWrap := false, starts := 0, hwIdx := 0, hwWrap := false, hwStarts := 0 }
        else { g with sp := g.hwIdx, spWrap := g.hwWrap }
      let g2 : Queue := { g1 with st := QSt.active, err := 0, addrNew := false, fenced := false, scanning := false, rescan := false,
                                  line := none, reading := false, sinceHw := 0, errUnit := none, ents := [] }
      let r1 : Ring := if new then
          { r with pos := 0, ahead := [], free := 0, edge := false, hold := false, claims := 0, wait := [] }
        else { r with free := 0, edge := false, hold := false }
      let s1 : State := { s with queues := Tbl.put q g2 s.queues, rings := Tbl.put q r1 s.rings }
      let s2 := if new then s1.hwNow q else s1
      (s2.scanReq q).pumpQ q

/-! ### Commands -/

/-- A command: its Dispatch Queue, its entry, and the tenant it acts for (none for Dispatch Queue 0). -/
structure Cmd where
  d : DqRef
  e : Ent
deriving DecidableEq, Repr

def Cmd.q (c : Cmd) : Nat := dqId c.d
def Cmd.ten (c : Cmd) : Option Nat := match c.d with | .installer => none | .tenant t => some t.val
/-- Word i of the body, from byte 16 on. -/
def Cmd.w (c : Cmd) (i : Nat) : Word := c.e.w (2 + i)
def Cmd.key (c : Cmd) : Nat × Nat := (c.q, c.e.uid)

/-- How a command goes on: it has ended, waits for something that the waiting commands name, or waits in the unit that
runs it. -/
inductive CRes where
  | done (st info res : Nat)
  | wait (k : WaitK)
  | out
deriving DecidableEq, Repr

/-- A refusal: MALFORMED with a reason (R327). -/
def refuse (why : Nat) : CRes := .done 0x17 (why * 256) 0
def CRes.why : CRes → Nat
  | .done st info _ => if st = 0 then 0 else info / 256
  | _ => 0

/-- A queue or ring that a command names (R329). -/
def State.cmdQueue (s : State) (c : Cmd) (id : Nat) : Option Nat :=
  match c.ten with
  | none => if id < 8192 ∧ Tbl.has id s.queues then some id else none
  | some t => s.queueAt t id
def State.cmdRing (s : State) (c : Cmd) (id : Nat) : Option Nat :=
  match c.ten with
  | none => if id < 2048 ∧ Tbl.has id s.rings then some id else none
  | some t => s.ringAt t id

/-- The objects a command names (R326): kind and number; 1 queue, 2 ring, 3 window, 4 tenant, 5 limiter, 6 gate-list
class, 7 Transit window, 8 service slot, 9 dictionary object. -/
def State.cmdObjs (s : State) (c : Cmd) : List (Nat × Nat) :=
  let w := c.w 0
  let o := c.e.opc
  let qu := fun (i : Nat) => match s.cmdQueue c i with | some q => [(1, q)] | none => []
  let ri := fun (i : Nat) => match s.cmdRing c i with | some r => [(2, r)] | none => []
  let of := fun (t i : Nat) => match s.ringAt t i with | some r => [(2, r)] | none => []
  let ten := if c.ten.isNone then [(4, fld (c.w (if o = 0x82 then 1 else 2)) 48 8)] else []
  let lim := if fbit (c.w 3) 28 then [(5, fld (c.w 3) 16 12)] else []
  if o = 0x81 ∨ o = 0x85 ∨ o = 0x86 ∨ o = 0x87 then qu (fld w 0 13)
  else if o = 0x84 then
    let q := qu (fld w 0 13)
    q ++ (match q.head? with
      | some (_, i) => if fbit w 20 then of (s.queue i).tenant (fld (c.w 2) 32 8) else []
      | none => []) ++ (if fbit w 18 then lim else [])
  else if o = 0x83 then ri (fld w 0 13)
  else if o = 0x80 then
    (if fbit (c.w 2) 13 then [] else [(1, fld (c.w 2) 0 13)]) ++ of (c.ten.getD (fld (c.w 2) 48 8)) (fld (c.w 2) 32 8) ++ ten ++ lim
  else if o = 0x82 then (if fbit (c.w 1) 11 then [] else [(2, fld (c.w 1) 0 11)]) ++ ten
  else if o = 0x88 then [(3, fld w 0 12), (4, fld w 16 8)]
  else if o = 0x89 then [(3, fld w 0 13)]
  else if o = 0x8A then (4, fld w 0 8) :: (if fbit w 47 then [(5, fld w 35 12)] else [])
  else if o = 0x90 ∨ o = 0x91 then [(6, fld w 0 2)]
  else if o = 0x92 then [(5, fld w 0 12)]
  else if 0x98 ≤ o ∧ o ≤ 0x9B then [(7, fld w 0 3)]
  else if o = 0xA8 then [(8, fld w 0 4 * 64 + fld w 8 6)]
  else if o = 0xA0 ∨ o = 0xA1 then [(9, fld w 0 24)]
  else if o = 0xB0 then
    (if fld w 0 4 = 1 then qu (fld w 16 13) else if fld w 0 4 = 2 then ri (fld w 16 13) else if fld w 0 4 = 3 then [(4, fld w 16 13)]
     else [])
  else []

/-- Objects that commands in progress hold: those of waiting commands, service slots being stopped, Transit windows being
aborted. DEDUCED (log 95): a TRANSIT_OPEN or TRANSIT_CONJOIN in progress holds back no later command on its window, since R183
and R191 to R193 give what such a command does then. -/
def State.heldObjs (s : State) : List (Nat × Nat) :=
  s.dct.waits.flatMap (fun (c : CmdWait) => c.objs) ++
  (s.bgs.scr.filter (fun p => p.2.stopCmd.isSome)).map (fun p => (8, 64 + p.1)) ++
  (s.bgs.tel.filter (fun p => p.2.stopCmd.isSome)).map (fun p => (8, 128 + p.1)) ++
  ((List.range 8).filter (fun w => (s.tw w).abortCmd.isSome)).map (fun w => (7, w))

/-- Commands of a Dispatch Queue in progress (R326). -/
def Queue.inProgress (g : Queue) : Nat := (g.ents.filter (fun (e : Ent) => e.isStarted && decide (0x80 ≤ e.opc) && e.ph != EPh.done)).length

def State.cmdRoom (s : State) (q : Nat) : Bool :=
  decide ((s.queue q).inProgress < (if q = 0x2000 then 32 else 4)) &&
  decide (((Tbl.vals s.queues).filter (·.dq)).foldl (fun a g => a + g.inProgress) 0 < 64)

/-- The mode is QUIESCE, or asked to become so (R244). -/
def State.quiescing (s : State) : Bool :=
  s.mode == .quiesce || (match s.pwr.trans with | some t => t.target == 6 | none => false)

/-- Complete a command that has ended. -/
def State.cmdDone (s : State) (c : Cmd) (slot : Option (Nat × Nat)) (r : CRes) : State :=
  match r with
  | .done st info res =>
    s.cmdEnd { q := c.q, uid := c.e.uid, k := WaitK.boundary, slot := slot } st info (BitVec.ofNat 64 res)
  | _ => s

/-- The result slot a command names: its number, where SLOT_EN is 1 (R337, R338). -/
def Cmd.slot (c : Cmd) : Option Nat :=
  let w := c.w 0
  if c.e.opc = 0xB0 then (if fbit w 36 then some (fld w 32 4) else none)
  else if c.e.opc = 0xA0 ∨ c.e.opc = 0xA1 then (if fbit w 40 then some (fld w 36 4) else none)
  else none

/-- Commands that are journalled (R350). -/
def Cmd.journalled (c : Cmd) : Bool := c.e.opc != 0xA0 && c.e.opc != 0xB0

/-- The journal entry of a command. -/
def State.cmdJrn (s : State) (c : Cmd) (why : Nat) : State :=
  if c.journalled then s.jrn 2 (.dq c.d) why (c.e.opc + c.e.tag * 256) 0 (c.w 0) else s

/-- The slot an admitted command makes Busy, with the reason to refuse it where it may not name that slot (R104, R337). -/
def State.cmdSlot (s : State) (c : Cmd) : Option (Nat × Nat) × Nat :=
  match c.slot, c.ten with
  | none, _ => (none, 0)
  | some _, none => (none, 1)
  | some i, some t => if ((s.tenant t).slots.getD i {}).busy then (none, 5) else (some (t, i), 0)

/-- Run an admitted command: its slot becomes Busy; then the checks every command shares, its own meaning, the journal,
its completion. -/
def State.cmdRun (s : State) (c : Cmd) (moves : Bool) (body : State → Cmd → State × CRes) : State :=
  let sl := (s.cmdSlot c).1
  let why := (s.cmdSlot c).2
  let s1 := match sl with | some (t, i) => s.slotSet t i { busy := true } | none => s
  if dqEntryFail (c.e.w 0) then (s1.cmdJrn c 1).cmdDone c sl (refuse 1)
  else if moves && s.quiescing then (s1.cmdJrn c 0).cmdDone c sl (.done 0x18 0 0)
  else if c.journalled && s.jFull then s1.cmdDone c sl (refuse 0xA)
  else if why ≠ 0 then (s1.cmdJrn c why).cmdDone c none (refuse why)
  else
    let r := body s1 c
    match r.2 with
    | .wait k =>
      let w : CmdWait := { q := c.q, uid := c.e.uid, objs := s1.cmdObjs c, k := k, slot := sl }
      let jr : Bool := match k with | .value _ _ _ _ => false | _ => true
      ((if jr then r.1.cmdJrn c 0 else r.1).addWait w).waitsRun
    | .out => r.1.cmdJrn c 0
    | .done _ _ _ => (r.1.cmdJrn c r.2.why).cmdDone c sl r.2

/-- Admission of a command (R322, R326): it is the oldest entry not admitted, has this opcode and form, a ring slot is
free for it, and no command in progress holds an object it names. It starts here. -/
def State.command (s : State) (d : DqRef) (op : Nat) (form : Cmd → Bool) (moves : Bool) (body : State → Cmd → State × CRes) : State :=
  let q := dqId d
  let g := s.queue q
  match g.oldest with
  | none => s
  | some e =>
    let c : Cmd := ⟨d, e⟩
    if e.opc ≠ op ∨ e.bad.isSome ∨ !form c ∨ !g.dq ∨ !s.isOn domDSP ∨ s.pwr.parked = 2 ∨ g.st ≠ .active ∨ !s.admissible q e ∨
       !g.earlierStarted e.uid ∨ !s.cmdRoom q ∨ (s.cmdObjs c).any (fun o => s.heldObjs.contains o) then s
    else if !s.mayStartNow q then s.dqLook q
    else
      let s1 := ((s.takeSlot q).setEnt q e.uid (fun (e : Ent) => { e with ph := EPh.admitted })).startEnt q e.uid
      (s1.cmdRun c moves body).pumpQ q

def anyForm : Cmd → Bool := fun _ => true

/-! ### Queues and rings (R331 to R333) -/

/-- The scheduling word, bytes 40 to 47: class, priority, members, limiter; none where a zero field is not zero. -/
def cmdSched (w : Word) : Option (Nat × Nat × Nat × Nat × Bool) :=
  if fld w 5 3 ≠ 0 ∨ fld w 29 35 ≠ 0 then none
  else some (fld w 0 2, fld w 2 3, if fld w 8 8 = 0 then 255 else fld w 8 8, fld w 16 12, fbit w 28)

/-- Legal reservation figures for a class (R331). -/
def cmdQOk (cls rd wr : Nat) : Bool :=
  decide (rd ≤ 2 ^ 24) && decide (wr ≤ 2 ^ 24) && (if cls = 1 then decide (0 < rd + wr) else decide (rd + wr = 0))

/-- The bounds of R330 on the class and priority a Tenant Dispatch Queue may name: the reason, 0 for none. -/
def classBound (x : Tenant) (cls prio : Nat) : Nat :=
  if cls ≠ 0 ∧ cls ≠ 2 then 3 else if !bit x.classes cls ∨ prio < x.bestPrio then 6 else 0

def State.refusedResv (s : State) : State := { s with tt := { s.tt with refused := (s.tt.refused + 1) % 65536 } }

def State.sqCreate (s : State) (c : Cmd) : State × CRes :=
  let w := c.w 2
  let base := (c.w 0).toNat
  let head := (c.w 1).toNat
  let auto := fbit w 13
  let rd := fld (c.w 4) 0 32
  let wr := fld (c.w 4) 32 32
  let ln := fld w 40 5
  match cmdSched (c.w 3) with
  | none => (s, refuse 1)
  | some (cls, prio, xset, lim, limEn) =>
    if fld w 14 2 ≠ 0 ∨ fld w 25 7 ≠ 0 ∨ fld w 45 3 ≠ 0 ∨ fld w 56 8 ≠ 0 ∨ c.w 5 ≠ 0 ∨ 2 ^ 52 ≤ base ∨ base % 4096 ≠ 0 ∨
       2 ^ 52 ≤ head ∨ head % 8 ≠ 0 ∨ ln < 8 ∨ 20 < ln ∨ (auto ∧ fld w 0 13 ≠ 0) ∨ !cmdQOk cls rd wr then (s, refuse 1)
    else
      let t := c.ten.getD (fld w 48 8)
      let x := s.tenant t
      let bound : Nat := match c.ten with
        | none => if x.enabled then 0 else 5
        | some _ =>
          if !auto ∨ fld w 48 8 ≠ 0 ∨ lim ≠ 0 ∨ limEn ∨ rd ≠ 0 ∨ wr ≠ 0 ∨ (cls ≠ 0 ∧ cls ≠ 2) then 3
          else if x.maxSq ≤ ((s.tenantQs t).filter (fun g => !isFwdQ g.ring)).length then 6
          else classBound x cls prio
      if bound ≠ 0 then (s, refuse bound)
      else if (s.queueAt t (fld w 16 9)).isSome then (s, refuse 5)
      else match s.ringAt t (fld w 32 8) with
      | none => (s, refuse 2)
      | some ring =>
        let id : Except Nat Nat := if auto then
            (match Tbl.free 8192 s.queues with | some i => .ok i | none => .error 0xE)
          else if Tbl.has (fld w 0 13) s.queues then .error 5 else .ok (fld w 0 13)
        match id with
        | .error why => (s, refuse why)
        | .ok q =>
          match s.place t base (16 * 2 ^ ln) true false with
          | none => (s, .done 0x15 0 base)
          | some (fa, port, mem) =>
            match s.place t head 8 false true with
            | none => (s, .done 0x15 0 head)
            | some (fh, hport, _) =>
              let r := mkResv rd wr xset
              if inSpans ((fa, 16 * 2 ^ ln) :: s.ringSpans) fh || s.heads.any (inSpans [(fa, 16 * 2 ^ ln)]) then (s, refuse 1)
              else if cls = 1 ∧ !s.resvFits s.tt.resv r then (s.refusedResv, refuse 7)
              else
                let l := match c.ten with
                  | none => if limEn then some lim else none
                  | some _ => if x.limEn then some x.limiter else none
                let g : Queue := { tenant := t, db := fld w 16 9, base := fa, log2n := ln, head := fh, port := port, headPort := hport,
                                   coh := mem, ring := ring, cls := cls, prio := prio, xset := xset, lim := l }
                let s1 : State := { s with queues := Tbl.put q g s.queues,
                                           tt := { s.tt with resv := if cls = 1 then Tbl.put q r s.tt.resv else s.tt.resv } }
                (s1.hwNow q, .done 0 0 q)

def State.crCreate (s : State) (c : Cmd) : State × CRes :=
  let base := (c.w 0).toNat
  let w := c.w 1
  let lm := fld w 24 5
  let e32 := fbit w 29
  let v := fld w 32 11
  let sm := fld (c.w 2) 0 13
  let auto := fbit w 11
  if fld w 12 4 ≠ 0 ∨ fld w 30 2 ≠ 0 ∨ fld w 43 5 ≠ 0 ∨ fld w 56 8 ≠ 0 ∨ fld (c.w 2) 13 51 ≠ 0 ∨ c.w 3 ≠ 0 ∨ 2 ^ 52 ≤ base ∨
     base % 4096 ≠ 0 ∨ lm < 4 ∨ 16 < lm ∨ 4096 < sm ∨ (auto ∧ fld w 0 11 ≠ 0) then (s, refuse 1)
  else
    let t := c.ten.getD (fld w 48 8)
    let x := s.tenant t
    let bound : Nat := match c.ten with
      | none => if x.enabled then 0 else 5
      | some _ => if !auto ∨ fld w 48 8 ≠ 0 then 3 else if x.maxCr ≤ (s.tenantRings t).length then 6 else 0
    if bound ≠ 0 then (s, refuse bound)
    else if (s.ringAt t (fld w 16 8)).isSome then (s, refuse 5)
    else if !((s.vec v).assigned && (s.vec v).tenant == t) then (s, refuse 1)
    else
      let id : Except Nat Nat := if auto then (match Tbl.free 2048 s.rings with | some i => .ok i | none => .error 0xE)
        else if Tbl.has (fld w 0 11) s.rings then .error 5 else .ok (fld w 0 11)
      match id with
      | .error why => (s, refuse why)
      | .ok r =>
        let n := (if e32 then 32 else 16) * 2 ^ lm
        match s.place t base n true true with
        | none => (s, .done 0x15 0 base)
        | some (fa, port, mem) =>
          if s.heads.any (inSpans [(fa, n)]) then (s, refuse 1)
          else
            let down := !s.portUp port
            ({ s with rings := Tbl.put r { tenant := t, c := fld w 16 8, base := fa, port := port, coh := mem, log2m := lm, e32 := e32,
                                           vec := some v, sidingMax := if sm = 0 then 256 else sm, hold := down, edge := down } s.rings },
             .done 0 0 r)

def State.crDelete (s : State) (c : Cmd) : State × CRes :=
  if fld (c.w 0) 13 51 ≠ 0 ∨ c.w 1 ≠ 0 then (s, refuse 1)
  else match s.cmdRing c (fld (c.w 0) 0 13) with
  | none => (s, refuse 2)
  | some r =>
    if !(s.boundQ r).isEmpty ∨ !(s.ring r).siding.isEmpty then (s, refuse 5)
    else ({ s with rings := Tbl.del r s.rings }, .done 0 0 0)

def State.sqModify (s : State) (c : Cmd) : State × CRes :=
  let w := c.w 0
  let m := fun i => fbit w (16 + i)
  let rd := fld (c.w 4) 0 32
  let wr := fld (c.w 4) 32 32
  match cmdSched (c.w 3) with
  | none => (s, refuse 1)
  | some (cls, prio, xset, lim, limEn) =>
    if fld w 13 3 ≠ 0 ∨ fld w 21 43 ≠ 0 ∨ c.w 1 ≠ 0 ∨ fld (c.w 2) 0 32 ≠ 0 ∨ fld (c.w 2) 40 24 ≠ 0 ∨ c.w 5 ≠ 0 ∨ 2 ^ 24 < rd ∨ 2 ^ 24 < wr
    then (s, refuse 1)
    else if c.ten.isSome ∧ fld w 18 3 ≠ 0 then (s, refuse 3)
    else match s.cmdQueue c (fld w 0 13) with
    | none => (s, refuse 2)
    | some q =>
      let g := s.queue q
      let old := Tbl.get q s.tt.resv
      let ncls := if m 0 then cls else g.cls
      let nprio := if m 0 then prio else g.prio
      let nx := if m 1 then xset else g.xset
      let nl := if m 2 then (if limEn then some lim else none) else g.lim
      let oq := match old with | some r => (r.qrd, r.qwr) | none => (0, 0)
      let nq := if m 3 then (rd, wr) else if ncls = 1 then oq else (0, 0)
      let bound := if c.ten.isSome ∧ m 0 then classBound (s.tenant g.tenant) ncls nprio else 0
      let ring : Option Nat := if m 4 then s.ringAt g.tenant (fld (c.w 2) 32 8) else some g.ring
      if bound ≠ 0 then (s, refuse bound)
      else if !cmdQOk ncls nq.1 nq.2 then (s, refuse 1)
      else match ring with
      | none => (s, refuse 2)
      | some r =>
        if r ≠ g.ring ∧ g.st ≠ .disabled then (s, refuse 5)
        else if ncls = 1 ∧ !s.resvFits (Tbl.del q s.tt.resv) (mkResv nq.1 nq.2 nx) then (s.refusedResv, refuse 7)
        else
          let resv := match old with
            | some o => Tbl.put q { o with next := some (nq.1, nq.2, nx) } s.tt.resv
            | none => if ncls = 1 then Tbl.put q (mkResv nq.1 nq.2 nx) s.tt.resv else s.tt.resv
          ({ s with tt := { s.tt with resv := resv } }.updQueue q (fun g => { g with next := some (ncls, nprio, nx, nl, r) }),
           .wait .boundary)

/-- The reservations a boundary puts in force (R50, R52, R331): those the pass does not reach keep what they had. -/
def State.resvBoundary (s : State) (reach : Nat) : Tbl Resv :=
  ((s.tt.resv.take reach).map (fun (p : Nat × Resv) => (p.1, { p.2.judged with live := true })) ++ s.tt.resv.drop reach).filter
    (fun (p : Nat × Resv) => p.2.next.isSome || decide (0 < p.2.qrd + p.2.qwr))

/-- The changes of SQ_MODIFY at a boundary (R331): the reservations, the queues, and the completions of the commands. -/
def State.modifyBoundary (s : State) (reach : Nat) : State :=
  let resv := s.resvBoundary reach
  let s1 : State := { s with
    tt := { s.tt with resv := resv },
    queues := s.queues.map (fun (p : Nat × Queue) => match p.2.next with
      | some (cl, pr, x, l, r) => (p.1, { p.2 with cls := cl, prio := pr, xset := x, lim := l, ring := r, next := none })
      | none => p) }
  (s1.dct.waits.filter (fun (c : CmdWait) => c.k == WaitK.boundary)).foldl (fun s (c : CmdWait) => s.cmdEnd c 0 0 0) s1

/-- The short form of R333: the named queue, or why not. `used` are the bits of the word beyond the ID. -/
def State.shortQ (s : State) (c : Cmd) (lo n : Nat) : Except Nat Nat :=
  let w := c.w 0
  if fld w 13 3 ≠ 0 ∨ (fld w 16 48 >>> (lo - 16 + n)) ≠ 0 ∨ c.w 1 ≠ 0 then .error 1
  else match s.cmdQueue c (fld w 0 13) with
  | none => .error 2
  | some q => .ok q

def State.sqDelete (s : State) (c : Cmd) : State × CRes :=
  match s.shortQ c 16 0 with
  | .error why => (s, refuse why)
  | .ok q =>
    let st := (s.queue q).st
    if st ≠ .disabled ∧ st ≠ .held ∧ st ≠ .error then (s, refuse 5) else (s.deleteQ q, .wait (.sqDelete q))

def State.sqDisable (s : State) (c : Cmd) (abort : Bool) : State × CRes :=
  match s.shortQ c 16 1 with
  | .error why => (s, refuse why)
  | .ok q =>
    let st := (s.queue q).st
    if st = .held ∨ st = .error then (s, refuse 5)
    else ((s.updQueue q (fun g => { g with quiesced := false })).disableQ q abort, .wait (.sqDisable q))

def State.sqDrain (s : State) (c : Cmd) : State × CRes :=
  match s.shortQ c 16 0 with
  | .error why => (s, refuse why)
  | .ok q =>
    let st := (s.queue q).st
    if st ≠ .active ∧ st ≠ .backed then (s, refuse 5) else (s.drainQ q, .wait (.sqDrain q))

/-- SQ_ENABLE (R227, R236, R244). -/
def State.sqEnable (s : State) (c : Cmd) : State × CRes :=
  match s.shortQ c 16 24 with
  | .error why => (s, refuse why)
  | .ok q =>
    let g := s.queue q
    let port := fld (c.w 0) 16 8
    if g.st = .active ∨ g.st = .backed then ((s.scanReq q).pumpQ q, .done 0 0 0)
    else if g.st = .held then
      if c.ten.isSome then (s, refuse 3)
      else if g.heldSet.contains port ∧ (s.port port).up ∧ (s.port port).epoch = fld (c.w 0) 24 16 then
        let left := g.heldSet.filter (· != port)
        let s1 := s.updQueue q (fun g => { g with heldSet := left })
        (if left.isEmpty then (if s.quiescing then s1.enableQuiesced q else s1.enableScan q) else s1, .done 0 left.length 0)
      else (s, .done 0x14 0x500 0)
    else if g.st = .disabled ∨ g.st = .error then (if s.quiescing then s.enableQuiesced q else s.enableScan q, .done 0 0 0)
    else (s, refuse 5)

/-! ### Windows and tenants (R334, R336) -/

/-- An entry was admitted under a window's state: some range of it lies there. -/
def State.entUses (s : State) (g : Queue) (e : Ent) (k : Nat) (w : Window) : Bool :=
  let inside := fun (r : Chk) => decide (w.base ≤ r.a) && decide (r.a + r.len ≤ w.base + w.size)
  (e.ph == EPh.admitted || e.ph == EPh.started) && !e.fin &&
  ((g.tenant == w.tenant && (e.ranges.any inside)) ||
   (match Tbl.get e.uid s.jobs with
    | some j => Tbl.has k j.wins || (j.srcs ++ j.dsts ++ j.tabs ++ j.csumR.toList).any (fun r => r.win == k)
    | none => false))

/-- A channel descriptor was checked against a window's state. -/
def ChDesc.uses (d : ChDesc) (k : Nat) (w : Window) : Bool :=
  let inside := fun (a n : Nat) => decide (w.base ≤ a) && decide (a + n ≤ w.base + w.size)
  Tbl.has k d.wins || inside d.src d.srcLen || inside d.dst d.dstLen || inside d.x (d.iw * d.count)

/-- What still runs under the old state of a window (R117). -/
def State.winUsers (s : State) (k : Nat) : WaitK :=
  match Tbl.get k s.wins with
  | none => .win [] []
  | some w =>
    .win (s.queues.flatMap (fun p => (p.2.ents.filter (fun (e : Ent) => s.entUses p.2 e k w)).map (fun (e : Ent) => e.uid)))
         (s.chn.chans.flatMap (fun p => if p.2.tenant = w.tenant then
            (p.2.descs.filter (fun (d : ChDesc) => d.uses k w)).map (fun (d : ChDesc) => (p.1, d.uid)) else []))

def State.winSet (s : State) (c : Cmd) : State × CRes :=
  let w := c.w 0
  let base := (c.w 1).toNat
  let size := (c.w 2).toNat
  let off := (c.w 3).toInt
  let k := fld w 0 12
  let t := fld w 16 8
  if fld w 35 29 ≠ 0 ∨ c.w 4 ≠ 0 ∨ c.w 5 ≠ 0 ∨ base % 4096 ≠ 0 ∨ size % 4096 ≠ 0 ∨ size < 4096 ∨ 2 ^ 46 < size ∨ 2 ^ 52 < base + size ∨
     (base : Int) + off < 0 ∨ 2 ^ 52 < (base : Int) + size + off then (s, refuse 1)
  else if !(s.tenant t).enabled then (s, refuse 5)
  else if s.wins.any (fun p => p.1 != k && p.2.tenant == t && overlap p.2.base p.2.size base size) then (s, refuse 5)
  else
    let v : Window := { station := fld w 12 4, tenant := t, port := fld w 24 8, mem := fbit w 32, rd := fbit w 33, wr := fbit w 34,
                        base := base, size := size, offset := off }
    ({ s with wins := Tbl.put k v s.wins }, .wait (s.winUsers k))

def State.winClear (s : State) (c : Cmd) : State × CRes :=
  let k := fld (c.w 0) 0 13
  if fld (c.w 0) 13 51 ≠ 0 ∨ c.w 1 ≠ 0 ∨ 4096 ≤ k then (s, refuse 1)
  else if !(Tbl.has k s.wins) then (s, refuse 2)
  else ({ s with wins := Tbl.del k s.wins }, .wait (s.winUsers k))

/-- The tenant page at reset values (R106, R334): ADDR of its Dispatch Queue with it. -/
def State.pageReset (s : State) (t : Nat) : State :=
  let q := 0x2100 + t
  let s1 : State := { s with cfg := Tbl.del (dqReg q) s.cfg }
  s1.updQueue q (fun g => { g with err := 0, addrNew := true })

def State.tenantSet (s : State) (c : Cmd) : State × CRes :=
  let v := c.w 0
  let t := fld v 0 8
  let x := s.tenant t
  let msq := fld v 9 10
  let mcr := fld v 19 9
  let qs := ((s.tenantQs t).filter (fun g => !isFwdQ g.ring)).length
  let rs := (s.tenantRings t).length
  if fld v 57 7 ≠ 0 ∨ c.w 1 ≠ 0 ∨ 512 < msq ∨ 256 < mcr ∨ fbit v 29 ∨ fbit v 31 then (s, refuse 1)
  else if !fbit v 8 then
    if 0 < qs ∨ 0 < rs ∨ s.chn.chans.any (fun p => p.2.granted && p.2.tenant == t) then (s, refuse 5)
    else
      let s1 := if Tbl.has (0x2100 + t) s.queues then
          (if (s.queue (0x2100 + t)).st = .active then s.dqHalt (0x2100 + t) false
           else s.updQueue (0x2100 + t) (fun g => { g with st := if g.st = .error then .disabled else g.st }))
        else s
      (s1.updTenant t (fun x => { x with enabled := false }), .done 0 0 0)
  else if msq < qs ∨ mcr < rs then (s, refuse 6)
  else if fbit v 56 ∧ s.tenants.any (fun p => p.1 != t && p.2.enabled && fbit p.2.set0 56 && fld p.2.set0 48 8 == fld v 48 8) then (s, refuse 5)
  else
    let set := fun (x : Tenant) => { x with
      enabled := true, maxSq := msq, maxCr := mcr, classes := fld v 28 4, bestPrio := fld v 32 3, limiter := fld v 35 12,
      limEn := fbit v 47, set0 := v }
    if x.enabled then (s.updTenant t set, .done 0 0 0)
    else ((s.pageReset t).updTenant t (fun _ => set {}), .done 0 0 0)

/-! ### Gate lists and limiters (R55 to R58, R333, R335) -/

/-- Bursts of a range of lines, cut at 4 KiB (R18). -/
def pageBursts (ops : List LineOp) : List (List LineOp) := cutRuns (fun l => (l * 64 / 4096, 0)) 64 ops

/-- Present the transfers of a command's buffer. -/
def State.cmdBursts (s : State) (c : Cmd) (rd : Bool) (ops : List LineOp) (port : Option Nat) (coh : Bool) : State :=
  (pageBursts ops).foldl (fun s b => s.ctl c.q rd b ⟨if rd then OwnK.cmdRd else OwnK.cmdWr, c.q, c.e.uid⟩ port coh) s

/-- The write of a byte string, as line operations. -/
def wrRange (fa : Nat) (bs : List Nat) : List LineOp :=
  (rdLines fa bs.length 0).map (fun (o : LineOp) =>
    let lo := max fa (64 * o.line)
    let hi := min (fa + bs.length) (64 * o.line + 64)
    wrBytes lo ((bs.drop (lo - fa)).take (hi - lo)))

/-- GATE_LOAD (R58). DESIGN CHOICE (log entry 72): before the first activation no bank is in force, and neither counts as
the active one, though ACTIVE_BANK reads 0. -/
def State.gateLoad (s : State) (c : Cmd) : State × CRes :=
  let w := c.w 0
  let cl := fld w 0 2
  let b := fld w 2 1
  let first := fld w 16 10
  let n := fld w 26 11
  let src := (c.w 1).toNat
  let g := s.gate cl
  if fld w 3 13 ≠ 0 ∨ fld w 37 27 ≠ 0 ∨ n = 0 ∨ 1024 < first + n ∨ 2 ^ 52 < src + 16 * n ∨ c.w 2 ≠ 0 ∨ c.w 3 ≠ 0 then (s, refuse 1)
  else if (g.inForce && g.active == b) || (match g.pend with | some p => p.1 == b | none => false) then (s, refuse 5)
  else (s.cmdBursts c true (rdLines src (16 * n) 0) none false, .wait (.gate cl b first n src))

/-- GATE_ACTIVATE (R55 to R58). Boundaries are those of R36 with the values that hold from the next boundary on, and
now + 2 ticks is the boundary after the one that ends the tick in progress. -/
def State.gateActivate (s : State) (c : Cmd) : State × CRes :=
  let w := c.w 0
  let cl := fld w 0 2
  let b := fld w 2 1
  let base := (c.w 1).toNat
  let g := s.gate cl
  let T := tickPs s.tt.cfgLen
  let p := s.phasePs s.tt.cfgPhase
  if fld w 3 61 ≠ 0 then (s, refuse 1)
  else if g.pend.isSome then (s, refuse 5)
  else match gateCycle (g.banks.getD b []) 1024 0 with
  | none => (s, refuse 1)
  | some cyc =>
    if 65536 < cyc then (s, refuse 1)
    else
      let b0 := bndFrom s.tt.cfgLen p (base * 1000)
      let now2 := s.tt.tickEnd + T
      let late := decide (b0 < now2)
      if late ∧ g.strict then (s.updGate cl (fun g => { g with rejected := true }), refuse 0xD)
      else
        let at_ := if late then b0 + ceilDiv (now2 - b0) (cyc * T) * (cyc * T) else b0
        let s1 := s.updGate cl (fun g => { g with pend := some (b, tickNumIn s.tt.cfgLen p at_, at_ / 1000), late := g.late || late })
        (if late then s1.raise0 0x083 cl else s1, .done 0 (b2n late) (at_ / 1000))

def State.limiterSet (s : State) (c : Cmd) : State × CRes :=
  let w := c.w 0
  let i := fld w 0 12
  let cfg := c.w 1
  let old := (s.limiter i).stat
  if fld w 16 48 ≠ 0 ∨ (fbit w 13 ∧ fbit w 14) ∨ (if fbit w 12 then decide (fld cfg 60 4 ≠ 0) else decide (cfg ≠ 0)) then (s, refuse 1)
  else
    let r := if fbit w 12 then s.limWrite i cfg else (s, 0)
    if r.2 ≠ 0 then (s, refuse r.2)
    else ((r.1.limAct i (fbit w 13) (fbit w 14) (fbit w 15)).1, .done 0 0 old.toNat)

/-! ### Transit (R189 to R193) -/

/-- Modes in which data services may be started (R190). -/
def State.transitMode (s : State) : Bool := s.mode.dataIssue || s.mode == .quiesce

def State.cmdOpen (s : State) (c : Cmd) : State × CRes :=
  match (if c.e.aux = 0 then tParse ((List.range 8).map c.w) else none) with
  | none => (s, refuse 1)
  | some (w, p) =>
    if !s.transitMode then (s, refuse 4)
    else if !s.isOn domTRN then (s, refuse 0xC)
    else if (s.tw w).ph ≠ .idle then (s, refuse 5)
    else if !s.tParamOk p then (s, refuse 1)
    else (s.tOpen w p (some c.key) false, .out)

/-- The window of a short Transit command; `z` are the bits that must be zero above bit 3, beside the named field. -/
def Cmd.tWin (c : Cmd) (lo n : Nat) : Option Nat :=
  let w := c.w 0
  if c.e.aux ≠ 0 ∨ fld w 3 (lo - 3) ≠ 0 ∨ (fld w lo (64 - lo) >>> n) ≠ 0 ∨ c.w 1 ≠ 0 then none else some (fld w 0 3)

/-- Transit commands other than TRANSIT_OPEN share these refusals. -/
def State.tReady (s : State) (w : Nat) : Nat :=
  if !s.isOn domTRN then 0xC else if (s.tw w).ph = .idle ∨ (s.tw w).ph = .failed then 5 else 0

/-- TRANSIT_ADVANCE (R191). -/
def State.advanceT (s : State) (c : Cmd) (act : Nat) : State × CRes :=
  match c.tWin 8 8 with
  | none => (s, refuse 1)
  | some w =>
    let t := s.tw w
    let early := t.ph == TPh.open_ || t.ph == TPh.sweep || t.ph == TPh.orbit
    if act = 0 ∨ 3 < act then (s, refuse 1)
    else if s.tReady w ≠ 0 then (s, refuse (s.tReady w))
    else if act = 2 then
      if !t.p.mem then (s, refuse 5)
      else ((s.updTw w (fun t => { t with recalled := true })).tPump w, .done 0 0 0)
    else if !early then (s, refuse 5)
    else if act = 1 then ((s.updTw w (fun t => { t with proceed := true })).tPump w, .done 0 0 0)
    else ((s.updTw w (fun t => { t with toMirror := true })).tPump w, .done 0 0 0)

def State.conjoinT (s : State) (c : Cmd) : State × CRes :=
  match c.tWin 8 4 with
  | none => (s, refuse 1)
  | some w =>
    if s.tReady w ≠ 0 then (s, refuse (s.tReady w))
    else if (s.tw w).conjoin.isSome then (s, refuse 5)
    else
      let n := fld (c.w 0) 8 4
      ((s.updTw w (fun t => { t with conjoin := some (c.q, c.e.uid, if n = 0 then 4 else n) })).tPump w, .out)

def State.abortT (s : State) (c : Cmd) : State × CRes :=
  match c.tWin 3 0 with
  | none => (s, refuse 1)
  | some w =>
    if !s.isOn domTRN then (s, refuse 0xC)
    else if (s.tw w).ph = .idle then (s, refuse 5)
    else if (s.tw w).abortCmd.isSome then (s, refuse 5)
    else (s.tAbort w (some c.key), .out)

/-! ### Engineering Services (R270, R271) -/

def State.bgMode (s : State) : Bool := s.mode.grants

def State.cmdBgStart (s : State) (c : Cmd) : State × CRes :=
  if c.e.aux ≠ 0 ∨ fld (c.w 0) 4 4 ≠ 1 then (s, refuse 1)
  else if !s.bgMode then (s, refuse 4)
  else if !s.isOn domBGS then (s, refuse 0xC)
  else match s.bgStart ((List.range 8).map c.w) with
  | none => (s, refuse 1)
  | some s1 => (s1, .done 0 0 0)

def State.cmdBgStop (s : State) (c : Cmd) : State × CRes :=
  if c.e.aux ≠ 0 then (s, refuse 1)
  else if !s.isOn domBGS then (s, refuse 0xC)
  else match s.bgStop ((List.range 8).map c.w) c.key with
  | none => (s, refuse 1)
  | some s1 => (s1, .out)

/-! ### The dictionary and QUERY (R337, R338) -/

/-- A command's buffer: fabric address, port and kind of memory; for Dispatch Queue 0 the address is a fabric address. -/
def State.cmdBuf (s : State) (c : Cmd) (a n : Nat) (rd wr : Bool) : Except CRes (Nat × Option Nat × Bool) :=
  match c.ten with
  | none => if a + n ≤ 2 ^ 52 then .ok (a, none, false) else .error (refuse 1)
  | some t => match s.place t a n rd wr with | some p => .ok p | none => .error (.done 0x15 0 a)

def odHeadBad (c : Cmd) : Bool :=
  let v := c.w 0
  decide (fld v 33 3 ≠ 0) || decide (fld v 41 23 ≠ 0) || decide (c.w 3 ≠ 0)

def State.cmdOdRead (s : State) (c : Cmd) : State × CRes :=
  let v := c.w 0
  if odHeadBad c ∨ fld v 24 9 ≠ 0 ∨ c.w 1 ≠ 0 then (s, refuse 1)
  else
    let r := s.odRead (.dq c.d) (fld v 0 16) (fld v 16 8)
    if r.2.1 ≠ 0 then (s, refuse r.2.1)
    else if r.2.2.2 ≤ 8 then (if c.w 2 ≠ 0 then (s, refuse 1) else (r.1, .done 0 0 r.2.2.1))
    else if c.w 2 = 0 then (s, refuse 1)
    else match s.cmdBuf c (c.w 2).toNat r.2.2.2 false true with
    | .error e => (s, e)
    | .ok (fa, port, mem) =>
      (r.1.cmdBursts c false (wrRange fa (leBytes r.2.2.2 r.2.2.1)) port mem, .wait (.store r.2.2.2))

def State.cmdOdWrite (s : State) (c : Cmd) : State × CRes :=
  let v := c.w 0
  let n := fld v 24 9
  if odHeadBad c ∨ n = 0 ∨ 256 < n then (s, refuse 1)
  else if n ≤ 8 then
    if c.w 2 ≠ 0 ∨ 2 ^ (8 * n) ≤ (c.w 1).toNat then (s, refuse 1)
    else
      let r := s.odWrite (.dq c.d) (fld v 0 16) (fld v 16 8) (c.w 1).toNat n
      (r.1, if r.2.1 = 0 then .done 0 0 r.2.2 else refuse r.2.1)
  else if c.w 1 ≠ 0 ∨ c.w 2 = 0 then (s, refuse 1)
  else match s.cmdBuf c (c.w 2).toNat n true false with
  | .error e => (s, e)
  | .ok (fa, port, mem) =>
    (s.cmdBursts c true (rdLines fa n 0) port mem, .wait (.value (fld v 0 16) (fld v 16 8) n fa))

/-- RESULT of QUERY for a queue or the issuing Dispatch Queue. -/
def queryQ (g : Queue) (st : Nat) : Nat :=
  (mkWord [(0, 20, g.headIdx.1), (20, 1, b2n g.headIdx.2), (24, 4, st), (32, 32, g.starts)]).toNat

def State.cmdQuery (s : State) (c : Cmd) : State × CRes :=
  let v := c.w 0
  let id := fld v 16 13
  let what := fld v 0 4
  if fld v 4 12 ≠ 0 ∨ fld v 29 3 ≠ 0 ∨ fld v 37 27 ≠ 0 ∨ c.w 1 ≠ 0 then (s, refuse 1)
  else if what = 1 then
    match s.cmdQueue c id with
    | none => (s, refuse 2)
    | some q => (s.hwNow q, .done 0 0 (queryQ (s.queue q) (s.queue q).st.code))
  else if what = 2 then
    match s.cmdRing c id with
    | none => (s, refuse 2)
    | some r =>
      let g := s.ring r
      (s, .done 0 0 (mkWord [(0, 16, g.wr), (16, 1, b2n g.wrWrap), (17, 1, b2n g.full), (18, 1, b2n g.sided),
                             (32, 16, min 65535 g.siding.length)]).toNat)
  else if what = 3 then
    match c.ten with
    | some t => if id = t then (s, .done 0 0 (s.tenStatus t).toNat) else (s, refuse 3)
    | none => if 256 ≤ id then (s, refuse 2) else (s, .done 0 0 (s.tenStatus id).toNat)
  else if what = 4 then (s.hwNow c.q, .done 0 0 (queryQ (s.queue c.q) (s.dqState c.q)))
  else (s, refuse 1)

/-! ### Ends of buffer transfers (R327, R335, R337) -/

/-- Bytes of a buffer as read. -/
def gotBytes (got : List (Nat × Line)) (fa n : Nat) : List Nat :=
  (List.range n).map (fun i => match got.find? (fun p => p.1 == (fa + i) / 64) with
    | some p => lineByte p.2 ((fa + i) % 64)
    | none => 0)

/-- Entries of a gate list as read. -/
def State.gateStore (s : State) (cl b first n src : Nat) (got : List (Nat × Line)) : State :=
  s.updGate cl (fun g => { g with banks := updAt b (fun (t : Tbl (Word × Word)) =>
    (List.range n).foldl (fun t i =>
      let w := fun (k : Nat) => BitVec.ofNat 64 (leNat (gotBytes got (src + 16 * i + 8 * k) 8))
      Tbl.put (first + i) (w 0, w 1) t) t) g.banks })

/-- Transfers of a command still to end. -/
def State.cmdLeft (s : State) (q uid : Nat) : Bool :=
  let mine := fun (o : Own) => (o.k == OwnK.cmdRd || o.k == OwnK.cmdWr) && o.a == q && o.b == uid
  s.bursts.any (fun b => mine b.own) || s.granted.any (fun b => mine b.own) || s.txns.any (fun t => mine t.own)

/-- A transfer of a command's buffer ended; with the last one the command goes on (R327). A target lost counts as an
error of its direction. -/
def State.cmdXfer (s : State) (q uid : Nat) (rd : Bool) (op : LineOp) (res : Res) : State :=
  match s.dct.waits.find? (fun (c : CmdWait) => c.q == q && c.uid == uid) with
  | none => s
  | some c0 =>
    let st := fun (x : Nat) => if x = 0x19 then 0x19 else if rd then (if x = 0x12 then 0x12 else 0x10) else 0x11
    let c : CmdWait := match res with
      | .good l => { c0 with got := if rd then c0.got ++ [(op.line, l)] else c0.got }
      | .bad x => { c0 with bad := if c0.bad.isNone then some (st x) else c0.bad }
    let s1 : State := { s with dct := { s.dct with waits := s.dct.waits.map (fun (x : CmdWait) =>
      if x.q == q && x.uid == uid then c else x) } }
    if s1.cmdLeft q uid then s1
    else
      let d : DqRef := if q = 0x2000 then DqRef.installer else DqRef.tenant (Fin.ofNat 256 (q - 0x2100))
      let e := (((s.queue q).ents.find? (fun (e : Ent) => e.uid == uid)).getD { uid := uid, unit := 0, wrap := false, hdr := 0 })
      let cmd : Cmd := ⟨d, e⟩
      let s2 := match c.bad with
        | some x => (match c.k with | .value _ _ _ _ => s1.cmdJrn cmd 0 | _ => s1).cmdEnd c x 0 0
        | none =>
          match c.k with
          | .gate cl b first n src => (s1.gateStore cl b first n src c.got).cmdEnd c 0 0 (BitVec.ofNat 64 n)
          | .store r => s1.cmdEnd c 0 0 (BitVec.ofNat 64 r)
          | .value ix sub n fa =>
            let r := s1.odWrite (.dq d) ix sub (leNat (gotBytes c.got fa n)) n
            let s2 := r.1.cmdJrn cmd r.2.1
            if r.2.1 = 0 then s2.cmdEnd c 0 0 (BitVec.ofNat 64 r.2.2) else s2.cmdEnd c 0x17 (r.2.1 * 256) 0
          | _ => s1
      s2.pumpQ q

/-! ### The rows -/

def execSqCreate (dq : DqRef) (s : State) : Host.Outcome State Fault Refusal := s.act (fun s => s.command dq 0x80 anyForm false State.sqCreate)
def execSqDelete (dq : DqRef) (s : State) : Host.Outcome State Fault Refusal := s.act (fun s => s.command dq 0x81 anyForm false State.sqDelete)
def execCrCreate (dq : DqRef) (s : State) : Host.Outcome State Fault Refusal := s.act (fun s => s.command dq 0x82 anyForm false State.crCreate)
def execCrDelete (dq : DqRef) (s : State) : Host.Outcome State Fault Refusal := s.act (fun s => s.command dq 0x83 anyForm false State.crDelete)
def execSqModify (dq : DqRef) (s : State) : Host.Outcome State Fault Refusal := s.act (fun s => s.command dq 0x84 anyForm false State.sqModify)
def execSqDisable (dq : DqRef) (s : State) : Host.Outcome State Fault Refusal :=
  s.act (fun s => s.command dq 0x85 (fun c => !fbit (c.w 0) 16) false (fun s c => s.sqDisable c false))
def execSqDisableAbort (dq : DqRef) (s : State) : Host.Outcome State Fault Refusal :=
  s.act (fun s => s.command dq 0x85 (fun c => fbit (c.w 0) 16) false (fun s c => s.sqDisable c true))
def execSqEnable (dq : DqRef) (s : State) : Host.Outcome State Fault Refusal := s.act (fun s => s.command dq 0x86 anyForm false State.sqEnable)
def execSqDrain (dq : DqRef) (s : State) : Host.Outcome State Fault Refusal := s.act (fun s => s.command dq 0x87 anyForm false State.sqDrain)
def execWinSet (dq : DqRef) (s : State) : Host.Outcome State Fault Refusal := s.act (fun s => s.command dq 0x88 anyForm false State.winSet)
def execWinClear (dq : DqRef) (s : State) : Host.Outcome State Fault Refusal := s.act (fun s => s.command dq 0x89 anyForm false State.winClear)
def execTenantSet (dq : DqRef) (s : State) : Host.Outcome State Fault Refusal := s.act (fun s => s.command dq 0x8A anyForm false State.tenantSet)
def execGateLoad (dq : DqRef) (s : State) : Host.Outcome State Fault Refusal := s.act (fun s => s.command dq 0x90 anyForm false State.gateLoad)
def execGateActivate (dq : DqRef) (s : State) : Host.Outcome State Fault Refusal := s.act (fun s => s.command dq 0x91 anyForm false State.gateActivate)
def execLimiterSet (dq : DqRef) (s : State) : Host.Outcome State Fault Refusal := s.act (fun s => s.command dq 0x92 anyForm false State.limiterSet)
def execTransitOpen (dq : DqRef) (s : State) : Host.Outcome State Fault Refusal := s.act (fun s => s.command dq 0x98 anyForm true State.cmdOpen)
def execProceed (dq : DqRef) (s : State) : Host.Outcome State Fault Refusal :=
  s.act (fun s => s.command dq 0x99 (fun c => fld (c.w 0) 8 8 != 2 && fld (c.w 0) 8 8 != 3) true (fun s c => s.advanceT c (fld (c.w 0) 8 8)))
def execRecallConfirmed (dq : DqRef) (s : State) : Host.Outcome State Fault Refusal :=
  s.act (fun s => s.command dq 0x99 (fun c => fld (c.w 0) 8 8 == 2) true (fun s c => s.advanceT c 2))
def execToMirror (dq : DqRef) (s : State) : Host.Outcome State Fault Refusal :=
  s.act (fun s => s.command dq 0x99 (fun c => fld (c.w 0) 8 8 == 3) true (fun s c => s.advanceT c 3))
def execTransitConjoin (dq : DqRef) (s : State) : Host.Outcome State Fault Refusal := s.act (fun s => s.command dq 0x9A anyForm true State.conjoinT)
def execTransitAbort (dq : DqRef) (s : State) : Host.Outcome State Fault Refusal := s.act (fun s => s.command dq 0x9B anyForm false State.abortT)
def execOdRead (dq : DqRef) (s : State) : Host.Outcome State Fault Refusal := s.act (fun s => s.command dq 0xA0 anyForm false State.cmdOdRead)
def execOdWrite (dq : DqRef) (s : State) : Host.Outcome State Fault Refusal := s.act (fun s => s.command dq 0xA1 anyForm false State.cmdOdWrite)
def execBgScheduleStart (dq : DqRef) (s : State) : Host.Outcome State Fault Refusal :=
  s.act (fun s => s.command dq 0xA8 (fun c => fld (c.w 0) 4 4 != 2) true State.cmdBgStart)
def execBgScheduleStop (dq : DqRef) (s : State) : Host.Outcome State Fault Refusal :=
  s.act (fun s => s.command dq 0xA8 (fun c => fld (c.w 0) 4 4 == 2) false State.cmdBgStop)
def execQuery (dq : DqRef) (s : State) : Host.Outcome State Fault Refusal := s.act (fun s => s.command dq 0xB0 anyForm false State.cmdQuery)

end Sys2Proof.Machine
end

