-- ==== Sys2Proof/Machine/Traffic.lean ====
section
/-! DEFINITION. Bursts and transactions as commands (R18, R22 to R26, R96, R233, R238, R239, R300 to R302, R377), port
reports (R233 to R235), and the delivery of a transaction's end to its owner. -/

namespace Sys2Proof.Machine

/-! ### What follows of itself at the end of a step -/

/-- Waiting commands, wakes, transitions, fenced domains, idle marks, and what SAFE waits for: what waited for SETTLED is
done in the step after the one that settles. -/
def State.follow (before s : State) : State :=
  let s1 := ((s.waitsRun.keepMin.wakeMover).wakeQuad false).transRun.fencedOff
  (State.idleMark before s1).afterSafe.safeSettle

/-- A command whose effect may let something else go on. -/
def State.run (s : State) (f : State → State) : Host.Outcome State Fault Refusal := s.act (fun s => State.follow s (f s))

/-! ### Delivery -/

/-- The attachment of a transaction that was issued (R134). -/
def Txn.att (t : Txn) : Option Nat := if t.never then none else some t.xa

/-- The end of a transaction reaches its owner. -/
def State.deliver (s : State) (t : Txn) (res : Res) (corr : Bool) : State :=
  let a := t.own.a
  let b := t.own.b
  match t.own.k with
  | .scan => s.endScan a b t.op res t.port
  | .body => s.endBody a b t.op res t.port
  | .hdrWb => s.endHdrWb a b res t.port
  | .headWord => s.endHeadWord a res t.port
  | .look => s.endLook a t.op res
  | .cpl => s.endCpl a b res
  | .seed => s.endSeed a res t.att t.port
  | .csum => s.endCsum a res t.att t.port
  | .fenceSt => s.endFence a b res t.att t.port
  | .dqRec => s.dqRecEnd a res
  | .cmdRd => s.cmdXfer a b true t.op res
  | .cmdWr => s.cmdXfer a b false t.op res
  | .chFetch => s.chFetchEnd a b res
  | .chWb => s.chWbEnd a b res
  | .bmRd => s.tBm a b true res
  | .bmWr => s.tBm a b false res
  | .faultLog => ({ s with sbx := { s.sbx with logOut := s.sbx.logOut - 1 } }).logPump
  | .spill => s.spillEnd res
  | .prod => s.prodEnd a
  | .wearRec => s.wearRecEnd a res
  | .fwdWr => s.fwdWrEnd a b res
  | .fwdRd => s.fwdRdEnd a b t.op.key res
  | .retWr => s.retWrEnd a b
  | .retRd => s.retRdEnd a b t.op.key res
  | .feedW => s.telEnd a b
  | .work =>
    match Tbl.get a s.works with
    | none => s
    | some w =>
      if w.who = 0 then s.endWork a b t.rd t.op res t.xa t.port
      else if w.who = 1 then s.chData w.which a b t.rd t.op res
      else if w.who = 3 then s.scrEnd w.which b t.op res corr
      else if w.who = 4 then s.telEnd w.which a
      else s.tData w.which a b t.rd t.op res

/-! ### Granting (R22, R43, R96, R233) -/

/-- The queue and entry that a burst starts, if it is the first burst of an entry that has not started (R84). -/
def State.starts (s : State) (b : Burst) : Option (Nat × Nat) :=
  let ent : Option (Nat × Nat) := match b.own.k with
    | .work => match Tbl.get b.own.a s.works with
      | some w => if w.who = 0 then (Tbl.get w.uid s.jobs).map (fun j => (j.q, w.uid)) else none
      | none => none
    | .seed => (Tbl.get b.own.a s.jobs).map (fun j => (j.q, b.own.a))
    | .fwdWr => (s.fwdOut b.own.a b.own.b).map (fun o => (o.q, o.uid))
    | _ => none
  match ent with
  | none => none
  | some (q, u) => if (s.queue q).ents.any (fun (e : Ent) => e.uid == u && e.isStarted) then none else some (q, u)

/-- The entry may start now: its queue is not BACKED, its ring can take the claim, and the entries before it have
started (R84, R96). -/
def State.mayStart (s : State) (b : Burst) : Bool :=
  match s.starts b with
  | none => true
  | some (q, u) => (s.queue q).st != .backed && (s.queue q).earlierStarted u && s.claimOk (s.queue q).ring

/-- The queue of a burst whose entry may not start becomes BACKED where its ring is the reason. -/
def State.backFor (s : State) (b : Burst) : State :=
  match s.starts b with
  | none => s
  | some (q, _) => if s.claimOk (s.queue q).ring then s else s.enterBacked q

/-- The queue to look at after an event of a burst. -/
def State.burstQ (s : State) (b : Burst) : Option Nat :=
  match b.own.k with
  | .work => match Tbl.get b.own.a s.works with
    | some w => (Tbl.get w.uid s.jobs).map (·.q)
    | none => none
  | .seed | .csum => (Tbl.get b.own.a s.jobs).map (·.q)
  | _ => none

def State.pumpBurst (s : State) (b : Burst) : State :=
  match s.burstQ b with
  | some q => s.pumpQ q
  | none => s

/-- A line of a burst that was never issued, as the transaction it would have been. -/
def Burst.asTxn (b : Burst) (o : LineOp) (now : Nat) : Txn :=
  { xa := b.xa, rd := b.rd, tag := 0, op := o, own := b.own, issued := now, tmo := 0, port := b.port, lim := b.lim,
    ctx := b.ctx, cls := b.cls, never := true }

/-- A burst toward a port that is DOWN is refused (R233): a work item of an entry ends there; any other owner learns that
its target is lost. -/
def State.refuseBurst (s : State) (b : Burst) : State :=
  if b.own.k == OwnK.work && ((Tbl.get b.own.a s.works).map (·.who)) == some 0 then
    let q := s.burstQ b
    let s1 := s.refuseDown b
    match q with
    | some q => s1.pumpQ q
    | none => s1
  else
    let s0 := s.unwait b.id
    let s1 := match b.own.k, Tbl.get b.own.a s.works with
      | .work, some w =>
        if w.who = 1 then s0.updReq w.which b.own.b (fun r => { r with busy := false, out := r.out + b.lines.length, todo := [] })
        else s0
      | _, _ => s0
    b.lines.foldl (fun s o => s.deliver (b.asTxn o s.clk) (.bad 0x14) false) s1

/-- A granted burst leaves room for the work item's next one; a destination has had its turn (R129). -/
def State.granted1 (s : State) (b : Burst) : State :=
  if b.own.k == OwnK.work then
    (s.updWork b.own.a (fun w => { w with
      rdBusy := if b.rd then false else w.rdBusy, wrBusy := if b.rd then w.wrBusy else setAt b.own.b false w.wrBusy,
      dstLast := if b.rd then w.dstLast else some b.own.b })).pumpBurst b
  else s

/-- BURST_GRANT of a waiting burst: given when it is the one its class, credits, limiter, tags, horizons, the order of
R43 to R47 and that of MCOPY destinations (R129, R136) allow next. -/
def State.grant (s : State) (id : Nat) : State :=
  match s.bursts.find? (fun b => b.id == id) with
  | none => s
  | some b =>
    if !s.portUp b.port then s.refuseBurst b
    else if !s.mayStart b then s.backFor b
    else match s.grantable b with
    | none => s
    | some (n, p) =>
      if s.dstLater b then s
      else if (s.pick n b.rd).map (fun x => x.1.id) = some id then
        let s1 := (s.debit b n p).unwait id
        ({ s1 with granted := s1.granted ++ [{ b with xa := n, rs := p == Pay.share }] }).granted1 b
      else s

/-! ### Issuing (R18, R84, R300 to R302) -/

/-- The tenant a burst's transactions are counted for (R300, R301): none for control traffic. -/
def State.burstTenant (s : State) (b : Burst) : Option Nat :=
  match b.own.k with
  | .seed | .csum => (Tbl.get b.own.a s.jobs).map (·.tenant)
  | .fenceSt => if (s.queue b.own.a).dq then none else some (s.queue b.own.a).tenant
  | _ => b.tenant

/-- Work of a Transit window. -/
def State.isTransit (s : State) (b : Burst) : Bool :=
  b.own.k == OwnK.work && (match Tbl.get b.own.a s.works with | some w => w.who == 2 || w.who == 6 | none => false)

/-- The Tap events of an issued burst (R300 to R303). -/
def State.meterBurst (s : State) (b : Burst) : State :=
  match s.burstTenant b with
  | none => s
  | some t =>
    let n := b.lines.length
    let a := b.payload
    if s.isTransit b then (if b.rd then s else s.meter 4 t n a)
    else
      let s1 := s.meter (if b.rd then 0 else 1) t n a
      if isFwdQ b.rq then s1.meter 7 t n a else s1

/-- A granted burst could be issued now, apart from its tags and its turn. -/
def State.issuable (s : State) (b : Burst) : Bool :=
  !s.xaFenced b.xa && s.isOn (domXa b.xa) && s.burstMode b && s.mayStart b

/-- The turn of a granted burst (R19, R121). The bursts of one work item and direction go in the order of their grants. A
Mover takes one burst at a time from each of its work items: strictly by class, then by priority, then round robin. -/
def State.turn (s : State) (b : Burst) : Bool :=
  let before := s.granted.takeWhile (fun c => c.id != b.id)
  !before.any (fun c => c.rd == b.rd && (c.own == b.own || (b.sameItem c && s.issuable c))) &&
  (match b.mover with
   | none => true
   | some m =>
     match argmin (fun (c : Burst) => (c.cls * 8 + c.prio) * 2 ^ 66 + cyc (Tbl.getD m 0 s.tt.mvLast) c.own.a)
       (s.granted.filter (fun c => c.mover == some m && s.issuable c)) with
     | none => true
     | some c => b.sameItem c)

/-- A write burst of an entry's work item has been issued as far as its last byte (R129). -/
def State.wrote (s : State) (b : Burst) : State :=
  match b.lines.getLast?, Tbl.get b.own.a s.works with
  | some o, some w =>
    let d := (((Tbl.get w.uid s.jobs).map (fun j => (j.dst b.own.b).fa))).getD 0
    if b.rd then s
    else s.updWork b.own.a (fun w => { w with wrIss := setAt b.own.b (o.line * 64 + o.hi - d) w.wrIss })
  | _, _ => s

/-- The Mover has issued a burst of this work item last. -/
def State.served (s : State) (b : Burst) : State :=
  match b.mover with
  | none => s
  | some m => { s with tt := { s.tt with mvLast := Tbl.put m b.own.a s.tt.mvLast } }

/-- An entry's first burst starts it; from now on its data has moved. -/
def State.issued0 (s : State) (b : Burst) : State :=
  match b.own.k with
  | .work =>
    match Tbl.get b.own.a s.works with
    | none => s
    | some w =>
      if w.who = 0 then
        let q := ((Tbl.get w.uid s.jobs).map (·.q)).getD 0
        (((s.wrote b).updJob w.uid (fun j => { j with started := true, moved := true })).startEnt q w.uid).pumpQ q
      else if w.who = 1 then s.chIssued w.which b.own.b b.lines.length
      else if w.who = 2 then (s.tIssued w.which b.own.b b.rd).tPump w.which
      else if w.who = 3 then s.scrIssued w.which b.own.b
      else s
  | .seed =>
    let q := ((Tbl.get b.own.a s.jobs).map (·.q)).getD 0
    ((s.updJob b.own.a (fun j => { j with started := true })).startEnt q b.own.a).pumpQ q
  | .fwdWr => s.fwdIssued b.own.a b.own.b
  | _ => s

/-- The data bank an issued data burst passes through, for injections into a bank (R295): any of them. -/
def State.bankEvent (s : State) (b : Burst) : Bool := b.rd && s.burstTenant b != none

/-- BURST_ISSUE of a granted burst under tags of its attachment, when its turn has come. -/
def State.issue (s : State) (id : Nat) (tags : List Nat) : State :=
  match s.granted.find? (fun b => b.id == id) with
  | none => s
  | some b =>
    if !s.canIssue b tags || !s.isOn (domXa b.xa) || !s.burstMode b || !s.turn b then s
    else if !s.mayStart b then s.backFor b
    else
      let b1 := { b with tenant := s.burstTenant b }
      let s1 := (b.lines.zip tags).foldl (fun s x => s.issueLine b1 x.1 x.2) ((s.ungrant b).served b)
      ((s1.meterBurst b).issued0 b).injAct b.mover (some b.xa) (s.bankEvent b) b.ctx

/-! ### Responses (R377, R239, R136) -/

/-- Take a transaction away. -/
def State.dropTxn (s : State) (t : Txn) : State :=
  { s with txns := s.txns.filter (fun x => !(x.xa == t.xa && x.rd == t.rd && x.tag == t.tag)) }

/-- A response to a tag that is not outstanding: late (kind 0x02), or unknown (kind 0x03). -/
def State.strayResponse (s : State) (xa : Nat) (rd : Bool) (tag : Nat) : State :=
  match s.quar.find? (fun t => t.xa == xa && t.rd == rd && t.tag == tag) with
  | some q => { s with quar := s.quar.filter (fun t => !(t.xa == xa && t.rd == rd && t.tag == tag)) }.raise (0x040 + xa) 2 (q.line * 64) q.ctx
  | none => s.raise (0x040 + xa) 3 0 0xFFFF

/-- STAT of a response (R377, R133). -/
def rsResult (stat : Nat) (l : Line) : Res :=
  if stat ≤ 1 then .good l else if stat = 2 then .bad 0x12 else if stat = 4 then .bad 0x14 else .bad 0x10
def cpResult (stat : Nat) : Res := if stat = 0 then .good 0 else if stat = 4 then .bad 0x14 else .bad 0x10

/-- A response ends a transaction: latency, congestion mark, delivery. In SAFE it is absorbed. -/
def State.response (s : State) (xa : Nat) (rd : Bool) (tag : Nat) (res : Res) (corr cm : Bool) : State :=
  match s.txns.find? (fun t => t.xa == xa && t.rd == rd && t.tag == tag) with
  | none => if s.mode = .safe ∨ s.mode = .off then s else s.strayResponse xa rd tag
  | some t =>
    let s1 := s.dropTxn t
    if s.mode = .safe ∨ s.mode = .off then s1
    else
      let s2 := (s1.sampleLat t).mark t.lim cm
      let s3 := match t.tenant with
        | some n => if cm then s2.meter 6 n 0 1 else s2
        | none => s2
      s3.deliver t res corr

def State.readResp (s : State) (xa : Nat) (info : BitVec 18) (line : Line) : State :=
  let i := info.toNat
  let st := bits i 13 3
  s.response xa true (bits i 0 13) (rsResult st line) (st == 1) (bit i 16)

/-- The answer to a Hold (R375, R377). -/
def State.holdResp (s : State) (xa : Nat) (info : BitVec 18) : State :=
  let i := info.toNat
  let hid := bits i 0 13
  if s.mode = .safe ∨ s.mode = .off then s
  else if s.holds.any (fun h => h.hid == hid && h.xa == xa && !h.acked) then
    (if hid < 8 then s.tHoldAnswer hid (bits i 13 3 == 0) else s.scrHold (hid - 0x40) (bits i 13 3 == 0))
  else s.raise (0x040 + xa) 3 0 0xFFFF

def State.writeComp (s : State) (xa : Nat) (info : BitVec 18) : State :=
  let i := info.toNat
  if bit i 17 then s.holdResp xa info else s.response xa false (bits i 0 13) (cpResult (bits i 13 3)) false (bit i 16)

/-- A transaction is declared lost (R238, R239). -/
def State.lost (s : State) (xa : Nat) (rd : Bool) (tag : Nat) : State :=
  match s.txns.find? (fun t => t.xa == xa && t.rd == rd && t.tag == tag) with
  | none => s
  | some t =>
    if s.mode = .safe ∨ s.mode = .off then s
    else
      let s1 := (s.reach (t.issued + t.tmo)).dropTxn t
      let s2 : State := { s1 with quar := s1.quar ++ [{ xa := xa, rd := rd, tag := tag, ends := s1.clk + t.tmo, line := t.op.line, ctx := t.ctx }] }
      (s2.raise (0x040 + xa) 1 (t.op.line * 64) t.ctx).deliver t (.bad (if t.wasDown && t.port.isSome then 0x14 else 0x19)) false

def State.quarEnd (s : State) (xa : Nat) (rd : Bool) (tag : Nat) : State :=
  match s.quar.find? (fun t => t.xa == xa && t.rd == rd && t.tag == tag) with
  | none => s
  | some q =>
    let s1 := s.reach q.ends
    { s1 with quar := s1.quar.filter (fun t => !(t.xa == xa && t.rd == rd && t.tag == tag)) }

/-! ### Port reports (R233 to R235, R390) -/

/-- Completion writes granted and not issued toward a port reported DOWN are not issued (R235). -/
def State.recallCpl (s : State) (p : Nat) : State :=
  (s.granted.filter (fun b => b.own.k == OwnK.cpl && b.port == some p)).foldl (fun s b =>
    b.lines.foldl (fun s o => s.deliver (b.asTxn o s.clk) (.bad 0x14) false) (s.ungrant b)) s

/-- What a port reported DOWN ends at once. -/
def State.portDown (s : State) (p : Nat) : State :=
  let s1 : State := { s with txns := s.txns.map (fun t => if t.port = some p then { t with wasDown := true } else t) }
  let s2 := (s1.portQ p).portRings p
  let s3 := s2.tPort p
  let s4 := (s3.bursts.filter (fun b => b.port == some p)).foldl (fun s b =>
    if s.bursts.any (fun c => c.id == b.id) then s.refuseBurst b else s) (s3.recallCpl p)
  (Tbl.keys s4.queues).foldl (fun s q => s.pumpQ q) s4

/-- PST_REPORT: a report that changes nothing has no effect. The Queue Manager acts on it where it is on. -/
def State.portReport (s : State) (p : Nat) (up : Bool) (epoch : Nat) : State :=
  let o := s.port p
  if o.up = up ∧ o.epoch = epoch then s
  else
    let s1 : State := { s with ports := Tbl.put p { up := up, epoch := epoch } s.ports }
    if up ∨ s.mode = .safe ∨ s.mode = .off ∨ !s.isOn domQM then s1 else s1.portDown p

/-! ### The commands -/

def execBurstGrant (b : Nat) (s : State) : Host.Outcome State Fault Refusal := s.run (fun s => s.grant b)
def execBurstIssue (b : Nat) (tags : List Nat) (s : State) : Host.Outcome State Fault Refusal := s.run (fun s => s.issue b tags)
def execReadResponse (xa : Fin 8) (info : BitVec 18) (line : Line) (s : State) : Host.Outcome State Fault Refusal :=
  s.run (fun s => s.readResp xa.val info line)
def execWriteCompletion (xa : Fin 8) (info : BitVec 18) (s : State) : Host.Outcome State Fault Refusal :=
  s.run (fun s => s.writeComp xa.val info)
def execHoldAnswer (xa : Fin 8) (info : BitVec 18) (s : State) : Host.Outcome State Fault Refusal :=
  s.run (fun s => if info.toNat.testBit 17 then s.holdResp xa.val info else s)
def execTransactionLost (xa : Fin 8) (rd : Bool) (tag : Fin 8192) (s : State) : Host.Outcome State Fault Refusal :=
  s.run (fun s => s.lost xa.val rd tag.val)
def execQuarantineEnd (xa : Fin 8) (rd : Bool) (tag : Fin 8192) (s : State) : Host.Outcome State Fault Refusal :=
  s.run (fun s => s.quarEnd xa.val rd tag.val)
def execPstReport (port : BitVec 8) (up : Bool) (epoch : BitVec 16) (s : State) : Host.Outcome State Fault Refusal :=
  s.run (fun s => s.portReport port.toNat up epoch.toNat)

end Sys2Proof.Machine
end

