-- ==== Sys2Proof/Machine/Ticks.lean ====
section
/-! DEFINITION. The tick keeper and the tick boundary (R36 to R40, R48, R51, R52, R57, R62, R64, R97, R269, R300, R360,
R362), the time input (R38, R393), interrupts (R102), and what time alone does. -/

namespace Sys2Proof.Machine

/-! ### The keeper (R36 to R39, R360 to R362) -/

/-- How far the boundary moves toward fabric time: at most 2 ns (R38). -/
def State.slewStep (s : State) : Int := max (-2000) (min 2000 s.tt.slew)

/-- The keeper passes a boundary: a step, a change of LEN or PHASE, the end of a transitional tick, or the next tick. -/
def State.turnTick (s : State) : State :=
  let tt := s.tt
  let d := s.slewStep
  let changed := tt.cfgLen != tt.len || tt.cfgPhase != tt.phase
  let now := match tt.stepTo with
    | some x => x.1 + (s.clk - x.2)
    | none => tt.tickEnd
  let corr := match s.stn.step with
    | some x => x.1
    | none => reduceC (s.stn.corr + s.stn.slew) (tickPs tt.len : Int)
  let p : Int := (tt.cfgPhase * 1000 : Nat) + corr
  let num :=
    if tt.stepTo.isSome then tickNumIn tt.cfgLen p now
    else match s.stn.step with
    | some x => (x.2.2 + ((now : Int) - x.2.1) / (tickPs tt.len : Int)).toNat
    | none => if tt.transitional then tickNumIn tt.len (s.phasePs tt.phase) now else tt.tickNum + 1
  let anew := changed || tt.stepTo.isSome || s.stn.step.isSome
  let end_ := if anew then bndAfter tt.cfgLen p now else ((now : Int) + (tickPs tt.len : Int) + s.stn.slew).toNat
  { s with
    tt := { tt with time := if tt.stepTo.isSome then now else ((tt.time : Int) + d).toNat, slew := if tt.stepTo.isSome then 0 else tt.slew - d, stepTo := none,
                    stepped := tt.stepped || tt.stepTo.isSome || s.stn.step.isSome,
                    tickNum := num, ticks := tt.ticks + 1, tickStart := now, tickEnd := end_, len := tt.cfgLen,
                    phase := tt.cfgPhase, transitional := changed, reclaimed := false },
    stn := { s.stn with corr := corr, slew := 0, step := none, tick := some now } }

/-! ### What a boundary does -/

/-- Class configuration, ENABLE and STRICT take effect; a scheduled gate list comes into force (R55 to R57, R67). -/
def State.tickConfig (s : State) : State :=
  let c1 := s.classCfg 1
  { s with tt := { s.tt with
      cap := fld (s.classCfg 0) 0 7, reclaim := fld c1 0 6, overflow := fbit c1 8,
      weights := (List.range 8).map (fun i => fld (s.classCfg 2) (8 * i) 8), ceil := fld (s.classCfg 3) 0 7,
      gates := (List.range 4).map (fun c =>
        let g := s.gate c
        let r := s.reg (0x10040 + 8 * c) 0
        let g1 := { g with enable := fbit r 0, strict := fbit r 1 }
        match g.pend with
        | none => g1
        | some (b, first, base) =>
          if first ≤ (s.tt.tickNum : Int) then
            { g1 with pend := none, active := b, inForce := true, tBase := first, base := base, acts := (g.acts + 1) % 65536,
                      cycle := (gateCycle (g.banks.getD b []) 1024 0).getD 1 }
          else g1) } }

/-- Limiters refill, adapt, and leave the wheel (R59 to R64). -/
def State.tickLimiters (s : State) (ended : Nat) : State :=
  { s with tt := { s.tt with lims := s.tt.lims.map (fun (p : Nat × Limiter) => (p.1, p.2.boundary s.tt.ticks s.T ended)) } }

/-- The scheduling pass (R51, R52): reservations, its length, an overrun. -/
def State.tickPass (s : State) : State :=
  let n := s.tt.resv.length
  let cyc := passLen n
  let room := s.tickLen * s.pwr.coreMhz / 1000000
  let late := decide (room < cyc)
  let s1 := s.modifyBoundary (if late then 4 * (room - 96) else n)
  let s2 : State := { s1 with tt := { s1.tt with passCycles := cyc, overrun := s1.tt.overrun || late } }
  if late then s2.raise0 0x081 0 else s2

/-- The tenant of a reservation: its queue's, or its channel's. -/
def State.resvTenant (s : State) (k : Nat) : Nat :=
  if 0x4000 ≤ k then (s.chan (k - 0x4000)).tenant else (s.queue k).tenant

/-- RESERVED_BYTE_TICKS of each reservation held and not suspended (R300). -/
def State.tickMeter (s : State) : State :=
  s.tt.resv.foldl (fun s p => if s.suspended p.2 then s else s.meter 5 (s.resvTenant p.1) 0 (p.2.qrd + p.2.qwr)) s

/-- Full rings are read again, channels armed for a boundary see it, fences become visible, services take their tick. -/
def State.tickServices (s : State) (ended : Nat) : State :=
  let s1 := (Tbl.keys s.rings).foldl (fun s r => s.reread r) s
  let s2 : State := { s1 with
    chn := { s1.chn with chans := s1.chn.chans.map (fun (p : Nat × Chan) => (p.1, if p.2.arm = 2 then { p.2 with armDue := true } else p.2)) },
    sbx := { s1.sbx with sxa := s1.sbx.fxa, smv := s1.sbx.fmv, sbank := s1.sbx.fbank, srq := s1.sbx.frq } }
  s2.bgsTick ended

/-- Everything a boundary does after the keeper has moved. -/
def State.tickWork (s : State) (ended : Nat) : State :=
  let s1 := s.tickConfig.tickLimiters ended
  if s.mode = .safe then s1
  else ((s1.tickPass.newPools.tickMeter).tickServices ended).sample

/-- The keeper starts at the first boundary of R36 once it has held a fabric time. -/
def State.startTicks (s : State) : State :=
  let b := bndAfter s.tt.cfgLen (s.phasePs s.tt.cfgPhase) s.tt.time
  let s1 := s.advance (b - s.tt.time)
  { s1 with tt := { s1.tt with
      running := true, time := b, len := s.tt.cfgLen, phase := s.tt.cfgPhase, tickStart := b, tickEnd := b + tickPs s.tt.cfgLen,
      tickNum := tickNumIn s.tt.cfgLen (s.phasePs s.tt.cfgPhase) b, ticks := s.tt.ticks + 1, reclaimed := false },
            stn := { s1.stn with tick := some b } }

/-- TICK_BOUNDARY. Refill counts one tick for each boundary passed, whatever the slew or a step made of its length (R38);
after a transitional tick it is that tick's length (R39). -/
def State.tickBoundary (s : State) : State :=
  if !s.isOn domTT ∨ !s.tt.everValid ∨ s.mode = .off then s
  else if !s.tt.running then s.startTicks.tickWork 0
  else
    let ended := if s.tt.transitional then s.tickLen else s.T
    let s1 := s.advance ((s.tt.tickEnd : Int) - (s.tt.time : Int) - s.slewStep).toNat
    s1.quietTick.turnTick.tickWork ended

/-- RECLAIM_POINT (R48): once in a tick. -/
def State.reclaimPoint (s : State) : State :=
  if !s.tt.running ∨ s.tt.reclaimed ∨ s.mode = .safe ∨ s.mode = .off ∨ !s.isOn domTT then s
  else
    let at_ := s.tt.tickStart + s.tt.reclaim * s.tickLen / 64
    let s1 := s.advance (at_ - s.tt.time)
    { s1 with tt := { s1.tt with reclaimed := true, pools := s1.tt.pools.map Pool.reclaim } }

/-! ### The time input (R38, R393, R307) -/

def State.validFall (s : State) : State :=
  if !s.tt.timeValid then s
  else
    let s1 : State := { s with tt := { s.tt with timeValid := false, holdover := true },
                               wbg := { s.wbg with valid := false, ivHold := true } }
    s1.raise0 0x080 0

/-- TIME_VALID high with a fabric time: the first one sets the keeper, a later one is slewed or stepped to. -/
def State.validRise (s : State) (ns : Nat) : State :=
  let t := ns * 1000
  let s0 : State := { s with wbg := { s.wbg with time := t, valid := true } }
  if !s.tt.everValid then { s0 with tt := { s.tt with time := t, timeValid := true, everValid := true, holdover := false } }
  else
    let diff : Int := (t : Int) - (s.tt.time : Int)
    if !s.tt.running then { s0 with tt := { s.tt with time := t, timeValid := true, holdover := false } }
    else if 4 * (absI diff : Int) ≤ (s.T : Int) then
      { s0 with tt := { s.tt with timeValid := true, holdover := false, slew := diff, stepTo := none } }
    else { s0 with tt := { s.tt with timeValid := true, holdover := false, slew := 0, stepTo := some (t, s.clk) } }

/-- TIME_VALID_RISE: nothing where it is high already. -/
def State.validRiseEdge (s : State) (ns : Nat) : State := if s.tt.timeValid then s else s.validRise ns

/-- TIME_NS_JUMP: as if TIME_VALID had been 0 for that edge. -/
def State.timeJump (s : State) (ns : Nat) : State := if s.tt.timeValid then s.validFall.validRise ns else s

/-! ### Interrupt messages (R102) -/

/-- The moment from which a vector's due message may be sent. -/
def Vec.sendAt (x : Vec) : Nat := match x.last with | some t => max x.at_ (t + x.hold) | none => x.at_

/-- INTERRUPT_SEND: a due message of an unmasked vector, HOLDOFF after the last one, and after those that became sendable
before it (R388). -/
def State.irqSend (s : State) (v : Nat) : State :=
  let x := s.vec v
  if !x.due ∨ x.mask ∨ s.mode = .safe ∨ s.mode = .off ∨
     (Tbl.vals s.vecs).any (fun y => y.due && !y.mask && decide (y.sendAt < x.sendAt)) then s
  else
    let s1 := match x.last with
      | some t => s.reach (t + x.hold)
      | none => s
    (s1.updVec v (fun y => { y with due := false, sent := (y.sent + 1) % 2 ^ 32, last := some s1.clk })).emit (.irq v x.tenant)

/-! ### What time alone does -/

/-- Every queue, ring, channel, window and service looks at what it can do now. -/
def State.pumpAll (s : State) : State :=
  let s1 := (Tbl.keys s.queues).foldl (fun s q => (s.unback q).pumpQ q) s
  let s2 := (Tbl.keys s1.rings).foldl (fun s r => s.pumpRing r) s1
  let s3 := (Tbl.keys s2.chn.chans).foldl (fun s c => s.chPump c) s2
  let s4 := (List.range 8).foldl (fun s w => s.tPump w) s3
  let s5 := (Tbl.keys s4.bgs.scr).foldl (fun s r => s.scrPump r) s4
  let s6 := (Tbl.keys s5.bgs.tel).foldl (fun s g => s.telPump g) s5
  s6.wearFetch.logPump

/-- One TIM cycle with no command waiting. -/
def State.idle (s : State) : State :=
  let s1 := ({ s with out := [] }).advance Config.timCyclePs
  if s.held then s1
  else s.done (State.follow s (if s.mode = .safe ∨ s.mode = .off then s1 else s1.pumpAll))

/-! ### The commands -/

def execTickBoundary (s : State) : Host.Outcome State Fault Refusal := s.run (fun s => s.tickBoundary)
def execReclaimPoint (s : State) : Host.Outcome State Fault Refusal := s.run (fun s => s.reclaimPoint)
def execTimeValidFall (s : State) : Host.Outcome State Fault Refusal := s.act (fun s => s.validFall)
def execTimeValidRise (t : BitVec 64) (s : State) : Host.Outcome State Fault Refusal := s.act (fun s => s.validRiseEdge t.toNat)
def execTimeNsJump (t : BitVec 64) (s : State) : Host.Outcome State Fault Refusal := s.act (fun s => s.timeJump t.toNat)
def execInterruptSend (v : Fin 2048) (s : State) : Host.Outcome State Fault Refusal := s.act (fun s => s.irqSend v.val)

end Sys2Proof.Machine
end

