-- ==== Sys2Proof/Machine/RegOps.lean ====
section
/-! DEFINITION. The commands that reach the block as register accesses (R11, R12, R384, R426): the general write, and the
writes that have a row of their own. Each of these writes the one register its row names. -/

namespace Sys2Proof.Machine

/-- A register write on the port. -/
def State.bus (s : State) (off : Nat) (data : Word) (strb : BitVec 8) : Host.Outcome State Fault Refusal :=
  s.run (fun s => s.busWrite off data strb)

/-- Aperture offset of REG_REQ_ADDR, with WB_SEL (R384, R386). -/
def busOff (addr : BitVec 22) (wbSel : Bool) : Nat :=
  if wbSel then 0x400000 + addr.toNat % 2 ^ 13 * 8 else addr.toNat * 8

/-- Offsets of a tenant page, of a channel page, and of a Dispatch Queue's two registers. -/
def tenOff (t off : Nat) : Nat := 0x100000 + 0x2000 * t + off
def chOff (c off : Nat) : Nat := 0x80000 + 0x400 * c + off
def dqBaseOff : DqRef → Nat
  | .installer => 0x48
  | .tenant t => tenOff t.val 0x18
def dqBellOff : DqRef → Nat
  | .installer => 0x50
  | .tenant t => tenOff t.val 0x20

/-- A 64-bit value in which one bit is set or cleared. -/
def withBit (w : Word) (i : Nat) (v : Bool) : Word := setFld w i 1 (b2n v)

/-! ### The target itself (R291, R384) -/

def execRegisterWrite (addr : BitVec 22) (data : Word) (strb : BitVec 8) (wbSel : Bool) (s : State) :
    Host.Outcome State Fault Refusal := s.bus (busOff addr wbSel) data strb

/-- An access that nothing has answered in 3,950 ns: REG_ERR, and a read returns 0. -/
def execRegAccessTimeout (_wr : Bool) (_addr : BitVec 22) (s : State) : Host.Outcome State Fault Refusal :=
  s.act (fun s => (s.advance 3950000).answer 0 true)

/-- Reads the PD_AON bypass serves: SBX registers and GLB_MODESTAT (R291). -/
def bypassRead (off : Nat) : Bool := off == 0x28 || (decide (0x20000 ≤ off) && decide (off < 0x30000))

/-- The bypass answers an access that the normal path has not answered within 1 µs. -/
def State.bypass (s : State) (wr : Bool) (off : Nat) (data : Word) : State :=
  let s := s.touch .reg
  if wr then
    if off = 0x20 ∧ (fld data 0 4 = 0 ∨ fld data 0 4 = 7) then
      let r := s.modeWrite data 0xFF
      r.1.answer 0 (decide (r.2 ≠ 0))
    else s.answer 0 true
  else if bypassRead off then
    let v := ({ s with sbx := { s.sbx with bypass := true } }).regRead off
    (s.readEff off).answer v false
  else s.answer 0 true

def execBypassAnswer (wr : Bool) (addr : BitVec 22) (data : Word) (s : State) : Host.Outcome State Fault Refusal :=
  s.run (fun s => (s.advance 1000000).bypass wr (addr.toNat * 8) data)

/-! ### Tenant pages (R79, R100, R104) -/

def execDoorbell (t : Fin 256) (d : Fin 512) (s : State) : Host.Outcome State Fault Refusal :=
  s.bus (tenOff t.val (0x1000 + 8 * d.val)) 0 0

/-- The word a TEN_CRARM write carries. -/
def armData (rdIndex : BitVec 16) (rdWrap arm : Bool) : Word :=
  mkWord [(0, 16, rdIndex.toNat), (16, 1, b2n rdWrap), (31, 1, b2n arm)]

def execRingArm (t : Fin 256) (c : Fin 256) (rdIndex : BitVec 16) (rdWrap : Bool) (s : State) : Host.Outcome State Fault Refusal :=
  s.bus (tenOff t.val (0x800 + 8 * c.val)) (armData rdIndex rdWrap true) 0xFF
def execRingDisarm (t : Fin 256) (c : Fin 256) (rdIndex : BitVec 16) (rdWrap : Bool) (s : State) : Host.Outcome State Fault Refusal :=
  s.bus (tenOff t.val (0x800 + 8 * c.val)) (armData rdIndex rdWrap false) 0xFF
def execResultSlotRelease (t : Fin 256) (slot : Fin 16) (word : Fin 2) (s : State) : Host.Outcome State Fault Refusal :=
  s.bus (tenOff t.val (0x100 + 16 * slot.val + 8 * word.val)) 0 0

/-! ### Timetable registers (R39, R52, R62 to R64, R66) -/

def execTickConfigWrite (data : Word) (strb : BitVec 8) (s : State) : Host.Outcome State Fault Refusal := s.bus 0x10000 data strb
def execAdmitLimitWrite (data : Word) (strb : BitVec 8) (s : State) : Host.Outcome State Fault Refusal := s.bus 0x10100 data strb
def execLimcfgWrite (data : Word) (strb : BitVec 8) (s : State) : Host.Outcome State Fault Refusal := s.bus 0x10208 data strb
def execLimiterZero (s : State) : Host.Outcome State Fault Refusal := s.bus 0x10218 1 1
def execLimiterFill (s : State) : Host.Outcome State Fault Refusal := s.bus 0x10218 2 1
def execResetAdapt (s : State) : Host.Outcome State Fault Refusal := s.bus 0x10218 4 1
def execHwmClear (s : State) : Host.Outcome State Fault Refusal := s.bus 0x10308 (withBit 0 62 true) 0x80

/-! ### Dispatch Queues (R322, R324) -/

def execDqEnable (dq : DqRef) (data : Word) (strb : BitVec 8) (s : State) : Host.Outcome State Fault Refusal :=
  s.bus (dqBaseOff dq) data strb
def execDqStop (dq : DqRef) (s : State) : Host.Outcome State Fault Refusal :=
  s.bus (dqBaseOff dq) (withBit (s.dqBase (dqId dq)) 0 false) 1
def execDqDoorbell (dq : DqRef) (s : State) : Host.Outcome State Fault Refusal := s.bus (dqBellOff dq) 0 0

/-! ### The register path of the dictionary (R344) -/

def execOdwRead (s : State) : Host.Outcome State Fault Refusal := s.bus 0x30010 1 0xFF
def execOdwWrite (len : BitVec 9) (s : State) : Host.Outcome State Fault Refusal :=
  s.bus 0x30010 (mkWord [(0, 2, 2), (2, 9, len.toNat)]) 0xFF
def execOdwStatusRelease (s : State) : Host.Outcome State Fault Refusal := s.bus 0x30018 0 0

/-! ### Vectors, modes (R404 to R406, R431) -/

def execGlbVecWrite (v : Fin 2048) (data : Word) (strb : BitVec 8) (s : State) : Host.Outcome State Fault Refusal :=
  s.bus (0x1000 + 16 * v.val) data strb

/-- A request for a mode: GLB_MODE on the register path, the object 0x1100:0x01 on the others (R405). -/
def State.glbMode (s : State) (p : Path) (req : Nat) : Host.Outcome State Fault Refusal :=
  match p with
  | .reg => s.bus 0x20 (BitVec.ofNat 64 req) 1
  | p => s.run (fun s => if s.dspUp then ((s.touch p).odWrite p 0x1100 1 req 1).1 else s)

def execGlbModeOff (p : Path) (s : State) : Host.Outcome State Fault Refusal := s.glbMode p 0
def execGlbModeColdInit (p : Path) (s : State) : Host.Outcome State Fault Refusal := s.glbMode p 1
def execGlbModeFactoryTest (p : Path) (s : State) : Host.Outcome State Fault Refusal := s.glbMode p 2
def execGlbModeConfigure (p : Path) (s : State) : Host.Outcome State Fault Refusal := s.glbMode p 3
def execGlbModeRun (p : Path) (s : State) : Host.Outcome State Fault Refusal := s.glbMode p 4
def execGlbModeQuiesce (p : Path) (s : State) : Host.Outcome State Fault Refusal := s.glbMode p 6
def execGlbModeSafe (p : Path) (s : State) : Host.Outcome State Fault Refusal := s.glbMode p 7

/-! ### Signal Box registers (R278, R282, R293 to R296) -/

def execSbxForce (k : Fin 6) (data : Word) (strb : BitVec 8) (s : State) : Host.Outcome State Fault Refusal :=
  s.bus (0x20200 + 8 * k.val) data strb
def execSbxTestkey (data : Word) (strb : BitVec 8) (s : State) : Host.Outcome State Fault Refusal := s.bus 0x20500 data strb
def execSbxInj (data : Word) (strb : BitVec 8) (s : State) : Host.Outcome State Fault Refusal := s.bus 0x20508 data strb
def execFirstValidClear (s : State) : Host.Outcome State Fault Refusal := s.bus 0x20008 8 1
def execSbxSevWrite (k : Fin 24) (data : Word) (strb : BitVec 8) (s : State) : Host.Outcome State Fault Refusal :=
  s.bus (0x20100 + 8 * k.val) data strb
def execWarmReset (s : State) : Host.Outcome State Fault Refusal := s.bus 0x20400 (withBit 0 16 true) 4

/-! ### Channel registers (R212 to R217, R241 to R243) -/

def execChEnable (ch : Fin 512) (s : State) : Host.Outcome State Fault Refusal :=
  s.bus (chOff ch.val 0) (withBit (s.chan ch.val).ctl 0 true) 1
def execChDisable (ch : Fin 512) (s : State) : Host.Outcome State Fault Refusal :=
  s.bus (chOff ch.val 0) (withBit (s.chan ch.val).ctl 0 false) 1
def execChStop (ch : Fin 512) (s : State) : Host.Outcome State Fault Refusal :=
  s.bus (chOff ch.val 0) (withBit (s.chan ch.val).ctl 1 true) 1
def execChPause (ch : Fin 512) (s : State) : Host.Outcome State Fault Refusal :=
  s.bus (chOff ch.val 0) (withBit (s.chan ch.val).ctl 2 true) 1
def execChResume (ch : Fin 512) (s : State) : Host.Outcome State Fault Refusal :=
  s.bus (chOff ch.val 0) (withBit (s.chan ch.val).ctl 2 false) 1
def execChKick (ch : Fin 512) (s : State) : Host.Outcome State Fault Refusal := s.bus (chOff ch.val 0x28) 0 0

/-- Offset of a shadow register in a channel's page (R216). -/
def shadowOff : ShadowReg → Nat
  | .ringbase => 0x110 | .ringcfg => 0x118 | .ptr => 0x120 | .reqcfg => 0x130 | .evtcfg => 0x138

def execChShadowWrite (ch : Fin 512) (reg : ShadowReg) (data : Word) (strb : BitVec 8) (s : State) :
    Host.Outcome State Fault Refusal := s.bus (chOff ch.val (shadowOff reg)) data strb
def execChShcommitArm (ch : Fin 512) (tick : Bool) (s : State) : Host.Outcome State Fault Refusal :=
  s.bus (chOff ch.val 0x180) (if tick then 2 else 1) 1
def execChShcommitDisarm (ch : Fin 512) (s : State) : Host.Outcome State Fault Refusal := s.bus (chOff ch.val 0x180) 0 1

/-! ### Telemetry, Weighbridge and Station registers (R269, R310, R313, R315, R369) -/

def execTelemetryRdWrite (data : Word) (strb : BitVec 8) (s : State) : Host.Outcome State Fault Refusal := s.bus 0x40610 data strb
def execWbgSnap (s : State) : Host.Outcome State Fault Refusal := s.bus 0x400038 0 0
def execWbgRecack (s : State) : Host.Outcome State Fault Refusal := s.bus 0x400048 0 0
def execWbgSealctl (data : Word) (strb : BitVec 8) (s : State) : Host.Outcome State Fault Refusal := s.bus 0x400030 data strb
def execWbgConfigWrite (interval : Bool) (data : Word) (strb : BitVec 8) (s : State) : Host.Outcome State Fault Refusal :=
  s.bus (if interval then 0x400020 else 0x400018) data strb
def execStnEvsend (num : BitVec 8) (s : State) : Host.Outcome State Fault Refusal :=
  s.bus 0x60038 (BitVec.ofNat 64 num.toNat) 0xFF

end Sys2Proof.Machine
end

