-- ==== Sys2Proof/Machine/Events.lean ====
section
/-! DEFINITION. The remaining commands: sessions and MCTP (chapter 12), channel, Transit, Engineering, Signal Box,
Weighbridge, Peer Link, power, reset and clock events (chapters 6, 7, 9 to 11, 13 to 15). -/

namespace Sys2Proof.Machine

/-! ### Sessions and the journal (R348, R349, R351) -/

/-- A write of 1 to ODW_AUTH.END on the register path, to 0x1010:0x03 on the others. -/
def execSessionEnd (p : Path) (s : State) : Host.Outcome State Fault Refusal :=
  match p with
  | .reg => s.bus 0x30108 1 0xFF
  | p => s.act (fun s => if s.dspUp then ((s.touch p).odWrite p 0x1010 3 1 1).1 else s)
def execSessionIdleEnd (p : Path) (s : State) : Host.Outcome State Fault Refusal := s.act (fun s => s.idleEnd p)
def execNonceExpiry (p : Path) (s : State) : Host.Outcome State Fault Refusal := s.act (fun s => s.nonceEnd (pathKey p))
def execAuthLockoutEnd (p : Path) (s : State) : Host.Outcome State Fault Refusal := s.act (fun s => s.lockEnd (pathKey p))
def execJournalSpill (s : State) : Host.Outcome State Fault Refusal := s.act (fun s => s.spill)

/-! ### MCTP (R345, R346, R389) -/

/-- The block takes MCTP messages outside OFF. -/
def State.mctp (s : State) (f : State → State) : Host.Outcome State Fault Refusal :=
  s.run (fun s => if s.mode = .off then s else f s)

def execMctpRead (h : MctpHdr) (msg : List Byte) (s : State) : Host.Outcome State Fault Refusal := s.mctp (fun s => s.kalmet h msg)
def execMctpWrite (h : MctpHdr) (msg : List Byte) (s : State) : Host.Outcome State Fault Refusal := s.mctp (fun s => s.kalmet h msg)
def execSetEndpointId (h : MctpHdr) (msg : List Byte) (s : State) : Host.Outcome State Fault Refusal :=
  s.mctp (fun s => s.control h msg 1 State.mctpSetEid)
def execGetEndpointId (h : MctpHdr) (msg : List Byte) (s : State) : Host.Outcome State Fault Refusal :=
  s.mctp (fun s => s.control h msg 2 State.mctpGetEid)
def execGetMctpVersionSupport (h : MctpHdr) (msg : List Byte) (s : State) : Host.Outcome State Fault Refusal :=
  s.mctp (fun s => s.control h msg 4 State.mctpVersions)
def execGetMessageTypeSupport (h : MctpHdr) (msg : List Byte) (s : State) : Host.Outcome State Fault Refusal :=
  s.mctp (fun s => s.control h msg 5 State.mctpTypes)
def execGetVendorDefinedMessageSupport (h : MctpHdr) (msg : List Byte) (s : State) : Host.Outcome State Fault Refusal :=
  s.mctp (fun s => s.control h msg 6 State.mctpVendor)
def execMctpPacketDiscard (pkt : List Byte) (s : State) : Host.Outcome State Fault Refusal := s.mctp (fun s => s.packetDiscard pkt)

/-- Work of the switched domains stands still in SAFE and OFF (R246, R288). -/
def State.live (s : State) (f : State → State) : Host.Outcome State Fault Refusal :=
  s.run (fun s => if s.mode = .safe ∨ s.mode = .off then s else f s)

/-! ### Request lines and channels (R203 to R210, R216) -/

/-- A sampled assertion serves the channels that bind the line, and the WAIT_EVENT entries that name it. -/
def State.rql (s : State) (line : Nat) : State :=
  if s.mode = .safe ∨ s.mode = .off then s
  else
    let s1 := if s.isOn domCHN && !s.sbx.fchn then s.chAssert line else s
    s1.waitEvents 0 line 0

def execRqlAssertion (line : Fin 256) (s : State) : Host.Outcome State Fault Refusal := s.run (fun s => s.rql line.val)
def execLevelBurstDecision (ch : Fin 512) (high : Bool) (s : State) : Host.Outcome State Fault Refusal :=
  s.live (fun s => s.chLevel ch.val high)
def execRequestPresent (ch : Fin 512) (s : State) : Host.Outcome State Fault Refusal := s.live (fun s => s.chPresent ch.val)
def execEventPulse (line : Fin 256) (s : State) : Host.Outcome State Fault Refusal := s.act (fun s => s.evoPulse line.val)
def execHandover (ch : Fin 512) (s : State) : Host.Outcome State Fault Refusal := s.live (fun s => s.chHandover ch.val)

/-! ### Transit (R170, R175, R178, R180, R391) -/

def execDtrNotification (w : Fin 8) (page : BitVec 30) (s : State) : Host.Outcome State Fault Refusal :=
  s.live (fun s => s.dtr w.val page.toNat)
def execDecAnswer (w : Fin 8) (op : BitVec 3) (code : BitVec 2) (s : State) : Host.Outcome State Fault Refusal :=
  s.live (fun s => s.decAnswer w.val op.toNat code.toNat)
def execDecAnswerTimeout (w : Fin 8) (s : State) : Host.Outcome State Fault Refusal := s.live (fun s => s.decTimeout w.val)
def execRebindAnswerTimeout (w : Fin 8) (s : State) : Host.Outcome State Fault Refusal := s.live (fun s => s.rebindTimeout w.val)
def execHoldAckTimeout (w : Fin 8) (s : State) : Host.Outcome State Fault Refusal := s.live (fun s => s.holdAckTimeout w.val)
def execConjunctionDeadline (w : Fin 8) (s : State) : Host.Outcome State Fault Refusal := s.live (fun s => s.conjDeadline w.val)
def execCleanIntervalEnd (w : Fin 8) (page : BitVec 30) (s : State) : Host.Outcome State Fault Refusal :=
  s.live (fun s => s.tClean w.val page.toNat)

/-! ### Engineering Services (R258 to R269) -/

def execRewriteHoldTimeout (r : Fin 64) (s : State) : Host.Outcome State Fault Refusal := s.live (fun s => s.scrHoldTimeout r.val)
def execCalibrationPeriod (fMeas : List Nat) (temps : List Int) (vcore : Nat) (s : State) : Host.Outcome State Fault Refusal :=
  s.act (fun s => s.calibrate fMeas temps vcore)
def execTickPhaseTrim (err : Int) (s : State) : Host.Outcome State Fault Refusal := s.act (fun s => s.trimTick err)
def execWearIntervalEnd (s : State) : Host.Outcome State Fault Refusal := s.live (fun s => s.wearInterval)
def execWearStepStart (s : State) : Host.Outcome State Fault Refusal := s.live (fun s => s.wearStart)
def execMirrorFeedRecord (session : BitVec 8) (feed : BitVec 384) (s : State) : Host.Outcome State Fault Refusal :=
  s.live (fun s => s.feedRecord session.toNat feed.toNat)

/-! ### The Signal Box (R279, R284 to R290, R294) -/

def execFaultMessage (det : Option Detection) (s : State) : Host.Outcome State Fault Refusal := s.run (fun s => s.faultMessage det)
def execFltForceSafe (s : State) : Host.Outcome State Fault Refusal := s.run (fun s => s.forceSafePin)
def execFltForceSafeFall (s : State) : Host.Outcome State Fault Refusal := s.run (fun s => s.forceSafeFall)

/-- A self-check or core clock monitor trip reaches the Signal Box through the hardwired path (R290). -/
def execSelfCheckTrip (source : Fin 384) (context : Nat) (s : State) : Host.Outcome State Fault Refusal :=
  s.run (fun s => if hardwired source.val then s.sbxTake { source := source.val, ctx := context % 65536, time := s.ns } else s)
def execSafeAbsorbEnd (s : State) : Host.Outcome State Fault Refusal := s.run (fun s => s.safeAbsorbEnd)

/-- The message at the head of the FLT_MSG_* queue is transferred (R396). -/
def State.fltSend (s : State) : State :=
  match s.sbx.fltq with
  | [] => s
  | m :: t => ({ s with sbx := { s.sbx with fltq := t } }).emit (.flt m)

def execFltMsgTransfer (s : State) : Host.Outcome State Fault Refusal := s.act (fun s => s.fltSend)
def execTestkeyExpiry (s : State) : Host.Outcome State Fault Refusal := s.act (fun s => s.testkeyExpiry)

/-! ### The Weighbridge (R303 to R307, R314, R397) -/

def execTapEvent (seen : Option (BitVec 72)) (clocked : Bool) (s : State) : Host.Outcome State Fault Refusal :=
  s.act (fun s => s.tapEvent seen clocked)
def execTapDrain (mismatch : Option (Fin 256)) (s : State) : Host.Outcome State Fault Refusal := s.act (fun s => s.tapDrain mismatch)
def execIntervalEnd (s : State) : Host.Outcome State Fault Refusal := s.act (fun s => s.intervalEnd)
def execRecordReady (snap : Bool) (s : State) : Host.Outcome State Fault Refusal := s.act (fun s => s.recordReady snap)
def execKeyTransfer (bytes : List Byte) (s : State) : Host.Outcome State Fault Refusal := s.act (fun s => s.keyTransfer bytes)
def execKeyTransferGap (s : State) : Host.Outcome State Fault Refusal := s.act (fun s => s.keyGap)
def execKeyArrivalTimeout (s : State) : Host.Outcome State Fault Refusal := s.act (fun s => s.keyTimeout)
def execVltCalibration (khz : Nat) (s : State) : Host.Outcome State Fault Refusal := s.act (fun s => s.vltCal khz)

/-! ### The Peer Link (R356 to R369) -/

def execPresence (frame : BitVec 64) (s : State) : Host.Outcome State Fault Refusal := s.act (fun s => s.presence frame)
def execPresenceSend (s : State) : Host.Outcome State Fault Refusal := s.act (fun s => s.presenceSend)
def execPresenceExpiry (n : Fin 16) (s : State) : Host.Outcome State Fault Refusal := s.act (fun s => s.presenceExpiry n.val)
def execTickFrame (frame : BitVec 64) (arrival : Nat) (s : State) : Host.Outcome State Fault Refusal :=
  s.act (fun s => s.tickFrame frame arrival)
def execForwardDoorbell (frame : BitVec 64) (s : State) : Host.Outcome State Fault Refusal := s.live (fun s => s.forwardDoorbell frame)
def execReturnDoorbell (frame : BitVec 64) (s : State) : Host.Outcome State Fault Refusal := s.live (fun s => s.returnDoorbell frame)

/-- A PEER_EVENT frame is sampled and passed on (R357, R369). -/
def State.peerEvent (s : State) (f : Word) : State :=
  let s1 := match s.eventIn f with
    | some (n, o) => s.waitEvents 1 n o
    | none => s
  s1.eventRelay f

def execPeerEvent (frame : BitVec 64) (s : State) : Host.Outcome State Fault Refusal := s.run (fun s => s.peerEvent frame)
def execFrameDiscard (frame : BitVec 64) (s : State) : Host.Outcome State Fault Refusal := s.act (fun s => s.frameDiscard frame)
def execPeerLinkBroken (s : State) : Host.Outcome State Fault Refusal := s.act (fun s => s.linkBroken)
def execForwardTimeLimit (w : Fin 16) (seq : BitVec 16) (s : State) : Host.Outcome State Fault Refusal :=
  s.live (fun s => s.fwdTimeLimit w.val seq.toNat)
def execForwardSlotQuarantineEnd (w : Fin 16) (seq : BitVec 16) (s : State) : Host.Outcome State Fault Refusal :=
  s.act (fun s => s.fwdQuarEnd w.val seq.toNat)
def execNotifyRelay (frame : BitVec 64) (s : State) : Host.Outcome State Fault Refusal := s.act (fun s => s.notifyRelay frame)

/-- A frame slot; the sender samples its own peer event as it leaves the pin (R369). -/
def State.frameSlot (s : State) : State :=
  match s.ownEvent with
  | some n => s.peerFrameSend.waitEvents 1 n s.stn.id
  | none => s.peerFrameSend

def execPeerFrameSend (s : State) : Host.Outcome State Fault Refusal := s.run (fun s => s.frameSlot)

/-! ### Power (R398, R417 to R419) -/

/-- A Queue Manager that comes on finds the ports as they were last reported. -/
def State.ackAndPorts (s : State) (d : Nat) (retained : Bool) : State :=
  let s1 := s.powerAck d retained
  if d = domQM ∧ s1.isOn domQM ∧ !s.isOn domQM then
    (Tbl.keys (s1.ports.filter (fun p => !p.2.up))).foldl (fun s p => s.portDown p) s1
  else s1

def execPowerAck (d : Fin 98) (retained : Bool) (s : State) : Host.Outcome State Fault Refusal :=
  s.run (fun s => s.ackAndPorts d.val retained)
def execPowerDeny (d : Fin 98) (s : State) : Host.Outcome State Fault Refusal := s.run (fun s => s.powerDeny d.val)
def execPowerRequestTimeout (d : Fin 98) (s : State) : Host.Outcome State Fault Refusal := s.run (fun s => s.powerTimeout d.val)
/-- Every 100 µs: each denied off request that is still wanted is raised again (R417). -/
def State.offRetries (s : State) : State := (List.range 98).foldl (fun s d => s.offRetry d) s

def execOffRequestRetry (s : State) : Host.Outcome State Fault Refusal := s.run (fun s => s.offRetries)
def execMoverIdle (m : Fin 64) (s : State) : Host.Outcome State Fault Refusal := s.act (fun s => s.moverIdle m.val)
def execQuadrantIdle (q : Fin 4) (s : State) : Host.Outcome State Fault Refusal := s.act (fun s => s.quadIdle q.val)

/-! ### Resets, start-up and clocks (R399, R400, R408 to R415, R421) -/

/-- Commands that act on the block whatever holds it in reset. -/
def State.pin (s : State) (f : State → State) : Host.Outcome State Fault Refusal :=
  .next (s.done (f { s with out := [] }))

def execColdReset (s : State) : Host.Outcome State Fault Refusal := s.pin (fun s => s.coldReset)
def execColdResetRelease (stnId : BitVec 4) (s : State) : Host.Outcome State Fault Refusal :=
  s.pin (fun s => s.coldRelease stnId.toNat)
def execDftTestMode (high : Bool) (s : State) : Host.Outcome State Fault Refusal := s.pin (fun s => s.testModePin high)
def execAonPowerLoss (s : State) : Host.Outcome State Fault Refusal := s.pin (fun s => s.aonLoss)
def execAonPowerOnRelease (misordered : Bool) (s : State) : Host.Outcome State Fault Refusal :=
  s.pin (fun s => s.aonRelease misordered)
def execRstWarmNFall (s : State) : Host.Outcome State Fault Refusal := s.run (fun s => s.warmPinFall)
def execDftMbistGo (s : State) : Host.Outcome State Fault Refusal := s.act (fun s => s.mbistGoPin)
def execMbistDone (failed : Bool) (s : State) : Host.Outcome State Fault Refusal := s.act (fun s => s.mbistEnd failed)
def execMbistWaitEnd (s : State) : Host.Outcome State Fault Refusal := s.act (fun s => s.mbistWait)
def execStagingClearDone (s : State) : Host.Outcome State Fault Refusal := s.act (fun s => s.clearDone)
def execSupplyFault (source : Fin 6) (s : State) : Host.Outcome State Fault Refusal := s.pin (fun s => s.supplyFault source.val)
def execClockMonitorWindow (dom : Fin 20) (khz : Nat) (s : State) : Host.Outcome State Fault Refusal :=
  s.run (fun s => s.clkWindow dom.val khz)
def execClockAbsent (dom : Fin 20) (s : State) : Host.Outcome State Fault Refusal := s.run (fun s => s.clkAbsent dom.val)

end Sys2Proof.Machine
end

