-- ==== Sys2Proof/Machine/Dispatch.lean ====
section
/-! DEFINITION. The meaning of every command, arm by arm. -/

namespace Sys2Proof.Machine

def exec (i : Instr) (s : State) : Host.Outcome State Fault Refusal :=
  match i with
  | .registerWrite addr data strb wbSel => Sys2Proof.Machine.execRegisterWrite addr data strb wbSel s
  | .regAccessTimeout wr addr => Sys2Proof.Machine.execRegAccessTimeout wr addr s
  | .bypassAnswer wr addr data => Sys2Proof.Machine.execBypassAnswer wr addr data s
  | .doorbell t d => Sys2Proof.Machine.execDoorbell t d s
  | .copy q => Sys2Proof.Machine.execCopy q s
  | .fill q => Sys2Proof.Machine.execFill q s
  | .zero q => Sys2Proof.Machine.execZero q s
  | .compare q => Sys2Proof.Machine.execCompare q s
  | .check q => Sys2Proof.Machine.execCheck q s
  | .mcopy q => Sys2Proof.Machine.execMcopy q s
  | .gather q => Sys2Proof.Machine.execGather q s
  | .scatter q => Sys2Proof.Machine.execScatter q s
  | .greduce q => Sys2Proof.Machine.execGreduce q s
  | .fence q => Sys2Proof.Machine.execFence q s
  | .nop q => Sys2Proof.Machine.execNop q s
  | .link q => Sys2Proof.Machine.execLink q s
  | .waitEvent q => Sys2Proof.Machine.execWaitEvent q s
  | .waitEventTimeout q => Sys2Proof.Machine.execWaitEventTimeout q s
  | .burstGrant b => Sys2Proof.Machine.execBurstGrant b s
  | .burstIssue b tags => Sys2Proof.Machine.execBurstIssue b tags s
  | .readResponse xa info line => Sys2Proof.Machine.execReadResponse xa info line s
  | .writeCompletion xa info => Sys2Proof.Machine.execWriteCompletion xa info s
  | .holdAnswer xa info => Sys2Proof.Machine.execHoldAnswer xa info s
  | .transactionLost xa rd tag => Sys2Proof.Machine.execTransactionLost xa rd tag s
  | .quarantineEnd xa rd tag => Sys2Proof.Machine.execQuarantineEnd xa rd tag s
  | .interruptSend v => Sys2Proof.Machine.execInterruptSend v s
  | .ringArm t c rdIndex rdWrap => Sys2Proof.Machine.execRingArm t c rdIndex rdWrap s
  | .ringDisarm t c rdIndex rdWrap => Sys2Proof.Machine.execRingDisarm t c rdIndex rdWrap s
  | .resultSlotRelease t slot word => Sys2Proof.Machine.execResultSlotRelease t slot word s
  | .tickBoundary => Sys2Proof.Machine.execTickBoundary s
  | .reclaimPoint => Sys2Proof.Machine.execReclaimPoint s
  | .timeValidFall => Sys2Proof.Machine.execTimeValidFall s
  | .timeValidRise timeNs => Sys2Proof.Machine.execTimeValidRise timeNs s
  | .tickConfigWrite data strb => Sys2Proof.Machine.execTickConfigWrite data strb s
  | .admitLimitWrite data strb => Sys2Proof.Machine.execAdmitLimitWrite data strb s
  | .limcfgWrite data strb => Sys2Proof.Machine.execLimcfgWrite data strb s
  | .limiterZero => Sys2Proof.Machine.execLimiterZero s
  | .limiterFill => Sys2Proof.Machine.execLimiterFill s
  | .resetAdapt => Sys2Proof.Machine.execResetAdapt s
  | .hwmClear => Sys2Proof.Machine.execHwmClear s
  | .dqEnable dq data strb => Sys2Proof.Machine.execDqEnable dq data strb s
  | .dqStop dq => Sys2Proof.Machine.execDqStop dq s
  | .dqDoorbell dq => Sys2Proof.Machine.execDqDoorbell dq s
  | .sqCreate dq => Sys2Proof.Machine.execSqCreate dq s
  | .sqDelete dq => Sys2Proof.Machine.execSqDelete dq s
  | .crCreate dq => Sys2Proof.Machine.execCrCreate dq s
  | .crDelete dq => Sys2Proof.Machine.execCrDelete dq s
  | .sqModify dq => Sys2Proof.Machine.execSqModify dq s
  | .sqDisable dq => Sys2Proof.Machine.execSqDisable dq s
  | .sqDisableAbort dq => Sys2Proof.Machine.execSqDisableAbort dq s
  | .sqEnable dq => Sys2Proof.Machine.execSqEnable dq s
  | .sqDrain dq => Sys2Proof.Machine.execSqDrain dq s
  | .winSet dq => Sys2Proof.Machine.execWinSet dq s
  | .winClear dq => Sys2Proof.Machine.execWinClear dq s
  | .tenantSet dq => Sys2Proof.Machine.execTenantSet dq s
  | .gateLoad dq => Sys2Proof.Machine.execGateLoad dq s
  | .gateActivate dq => Sys2Proof.Machine.execGateActivate dq s
  | .limiterSet dq => Sys2Proof.Machine.execLimiterSet dq s
  | .transitOpen dq => Sys2Proof.Machine.execTransitOpen dq s
  | .proceed dq => Sys2Proof.Machine.execProceed dq s
  | .recallConfirmed dq => Sys2Proof.Machine.execRecallConfirmed dq s
  | .toMirror dq => Sys2Proof.Machine.execToMirror dq s
  | .transitConjoin dq => Sys2Proof.Machine.execTransitConjoin dq s
  | .transitAbort dq => Sys2Proof.Machine.execTransitAbort dq s
  | .odRead dq => Sys2Proof.Machine.execOdRead dq s
  | .odWrite dq => Sys2Proof.Machine.execOdWrite dq s
  | .bgScheduleStart dq => Sys2Proof.Machine.execBgScheduleStart dq s
  | .bgScheduleStop dq => Sys2Proof.Machine.execBgScheduleStop dq s
  | .query dq => Sys2Proof.Machine.execQuery dq s
  | .odwRead => Sys2Proof.Machine.execOdwRead s
  | .odwWrite len => Sys2Proof.Machine.execOdwWrite len s
  | .odwStatusRelease => Sys2Proof.Machine.execOdwStatusRelease s
  | .sessionEnd p => Sys2Proof.Machine.execSessionEnd p s
  | .sessionIdleEnd p => Sys2Proof.Machine.execSessionIdleEnd p s
  | .nonceExpiry p => Sys2Proof.Machine.execNonceExpiry p s
  | .authLockoutEnd p => Sys2Proof.Machine.execAuthLockoutEnd p s
  | .mctpRead h msg => Sys2Proof.Machine.execMctpRead h msg s
  | .mctpWrite h msg => Sys2Proof.Machine.execMctpWrite h msg s
  | .setEndpointId h msg => Sys2Proof.Machine.execSetEndpointId h msg s
  | .getEndpointId h msg => Sys2Proof.Machine.execGetEndpointId h msg s
  | .getMctpVersionSupport h msg => Sys2Proof.Machine.execGetMctpVersionSupport h msg s
  | .getMessageTypeSupport h msg => Sys2Proof.Machine.execGetMessageTypeSupport h msg s
  | .getVendorDefinedMessageSupport h msg => Sys2Proof.Machine.execGetVendorDefinedMessageSupport h msg s
  | .mctpPacketDiscard pkt => Sys2Proof.Machine.execMctpPacketDiscard pkt s
  | .journalSpill => Sys2Proof.Machine.execJournalSpill s
  | .glbVecWrite v data strb => Sys2Proof.Machine.execGlbVecWrite v data strb s
  | .glbModeOff p => Sys2Proof.Machine.execGlbModeOff p s
  | .glbModeColdInit p => Sys2Proof.Machine.execGlbModeColdInit p s
  | .glbModeFactoryTest p => Sys2Proof.Machine.execGlbModeFactoryTest p s
  | .glbModeConfigure p => Sys2Proof.Machine.execGlbModeConfigure p s
  | .glbModeRun p => Sys2Proof.Machine.execGlbModeRun p s
  | .glbModeQuiesce p => Sys2Proof.Machine.execGlbModeQuiesce p s
  | .glbModeSafe p => Sys2Proof.Machine.execGlbModeSafe p s
  | .rqlAssertion line => Sys2Proof.Machine.execRqlAssertion line s
  | .levelBurstDecision ch high => Sys2Proof.Machine.execLevelBurstDecision ch high s
  | .requestPresent ch => Sys2Proof.Machine.execRequestPresent ch s
  | .eventPulse line => Sys2Proof.Machine.execEventPulse line s
  | .chEnable ch => Sys2Proof.Machine.execChEnable ch s
  | .chDisable ch => Sys2Proof.Machine.execChDisable ch s
  | .chStop ch => Sys2Proof.Machine.execChStop ch s
  | .chPause ch => Sys2Proof.Machine.execChPause ch s
  | .chResume ch => Sys2Proof.Machine.execChResume ch s
  | .chKick ch => Sys2Proof.Machine.execChKick ch s
  | .chShadowWrite ch reg data strb => Sys2Proof.Machine.execChShadowWrite ch reg data strb s
  | .chShcommitArm ch tick => Sys2Proof.Machine.execChShcommitArm ch tick s
  | .chShcommitDisarm ch => Sys2Proof.Machine.execChShcommitDisarm ch s
  | .handover ch => Sys2Proof.Machine.execHandover ch s
  | .dtrNotification w page => Sys2Proof.Machine.execDtrNotification w page s
  | .decAnswer w op code => Sys2Proof.Machine.execDecAnswer w op code s
  | .decAnswerTimeout w => Sys2Proof.Machine.execDecAnswerTimeout w s
  | .rebindAnswerTimeout w => Sys2Proof.Machine.execRebindAnswerTimeout w s
  | .holdAckTimeout w => Sys2Proof.Machine.execHoldAckTimeout w s
  | .cleanIntervalEnd w page => Sys2Proof.Machine.execCleanIntervalEnd w page s
  | .pstReport port up epoch => Sys2Proof.Machine.execPstReport port up epoch s
  | .rewriteHoldTimeout r => Sys2Proof.Machine.execRewriteHoldTimeout r s
  | .calibrationPeriod fMeas temps vcore => Sys2Proof.Machine.execCalibrationPeriod fMeas temps vcore s
  | .tickPhaseTrim err => Sys2Proof.Machine.execTickPhaseTrim err s
  | .wearIntervalEnd => Sys2Proof.Machine.execWearIntervalEnd s
  | .wearStepStart => Sys2Proof.Machine.execWearStepStart s
  | .mirrorFeedRecord session feed => Sys2Proof.Machine.execMirrorFeedRecord session feed s
  | .telemetryRdWrite data strb => Sys2Proof.Machine.execTelemetryRdWrite data strb s
  | .faultMessage det => Sys2Proof.Machine.execFaultMessage det s
  | .fltForceSafe => Sys2Proof.Machine.execFltForceSafe s
  | .selfCheckTrip source context => Sys2Proof.Machine.execSelfCheckTrip source context s
  | .safeAbsorbEnd => Sys2Proof.Machine.execSafeAbsorbEnd s
  | .fltMsgTransfer => Sys2Proof.Machine.execFltMsgTransfer s
  | .sbxForce k data strb => Sys2Proof.Machine.execSbxForce k data strb s
  | .sbxTestkey data strb => Sys2Proof.Machine.execSbxTestkey data strb s
  | .testkeyExpiry => Sys2Proof.Machine.execTestkeyExpiry s
  | .sbxInj data strb => Sys2Proof.Machine.execSbxInj data strb s
  | .firstValidClear => Sys2Proof.Machine.execFirstValidClear s
  | .sbxSevWrite k data strb => Sys2Proof.Machine.execSbxSevWrite k data strb s
  | .warmReset => Sys2Proof.Machine.execWarmReset s
  | .rstWarmNFall => Sys2Proof.Machine.execRstWarmNFall s
  | .tapEvent seen clocked => Sys2Proof.Machine.execTapEvent seen clocked s
  | .tapDrain mismatch => Sys2Proof.Machine.execTapDrain mismatch s
  | .intervalEnd => Sys2Proof.Machine.execIntervalEnd s
  | .recordReady snap => Sys2Proof.Machine.execRecordReady snap s
  | .wbgSnap => Sys2Proof.Machine.execWbgSnap s
  | .wbgRecack => Sys2Proof.Machine.execWbgRecack s
  | .wbgSealctl data strb => Sys2Proof.Machine.execWbgSealctl data strb s
  | .wbgConfigWrite interval data strb => Sys2Proof.Machine.execWbgConfigWrite interval data strb s
  | .keyTransfer bytes => Sys2Proof.Machine.execKeyTransfer bytes s
  | .keyTransferGap => Sys2Proof.Machine.execKeyTransferGap s
  | .keyArrivalTimeout => Sys2Proof.Machine.execKeyArrivalTimeout s
  | .vltCalibration khz => Sys2Proof.Machine.execVltCalibration khz s
  | .presence frame => Sys2Proof.Machine.execPresence frame s
  | .presenceSend => Sys2Proof.Machine.execPresenceSend s
  | .presenceExpiry n => Sys2Proof.Machine.execPresenceExpiry n s
  | .tickFrame frame arrival => Sys2Proof.Machine.execTickFrame frame arrival s
  | .forwardDoorbell frame => Sys2Proof.Machine.execForwardDoorbell frame s
  | .returnDoorbell frame => Sys2Proof.Machine.execReturnDoorbell frame s
  | .peerEvent frame => Sys2Proof.Machine.execPeerEvent frame s
  | .frameDiscard frame => Sys2Proof.Machine.execFrameDiscard frame s
  | .stnEvsend num => Sys2Proof.Machine.execStnEvsend num s
  | .peerLinkBroken => Sys2Proof.Machine.execPeerLinkBroken s
  | .forwardTimeLimit w seq => Sys2Proof.Machine.execForwardTimeLimit w seq s
  | .forwardSlotQuarantineEnd w seq => Sys2Proof.Machine.execForwardSlotQuarantineEnd w seq s
  | .powerAck d retained => Sys2Proof.Machine.execPowerAck d retained s
  | .powerDeny d => Sys2Proof.Machine.execPowerDeny d s
  | .powerRequestTimeout d => Sys2Proof.Machine.execPowerRequestTimeout d s
  | .moverIdle m => Sys2Proof.Machine.execMoverIdle m s
  | .quadrantIdle q => Sys2Proof.Machine.execQuadrantIdle q s
  | .coldReset => Sys2Proof.Machine.execColdReset s
  | .coldResetRelease stnId => Sys2Proof.Machine.execColdResetRelease stnId s
  | .dftTestMode high => Sys2Proof.Machine.execDftTestMode high s
  | .dftMbistGo => Sys2Proof.Machine.execDftMbistGo s
  | .mbistDone failed => Sys2Proof.Machine.execMbistDone failed s
  | .stagingClearDone => Sys2Proof.Machine.execStagingClearDone s
  | .supplyFault source => Sys2Proof.Machine.execSupplyFault source s
  | .aonPowerLoss => Sys2Proof.Machine.execAonPowerLoss s
  | .clockMonitorWindow dom khz => Sys2Proof.Machine.execClockMonitorWindow dom khz s
  | .clockAbsent dom => Sys2Proof.Machine.execClockAbsent dom s
  | .conjunctionDeadline w => Sys2Proof.Machine.execConjunctionDeadline w s
  | .fltForceSafeFall => Sys2Proof.Machine.execFltForceSafeFall s
  | .offRequestRetry => Sys2Proof.Machine.execOffRequestRetry s
  | .mbistWaitEnd => Sys2Proof.Machine.execMbistWaitEnd s
  | .aonPowerOnRelease misordered => Sys2Proof.Machine.execAonPowerOnRelease misordered s
  | .timeNsJump timeNs => Sys2Proof.Machine.execTimeNsJump timeNs s
  | .notifyRelay frame => Sys2Proof.Machine.execNotifyRelay frame s
  | .peerFrameSend => Sys2Proof.Machine.execPeerFrameSend s

end Sys2Proof.Machine
end

