-- ==== Sys2Proof/Safety.lean ====
section
/-! DEFINITION. The terms in which claims about the block are stated: the end of a command, an open register path, a still
machine, a command that is admitted, an entry that is admitted, and the invariant of the high-water marks. -/

namespace Sys2Proof.Safety

open Sys2Proof Sys2Proof.Machine

/-- The outcome of a command. -/
abbrev Result : Type := Host.Outcome State Fault Refusal

/-- The state a command acts on: its ports hold no output of the last command. -/
def bare (s : State) : State := { s with out := [] }

/-- The end of a command whose own effect is t: the marks are sampled (R66). -/
abbrev ended (s t : State) : Result := .next (s.done t)

/-- The end of a command whose own effect is t and after which something else may go on: waiting commands, wakes,
transitions, the way through SAFE. -/
abbrev ran (s t : State) : Result := .next (s.done (State.follow (bare s) t))

/-- The block is out of reset and in a mode other than SAFE and OFF. -/
abbrev Live (s : State) : Prop := s.held = false ∧ s.mode ≠ .safe ∧ s.mode ≠ .off

/-- Nothing waits for a step: no command and no transition is in progress, no Mover or quadrant holds work, and no Mover
need be woken: one that can take work is on, and the MV_MIN Movers kept on have been asked for (R418). -/
def Still (s : State) : Prop :=
  s.dct.waits = [] ∧ s.pwr.trans = none ∧ s.works = [] ∧
  (s.mode = .factoryTest ∨
   ((s.mode = .configure ∨ s.mode = .quiesce) ∧ (∃ m, m < 64 ∧ s.mvFenced m = false ∧ s.isOn (domMv m) = true) ∧
    ∀ d, d < 64 → maskHas s.moversWanted d = true → maskHas s.pwr.req d = true))

/-- The items of R406 for RUN, in a block that is not parked. -/
def Runnable (s : State) : Prop :=
  s.pwr.parked = 0 ∧ s.tt.running = true ∧ s.maskUp (s.banksWanted ||| domRange 92 6) = true ∧
  (∃ n, n < 8 ∧ s.xaFenced n = false) ∧ (∃ m, m < 64 ∧ s.mvFenced m = false) ∧ s.pwr.failed = 0 ∧
  (∀ khz, Tbl.get 0 s.pwr.clkMeas = some khz →
    97 * s.pwr.coreMhz * 1000 ≤ 100 * khz ∧ 100 * khz ≤ 103 * s.pwr.coreMhz * 1000) ∧
  (∀ n, n < 8 → s.xaFenced n = false → s.xaFreq n ≠ 0 ∧ s.xaFreq n ≤ s.pwr.coreMhz)

/-- Every domain a mode needs has been asked for and is on, and no bank is asked to retain (R416). -/
abbrev Powered (s : State) (r : Nat) : Prop :=
  s.pwr.retReq = 0 ∧ s.maskUp (s.needMask r) = true ∧ ∀ d, d < 98 → maskHas (s.needMask r) d = true → maskHas s.pwr.req d = true

/-- Every high-water mark covers the present value of its quantity (R66). -/
abbrev MarksHold (s : State) : Prop := ∀ i, i < 22 → s.hwmVal i ≤ (Tbl.getD i ({} : Hwm) s.tt.hwm).peak

/-! ### Register writes -/

/-- A register write meets a live block whose domain for it is on. -/
abbrev Reached (s : State) (off : Nat) : Prop := Live s ∧ s.regOff off = false

/-- A write to this register passes the gates of R291, R343 and R428: live, its domain on, an Installer or Maker session. -/
abbrev Open (s : State) (off : Nat) : Prop := Reached s off ∧ 2 ≤ s.sessRole 0

/-- The state in which a write to a global page acts: its access holds the session open (R349). -/
def touched (s : State) : State := (bare s).touch .reg

/-- The end of a register write that was accepted with effect t, and of one that was refused. -/
abbrev accepted (s t : State) : Result := ran s (t.answer 0 false)
abbrev errored (s t : State) : Result := ran s (t.answer 0 true)

/-- A mode is requested on the register path: the access, the KIND 6 entry, REQ and the reason cleared (R404, R405). -/
def asked (s : State) (r : Nat) : State :=
  let t := (touched s).journalE 6 0 (s.sessRole 0) 0 0 r (BitVec.ofNat 64 s.pwr.modeReq) (BitVec.ofNat 64 r)
  { t with pwr := { t.pwr with modeReq := r, modeErr := 0 } }

/-- The journal entry of a register write on the register path: KIND 1, the offset, the old word and the new (R350). -/
def noted (s t : State) (off : Nat) (old new : Word) : State := t.journalE 1 0 (s.sessRole 0) 0 0 off old new

/-- What the register at an offset holds after a strobed write (R384). -/
def wrote (s : State) (off : Nat) (data : Word) (strb : BitVec 8) : Word := strobe (s.pageRead off) data strb

/-- SAFE is entered with this cause and source (R285 to R288): nothing waiting, granted or held is left, a transition and
the Peer Link's frames are dropped, the outputs take their Safe values. -/
def entering (s : State) (cause source : Nat) (term : Bool) : State :=
  { s with
    mode := .safe, bursts := [], granted := [], holds := [], pwr := { s.pwr with trans := none },
    stn := { s.stn with relay := [], own := [] },
    sbx := { s.sbx with
      sub := 1, cause := cause, source := source, entered := s.clk, ackUs := 0, lost := false,
      terminal := s.sbx.terminal || term, fltN := false, ack := false } }

/-- The end of a journalled register write: the change and its entry with the old word and the new (R350). -/
abbrev acceptedNoted (s t : State) (off : Nat) (old new : Word) : Result := accepted s (noted s t off old new)

/-! ### Admin commands (R322 to R329) -/

/-- A command is the oldest of an ACTIVE Dispatch Queue and may be admitted now. -/
abbrev Ready (s : State) (c : Cmd) (op : Nat) : Prop :=
  s.held = false ∧ (s.queue c.q).oldest = some c.e ∧ c.e.opc = op ∧ c.e.bad = none ∧ (s.queue c.q).dq = true ∧
  s.isOn domDSP = true ∧ s.pwr.parked ≠ 2 ∧ (s.queue c.q).st = .active ∧ s.admissible c.q c.e = true ∧
  (s.queue c.q).earlierStarted c.e.uid = true ∧ s.cmdRoom c.q = true ∧
  (s.cmdObjs c).any (fun o => s.heldObjs.contains o) = false ∧
  (s.ring (s.queue c.q).ring).claims < (s.ring (s.queue c.q).ring).free

/-- The state in which an admitted command runs: it holds a ring slot and has started (R84, R322). -/
def begun (s : State) (c : Cmd) : State :=
  (((bare s).takeSlot c.q).setEnt c.q c.e.uid (fun e => { e with ph := .admitted })).startEnt c.q c.e.uid

/-- An admitted command passes what every command is checked for: FLAGS, QUIESCE for those that move data, the journal. -/
abbrev Passes (s : State) (c : Cmd) (moves : Bool) : Prop :=
  dqEntryFail (c.e.w 0) = false ∧ (moves = true → (begun s c).quiescing = false) ∧
  (c.journalled = true → (begun s c).jFull = false)

/-- The result slot a command names, which is free, or none. -/
def SlotIs (s : State) (c : Cmd) (sl : Option (Nat × Nat)) : Prop :=
  (c.slot = none ∧ sl = none) ∨
  ∃ i t, c.slot = some i ∧ c.ten = some t ∧ (((begun s c).tenant t).slots.getD i {}).busy = false ∧ sl = some (t, i)

/-- The command's slot becomes Busy (R104). -/
def slotted (b : State) (sl : Option (Nat × Nat)) : State :=
  match sl with
  | some (t, i) => b.slotSet t i { busy := true }
  | none => b

/-- A command that ended with this outcome after effect t; one that waits; one that another unit will end. -/
abbrev cmdEnds (s : State) (c : Cmd) (sl : Option (Nat × Nat)) (t : State) (st info res : Nat) : Result :=
  ended s (((t.cmdJrn c 0).cmdDone c sl (.done st info res)).pumpQ c.q)
abbrev cmdWaits (s : State) (c : Cmd) (t : State) (k : WaitK) : Result :=
  ended s (((t.cmdJrn c 0).addWait
    { q := c.q, uid := c.e.uid, objs := (begun s c).cmdObjs c, k := k }).waitsRun.pumpQ c.q)
abbrev cmdLeaves (s : State) (c : Cmd) (t : State) : Result := ended s ((t.cmdJrn c 0).pumpQ c.q)

/-! ### Data entries (R107 to R116) -/

/-- A data entry is the oldest of a submission queue and may be admitted now. -/
abbrev Due (s : State) (q op : Nat) (e : Ent) : Prop :=
  s.held = false ∧ (s.queue q).oldest = some e ∧ e.opc = op ∧ e.bad = none ∧ (s.queue q).dq = false ∧
  s.admissible q e = true ∧ entryFail (e.w 0) (e.w 1) = false

/-- A range of an entry and its translation (R116): one window of the tenant covers it whole, with its rights, coherent
where the entry asks for it, at this Station, on a port that is UP. -/
def Placed (s : State) (t : Nat) (coh : Bool) (c : Chk) (x : Chk × Rng × Nat) : Prop :=
  ∃ k w, findWin s.wins t c.a c.len = some (k, w) ∧ (c.rd = true → w.rd = true) ∧ (c.wr = true → w.wr = true) ∧
    (coh = true → w.mem = true) ∧ w.station = s.stn.id ∧ s.portUp (some w.port) = true ∧
    x = (c, { fa := addOff c.a w.offset, len := c.len, ta := c.a, win := k, port := some w.port, code := c.code }, w.station)

/-- A Mover can take a work item of a class (R17, R49). -/
abbrev MoverFree (s : State) (cls : Nat) : Prop :=
  ∃ m, m < 64 ∧ s.mvFenced m = false ∧ s.isOn (domMv m) = true ∧ s.moverLoad m < 16 ∧ (cls < 2 ∨ s.moverFE m < 12)

/-- A data entry that is due passes every check of R112 to R116, has something to do, runs at this Station with these
translated ranges, and finds its places: a Mover, buffer units, prefetch space, and for GREDUCE an allocation and a
quadrant. -/
def Runs (s : State) (q op : Nat) (e : Ent) (rs : List (Chk × Rng × Nat)) : Prop :=
  Due s q op e ∧ bodyBad e = false ∧ (op = 10 → reduceBad e = none) ∧ alignBad e = none ∧ rangesBad e = false ∧
  e.isZero = false ∧ List.Forall₂ (Placed s (s.queue q).tenant (fCoh e.hdr)) e.ranges rs ∧ MoverFree s (s.queue q).cls ∧
  s.unitsUsed + (mkJob s q (s.queue q) e rs).unitsFor ≤ 44 ∧ s.idxFits (mkJob s q (s.queue q) e rs) = true ∧
  (op = 10 → s.groups < s.allocMax ∧ s.quadFor.isSome = true ∧ s.allocWaits s.nextId = false)

/-- The entry is admitted: it is a job with these ranges, its bursts are presented, and a Mover is woken where all are
loaded (R418). -/
def admitted (s : State) (q : Nat) (e : Ent) (rs : List (Chk × Rng × Nat)) : State :=
  let b := (bare s).setEnt q e.uid (fun e => { e with ph := .admitted })
  (State.pumpQ { b with jobs := Tbl.put e.uid (mkJob s q (s.queue q) e rs) b.jobs } q).wakeMover

/-- An entry that starts at once may be admitted now: NOP, LINK, FENCE, WAIT_EVENT (R84). -/
abbrev DuePlain (s : State) (q op : Nat) (e : Ent) : Prop :=
  s.held = false ∧ (s.queue q).oldest = some e ∧ e.opc = op ∧ e.bad = none ∧ s.admissible q e = true ∧
  (s.queue q).earlierStarted e.uid = true ∧ (s.queue q).st ≠ .stopping ∧ s.mayStartNow q = true ∧
  (if (s.queue q).dq then dqEntryFail (e.w 0) else entryFail (e.w 0) (e.w 1)) = false ∧ bodyBad e = false

/-- The state in which the entry is admitted. -/
def took (s : State) (q uid : Nat) : State :=
  ((bare s).takeSlot q).setEnt q uid (fun e => { e with ph := .admitted })

end Sys2Proof.Safety
end

