-- ==== Sys2Proof/Certificates/Slice0/Obligations.lean ====
section
/-! DEFINITION. The statements offered to the provers. -/

open Sys2Proof Sys2Proof.Machine

/-! ### The step -/

/-- O1. A step takes the command at the front of the queue and answers what exec answers on the rest. -/
def Obligations.StepRunsFrontCommand : Prop :=
  ∀ (c : Instr) (rest : List Instr) (s : State), s.pending = c :: rest →
    Sys2Proof.Machine.step s = Sys2Proof.Machine.exec c { s with pending := rest }

/-- O2. With no command waiting, one TIM cycle passes: time moves on, and nothing is taken from the queue (log entry
3). -/
def Obligations.IdleStepPassesOneTimCycle : Prop :=
  ∀ s : State, s.pending = [] →
    ∃ t, Sys2Proof.Machine.step s = .next t ∧ t.pending = [] ∧
      (s.held = true → t = ({ s with out := [] } : State).advance Config.timCyclePs)

/-- O3. No command touches the queue of waiting commands, and every command answers a next state. -/
def Obligations.CommandsLeaveTheQueue : Prop :=
  ∀ (c : Instr) (s : State), ∃ t, Sys2Proof.Machine.exec c s = .next t ∧ t.pending = s.pending

/-- O4. High-water marks (R66): whatever step is taken, every mark that covered its quantity before covers it after.
-/
def Obligations.MarksHoldIsKeptByEveryStep : Prop :=
  ∀ s t : State, Safety.MarksHold s → Sys2Proof.Machine.step s = .next t → Safety.MarksHold t

/-- O5. The marks cover their quantities at reset. -/
def Obligations.MarksHoldAtReset : Prop := Safety.MarksHold State.reset

/-- O6. The end of a command changes only the marks and the messages waiting for the Signal Box: it adds messages of
source 0x082 and nothing else. With it, the statements of the form `exec c s = …` say all that a command changes. -/
def Obligations.SamplingChangesOnlyMarks : Prop :=
  ∀ s : State, ∃ (h : Tbl Hwm) (i : List Msg),
    s.sample = { s with tt := { s.tt with hwm := h }, sbx := { s.sbx with inbox := s.sbx.inbox ++ i } } ∧
    (∀ m ∈ i, m.source = 0x082) ∧ i.length ≤ 22

/-- O7. On a still machine nothing follows a command of itself: with it, the statements whose conclusion is
`Safety.ran` or `Safety.accepted` say all that a command changes. It rests on the choices of log entry 17. -/
def Obligations.StillMachineStaysStill : Prop :=
  ∀ b s : State, Safety.Still s → b.works = [] → State.follow b s = s

/-- O8. A block held in reset, or dark, ignores every command but those of the pins and supplies that hold it, and what the
supply monitors report. It rests on the choices of log entry 6. -/
def Obligations.HeldBlockIgnoresCommands : Prop :=
  ∀ (c : Instr) (s : State), s.held = true →
    Sys2Proof.Machine.exec c s = .next s ∨ c = .coldReset ∨ c = .aonPowerLoss ∨ (∃ id, c = .coldResetRelease id) ∨
    (∃ h, c = .dftTestMode h) ∨ (∃ m, c = .aonPowerOnRelease m) ∨ (∃ k, c = .supplyFault k)

/-! ### Rules of single operations -/

/-- O9. Tick boundaries (R36, R39): the keeper's next boundary is the first of k T + PHASE later than the moment, and
the tick number there is k. -/
def Obligations.NextBoundaryIsTheFirstLater : Prop :=
  ∀ len phase t : Nat,
    let p : Nat := phase * 1000
    t < bndAfter len (p : Int) t ∧ (∃ k : Nat, bndAfter len (p : Int) t = p + k * tickPs len) ∧
    (∀ k : Nat, t < p + k * tickPs len → bndAfter len (p : Int) t ≤ p + k * tickPs len) ∧
    (∀ k : Nat, tickNumIn len (p : Int) (p + k * tickPs len) = k)

/-- O10. FLT_MSG_* queue (R284): 16 entries; an urgent message goes behind the urgent ones and before the others; on a
full queue a message that is not urgent is dropped, and an urgent one takes the place of the newest that is not, or is
dropped where every queued message is urgent. -/
def Obligations.CollectorQueueFavoursUrgent : Prop :=
  ∀ (u r : List Nat) (w : Nat), (∀ x ∈ u, 3 ≤ msgSev x) → (∀ x ∈ r, msgSev x < 3) → (u ++ r).length ≤ 16 →
    (msgSev w < 3 → fltPush (u ++ r) w = if (u ++ r).length < 16 then u ++ r ++ [w] else u ++ r) ∧
    (3 ≤ msgSev w → (u ++ r).length < 16 → fltPush (u ++ r) w = u ++ w :: r) ∧
    (3 ≤ msgSev w → (u ++ r).length = 16 → ∀ (a : Nat) (r' : List Nat), r = r' ++ [a] →
      fltPush (u ++ r) w = u ++ w :: r') ∧
    (3 ≤ msgSev w → u.length = 16 → fltPush (u ++ r) w = u ++ r) ∧
    (fltPush (u ++ r) w).length ≤ 16

/-- O11. Severity fields (R278): what a write of class c stores at a source that is not fixed. -/
def Obligations.SeverityFieldsKeepTheirFloors : Prop :=
  ∀ (src old c : Nat) (maker : Bool), src < 0x17A →
    (4 < c → sevStore src old c maker = none) ∧
    (c = 4 → maker = true → sevStore src old c maker = some 4) ∧
    (c = 4 → maker = false → old ≠ 4 → sevStore src old c maker = none) ∧
    (c < 4 → haltFloor src = true → sevStore src old c maker = some 3) ∧
    (c = 2 → haltFloor src = false → hasUnit src = true → sevStore src old c maker = some 2) ∧
    (c = 2 → haltFloor src = false → hasUnit src = false →
      sevStore src old c maker = some (if src = 0x063 ∨ src = 0x16B ∨ 0x170 ≤ src then 1 else 3)) ∧
    (c < 4 → c ≠ 2 → haltFloor src = false → sevStore src old c maker = some c)

/-- O12. A limiter at a boundary (R59): its tokens grow by the refill of the ended tick, and never pass the depth. -/
def Obligations.LimiterRefillStopsAtTheDepth : Prop :=
  ∀ (l : Limiter) (ticks tPs lenPs : Nat),
    (l.boundary ticks tPs lenPs).tok = min l.depth (l.tok + refillOf l.eTick lenPs)

/-- O13. The on-block journal (R351): 1,024 entries; a full store overwrites its oldest unspilled entry and counts it
as lost. -/
def Obligations.JournalHolds1024Entries : Prop :=
  ∀ (s : State) (kind path role origin result target : Nat) (old new : Word), s.jHeld ≤ 1024 → s.dct.spill.length ≤ 64 →
    let t := s.journalE kind path role origin result target old new
    let e : JEnt := ⟨s.ns, kind, path, role, origin, result, target, old, new⟩
    t.jHeld ≤ 1024 ∧ t.dct.spill = s.dct.spill ∧
    (s.jHeld < 1024 → t.journal = s.journal ++ [e] ∧ t.dct.lost = s.dct.lost) ∧
    (s.jHeld = 1024 → t.journal = s.journal.drop 1 ++ [e] ∧ t.dct.lost = min 65535 (s.dct.lost + 1) ∧ t.jHeld = 1024)

/-- O14. Peer Link frames (R355, R356): a frame carries its fields, and is not discarded. It rests on the choices of
log entry 63. -/
def Obligations.FramesCarryTheirFields : Prop :=
  ∀ type origin dest hops payload : Nat, type ≤ 4 → origin < 16 → dest < 16 → hops < 16 → payload < 2 ^ 40 →
    let f := mkFrame type origin dest hops payload
    fType f = type ∧ fOrigin f = origin ∧ fDest f = dest ∧ fHops f = hops ∧ fld f 16 40 = payload ∧ frameOk f = true

/-- O15. Byte strobes (R384): a write changes only the bytes whose strobe is 1. -/
def Obligations.WritesChangeOnlyStrobedBytes : Prop :=
  ∀ (old data : Word) (strb : BitVec 8) (i : Nat), i < 8 →
    fld (strobe old data strb) (8 * i) 8 = if strb.toNat.testBit i then fld data (8 * i) 8 else fld old (8 * i) 8

/-- O16. GREDUCE is judged before any range is checked (R151): REDUCE_INVALID with its code, RESULT 0, no data burst.
-/
def Obligations.ReduceInvalidIsJudgedFirst : Prop :=
  ∀ (s : State) (q : Fin 8192) (e : Ent), e.opc = 10 → e.bad = none → bodyBad e = false →
    let ends := fun (code : Nat) =>
      (∀ g, judgeEntry s q.val g e = .done 0x1B (code * 256) 0) ∧
      (Safety.Due s q.val 10 e → Sys2Proof.Machine.exec (.greduce q) s = Safety.ended s
        ((State.finish ((Safety.bare s).setEnt q.val e.uid (fun e => { e with ph := .admitted })) q.val e.uid 0x1B (code * 256) 0 0).pumpQ
          q.val))
    let r := (e.w 10).toNat
    let it := bits r 16 4
    let ot := bits r 20 4
    let op := bits r 24 2
    let dim := bits r 0 16
    let types : Bool := if it = 6 then (ot == 6 || ot == 0) && op != 3 else decide (it ≤ 5) && decide (ot ≤ 4)
    (types = false → ends 1) ∧
    (types = true → (dim = 0 ∨ 16384 < dim ∨ (it = 5 ∧ dim % 4 ≠ 0)) → ends 2) ∧
    (types = true → ¬(dim = 0 ∨ 16384 < dim ∨ (it = 5 ∧ dim % 4 ≠ 0)) →
      ((op = 3 ∧ (e.w 6).toNat = 0) ∨ (op ≠ 3 ∧ (e.w 6).toNat ≠ 0)) → ends 3)

/-- O17. The block right after reset, as its registers show it (R36, R278, R402, R427); that the queue is empty is the
model's choice (log entry 7). -/
def Obligations.ResetValuesOfRegisters : Prop :=
  State.reset.mode = .coldInit ∧ State.reset.pending = [] ∧
  State.reset.pageRead 0x00 = 0x48574B4D ∧ State.reset.pageRead 0x08 = 0x10004 ∧ State.reset.pageRead 0x28 = 1 ∧
  State.reset.pageRead 0x10000 = 2 ∧ State.reset.pageRead 0x10010 = 8 ∧ State.reset.pageRead 0x10018 = 0x130 ∧
  State.reset.pageRead 0x10020 = 0x0102040810204080 ∧ State.reset.pageRead 0x10028 = 0x40 ∧
  State.reset.pageRead 0x100 = 0x0000C35000000640 ∧ State.reset.pageRead 0x20100 = 0x2222222222222222 ∧
  State.reset.pageRead 0x201B0 = 0x3310123123333333 ∧ State.reset.pageRead 0x20400 = 90 ∧
  State.reset.pageRead 0x40000 = 0x00000000006900C9 ∧ State.reset.pageRead 0x50000 = 0x0140A064 ∧
  State.reset.pageRead 0x60000 = 0x43 ∧ State.reset.pageRead 0x60030 = 0xFF00000000C8 ∧
  State.reset.pageRead 0x400000 = 0x10002 ∧ State.reset.pageRead 0x400020 = 3600


/-! ### Registers -/

/-- O18. The Maker test range (R429): it reads 0 outside FACTORY_TEST; a write to it is accepted only from a Maker
session in FACTORY_TEST, and any other is discarded with the error response. -/
def Obligations.MakerTestRange : Prop :=
  ∀ (s : State) (addr : BitVec 22) (data : Word) (strb : BitVec 8), s.held = false → 0x1000000 ≤ addr.toNat * 8 →
    (s.mode ≠ .factoryTest → s.regRead (addr.toNat * 8) = 0) ∧
    (s.mode = .factoryTest → s.sessRole 0 = 3 →
      ∃ t, Sys2Proof.Machine.exec (.registerWrite addr data strb false) s = Safety.accepted s t) ∧
    (¬(s.mode = .factoryTest ∧ s.sessRole 0 = 3) →
      Sys2Proof.Machine.exec (.registerWrite addr data strb false) s = Safety.errored s (Safety.bare s))

/-- O19. Register accesses that have no row of their own, and the two answers of the target itself (R102, R291, R384):
a write to GLB_IRQMOD stores HOLDOFF; an access nothing has answered in 3,950 ns is answered with the error response
and data 0; the bypass answers a read of GLB_MODESTAT after 1 µs; an access with WB_SEL = 1 is the same as one at the
WBG page's byte offset 0x040_0000 plus its low 13 word bits (R386; the rows' moments: log entry 12). -/
def Obligations.RegisterAccessesAreAnswered : Prop :=
  ∀ (s : State) (data : Word) (strb : BitVec 8) (wr : Bool) (addr : BitVec 22),
    (Safety.Open s 0x9000 →
      Sys2Proof.Machine.exec (.registerWrite 0x1200 data strb false) s = Safety.accepted s
        ((Safety.touched s).setReg 0x9000 (mkWord [(0, 16, fld (strobe (s.reg 0x9000 0) data strb) 0 16)]))) ∧
    (s.held = false →
      Sys2Proof.Machine.exec (.regAccessTimeout wr addr) s = Safety.ended s (((Safety.bare s).advance 3950000).answer 0 true)) ∧
    (s.held = false →
      Sys2Proof.Machine.exec (.bypassAnswer false 5 data) s =
        Safety.ran s ((((Safety.bare s).advance 1000000).touch .reg).answer s.modestat false)) ∧
    Sys2Proof.Machine.exec (.registerWrite addr data strb true) s =
      Sys2Proof.Machine.exec (.registerWrite (BitVec.ofNat 22 (0x80000 + addr.toNat % 2 ^ 13)) data strb false) s

/-- O20. The register path of the dictionary (R344): a read of GLB_ID's object, a write of IDLE_S by an Installer or
Maker session, and the release of ODW_STATUS. It rests on the choices of log entries 46 and 49. -/
def Obligations.DictionaryRegisterPath : Prop :=
  ∀ (s : State) (v : Nat), Safety.Reached s 0x30010 →
    (s.dspUp = true → fld (s.reg 0x30000 0) 0 16 = 0x1000 → fld (s.reg 0x30000 0) 16 8 = 1 →
      Sys2Proof.Machine.exec .odwRead s = Safety.accepted s
        { Safety.touched s with dct := { (Safety.touched s).dct with
            valid := true, stale := false, result := 0, len := 4, buf := 0x48574B4D, seq := (s.dct.seq + 1) % 65536 } }) ∧
    (s.dspUp = true → 2 ≤ s.sessRole 0 → s.sessRole 0 ≤ 3 → s.jFull = false →
      fld (s.reg 0x30000 0) 0 16 = 0x1010 → fld (s.reg 0x30000 0) 16 8 = 4 → s.dct.buf % 2 ^ 16 = v → 10 ≤ v → v ≤ 3600 →
      Sys2Proof.Machine.exec (.odwWrite 2) s = Safety.accepted s
        (let t : State := { Safety.touched s with dct := { (Safety.touched s).dct with idleS := v } }
         let u := t.journalE 0 0 (s.sessRole 0) 0 0 0x41010 (BitVec.ofNat 64 (s.dct.idleS % 2 ^ 64)) (BitVec.ofNat 64 v)
         { u with dct := { u.dct with valid := true, stale := false, result := 0, len := 2, seq := (s.dct.seq + 1) % 65536 } })) ∧
    Sys2Proof.Machine.exec .odwStatusRelease s = Safety.accepted s
      { Safety.touched s with dct := { (Safety.touched s).dct with valid := false, stale := true, result := 0, len := 0, buf := 0 } }

/-- O21. Doorbells and result slots (R79, R104, R322): a doorbell of a queue in use asks for a scan, that of an unused
index is recorded and raised; a doorbell of an ACTIVE Dispatch Queue asks for a scan and a re-read of its ring; a
write to a Valid result slot frees it. It rests on the choices of log entry 37. -/
def Obligations.DoorbellsAndResultSlots : Prop :=
  ∀ (s : State) (t : Fin 256) (d : Fin 512) (i : Fin 16) (word : Fin 2) (q : Nat),
    (Safety.Reached s (tenOff t.val (0x1000 + 8 * d.val)) → (s.tenant t.val).enabled = true →
      (s.queueAt t.val d.val = some q →
        Sys2Proof.Machine.exec (.doorbell t d) s = Safety.accepted s (((Safety.bare s).scanReq q).pumpQ q)) ∧
      (s.queueAt t.val d.val = none →
        Sys2Proof.Machine.exec (.doorbell t d) s = Safety.accepted s
          (((Safety.bare s).updTenant t.val (fun x => { x with irqBadDb := true })).raise0 0x063 t.val))) ∧
    (Safety.Open s 0x50 → s.dqState 0x2000 = 1 →
      Sys2Proof.Machine.exec (.dqDoorbell .installer) s = Safety.accepted s
        ((((Safety.touched s).reread (s.queue 0x2000).ring).scanReq 0x2000).pumpQ 0x2000)) ∧
    (Safety.Reached s (tenOff t.val 0x20) → (s.tenant t.val).enabled = true → s.dqState (0x2100 + t.val) = 1 →
      Sys2Proof.Machine.exec (.dqDoorbell (.tenant t)) s = Safety.accepted s
        ((((Safety.bare s).reread (s.queue (0x2100 + t.val)).ring).scanReq (0x2100 + t.val)).pumpQ (0x2100 + t.val))) ∧
    (Safety.Reached s (tenOff t.val (0x100 + 16 * i.val + 8 * word.val)) → (s.tenant t.val).enabled = true →
      ((s.tenant t.val).slots.getD i.val {}).valid = true →
      Sys2Proof.Machine.exec (.resultSlotRelease t i word) s = Safety.accepted s ((Safety.bare s).slotSet t.val i.val {}))

/-- O22. Scan requests (R81): one that arrives while a scan is running sets rescan-pending, and a scan that stops on
OWN = 0 with rescan-pending clears it and reads the header at the scan pointer again. It rests on the choices of log
entry 2. -/
def Obligations.RescanPending : Prop :=
  ∀ (s : State) (q n : Nat), (s.queue q).st = .active ∨ (s.queue q).st = .backed → s.scanMode (s.queue q) = true →
    (s.queue q).scanning = true →
    s.scanReq q = s.updQueue q (fun g => { g with rescan := true }) ∧
    ((s.queue q).rescan = true →
      s.scanStop q = s.updQueue q (fun g => { g with rescan := false, line := none }) ∧
      ((s.queue q).reading = false → (s.queue q).ents = [] → Tbl.has q s.queues = true →
        (s.scanStop q).scanRun q (n + 1) =
          ((s.scanStop q).updQueue q (fun g => { g with reading := true, scanId := s.nextId })).ctl q true
            [{ line := (s.queue q).unitAddr (s.queue q).sp / 64, key := 0 }] ⟨.scan, q, s.nextId⟩ (s.queue q).port (s.queue q).coh))

/-- O23. The arm bit of a ring (R100): a write with ARM = 1 records the read index and sets it; where the write index
then differs a message is due at once, whatever the completions; a write with ARM = 0 clears it. The ring is read
again where it is full (R97, R235). -/
def Obligations.RingArmBit : Prop :=
  ∀ (s : State) (t c : Fin 256) (rd : BitVec 16) (w : Bool) (r : Nat),
    Safety.Reached s (tenOff t.val (0x800 + 8 * c.val)) → (s.tenant t.val).enabled = true → s.ringAt t.val c.val = some r →
    let u := fun (b : Bool) => ((Safety.bare s).updRing r (fun g => { g with rdIdx := rd.toNat, rdWrap := w, armed := b })).armReread r
    Sys2Proof.Machine.exec (.ringArm t c rd w) s = Safety.accepted s
      (if (s.ring r).wr ≠ rd.toNat ∨ (s.ring r).wrWrap ≠ w then (u true).ringDue r else u true) ∧
    Sys2Proof.Machine.exec (.ringDisarm t c rd w) s = Safety.accepted s (u false) ∧
    (∀ v, ((u true).ring r).vec = some v → (((u true).ringDue r).vec v).due = true)

/-- O24. Registers of the tick keeper, the admission limit and the marks (R39, R52, R66): a write to TTB_TICKCFG is
taken in CONFIGURE with no reservation; one to TTB_ADMIT stores LIMIT; HWM CLEAR sets a peak to the present value. It
rests on the choices of log entry 100. -/
def Obligations.TimetableRegisters : Prop :=
  ∀ (s : State) (data : Word) (strb : BitVec 8),
    let t := Safety.touched s
    (Safety.Open s 0x10000 → s.mode = .configure → s.tt.resv = [] → s.jFull = false →
      let v := Safety.wrote s 0x10000 data strb
      let l := fld v 0 3
      let p := fld v 16 14
      l ≠ 7 → p * 1000 < tickPs l → ¬(l = s.tt.cfgLen ∧ p = s.tt.cfgPhase) →
      Sys2Proof.Machine.exec (.tickConfigWrite data strb) s = Safety.acceptedNoted s
        { t with tt := { t.tt with cfgLen := l, cfgPhase := p },
                 wbg := { t.wbg with ivTick := if l = s.tt.cfgLen then s.wbg.ivTick else true } } 0x10000 (s.pageRead 0x10000) v) ∧
    (Safety.Open s 0x10100 → s.jFull = false →
      let v := Safety.wrote s 0x10100 data strb
      50 ≤ fld v 0 7 → fld v 0 7 ≤ 90 →
      Sys2Proof.Machine.exec (.admitLimitWrite data strb) s = Safety.acceptedNoted s
        { t with tt := { t.tt with limit := fld v 0 7 } } 0x10100 (s.pageRead 0x10100) v) ∧
    (Safety.Open s 0x10308 → s.hwmSel < 22 →
      let h : Hwm := Tbl.getD s.hwmSel {} s.tt.hwm
      let h' : Hwm := { peak := s.hwmVal s.hwmSel, thresh := h.thresh % 2 ^ 24, crossed := h.crossed }
      Sys2Proof.Machine.exec .hwmClear s = Safety.accepted s { t with tt := { t.tt with hwm := Tbl.put s.hwmSel h' s.tt.hwm } })

/-- O25. The registers of the selected limiter (R60, R62 to R64): a legal configuration is stored, with positive
tokens held to the depth and debt kept; ZERO and FILL set the tokens, RESET_ADAPT sets E to RATE. Each is journalled.
It rests on the choices of log entry 19. -/
def Obligations.LimiterRegisters : Prop :=
  ∀ (s : State) (data : Word) (strb : BitVec 8) (i : Nat) (l : Limiter), s.limSel = i → s.limiter i = l → s.jFull = false →
    let t := Safety.touched s
    (Safety.Open s 0x10208 →
      let v := Safety.wrote s 0x10208 data strb
      let c : Word := mkWord [(0, 60, fld v 0 60)]
      limCfgOk c = true →
      ∃ l' : Limiter, Sys2Proof.Machine.exec (.limcfgWrite data strb) s =
          Safety.acceptedNoted s (t.setLimiter i l') 0x10208 (s.pageRead 0x10208) v ∧
        l'.cfg = c ∧ l'.tok = (if l.tok > 0 then min l.tok l'.depth else l.tok) ∧ l'.eTick = l.eTick ∧
        l'.e = (if l'.adapt = true ∧ l.adapt = true then min l.e (l'.rate * 256) else l'.rate * 256)) ∧
    (Safety.Open s 0x10218 →
      (∃ l' : Limiter, Sys2Proof.Machine.exec .limiterZero s = Safety.acceptedNoted s (t.setLimiter i l') 0x10218 0 1 ∧
        l'.tok = 0 ∧ l'.cfg = l.cfg ∧ l'.e = l.e ∧ l'.wheel ≠ none ∧
        l'.zeroAt = (if l.tok > 0 ∧ l.wheel = none then some s.clk else none)) ∧
      Sys2Proof.Machine.exec .limiterFill s =
        Safety.acceptedNoted s (t.setLimiter i { l with tok := l.depth, wheel := none, zeroAt := none }) 0x10218 0 2 ∧
      (∃ l' : Limiter, Sys2Proof.Machine.exec .resetAdapt s = Safety.acceptedNoted s (t.setLimiter i l') 0x10218 0 4 ∧
        l'.e = l.rate * 256 ∧ l'.tok = l.tok ∧ l'.cfg = l.cfg))

/-- O26. Dispatch Queues (R322, R324): an enable of an idle Dispatch Queue reads its 64 B record at ADDR, a tenant's
through the window that covers it; a write that clears EN of an ACTIVE one halts it. It rests on the choices of log
entry 37. -/
def Obligations.DispatchQueueRegisters : Prop :=
  ∀ (s : State) (data : Word) (t : Fin 256) (i : Nat) (w : Window),
    let a := 64 * fld data 6 46
    let put := fun (b : State) (q : Nat) =>
      ((b.setReg (dqReg q) (mkWord [(6, 46, fld data 6 46)])).dqMake q).updQueue q (fun g => { g with addrNew := true })
    let q := 0x2100 + t.val
    (Safety.Open s 0x48 → (s.dqState 0x2000 = 0 ∨ s.dqState 0x2000 = 3) → s.dqEnabling 0x2000 = false → fbit data 0 = true →
      Sys2Proof.Machine.exec (.dqEnable .installer data 0xFF) s = Safety.accepted s
        (((put (Safety.touched s) 0x2000).dqMake 0x2000).ctl 0x2000 true (rdLines a 64 0) ⟨.dqRec, 0x2000, 0⟩ none false)) ∧
    (Safety.Open s 0x48 → s.dqState 0x2000 = 1 →
      Sys2Proof.Machine.exec (.dqStop .installer) s = Safety.accepted s ((Safety.touched s).dqHalt 0x2000 false)) ∧
    (Safety.Reached s (tenOff t.val 0x18) → (s.tenant t.val).enabled = true →
      ((s.dqState q = 0 ∨ s.dqState q = 3) → s.dqEnabling q = false → fbit data 0 = true →
        findWin s.wins t.val a 64 = some (i, w) → w.rd = true →
        Sys2Proof.Machine.exec (.dqEnable (.tenant t) data 0xFF) s = Safety.accepted s
          (((put (Safety.bare s) q).dqMake q).ctl q true (rdLines (addOff a w.offset) 64 0) ⟨.dqRec, q, 0⟩ (some w.port) w.mem)) ∧
      (s.dqState q = 1 →
        Sys2Proof.Machine.exec (.dqStop (.tenant t)) s = Safety.accepted s ((Safety.bare s).dqHalt q false)))

/-- O27. Vectors and classes (R278, R431): a write to a vector that nothing names, or that keeps tenant and
assignment, stores TENANT, ASSIGNED and MASK; a write to SBX_SEV<k> whose fields are all permitted stores each
source's class and NOLOG bit; both are journalled. It rests on the choices of log entry 45. -/
def Obligations.VectorAndSeverityWrites : Prop :=
  ∀ (s : State) (data : Word) (strb : BitVec 8) (v : Fin 2048) (k : Fin 24), s.jFull = false →
    let ov := 0x1000 + 16 * v.val
    let wv := Safety.wrote s ov data strb
    let ok := 0x20100 + 8 * k.val
    let old := s.sbx.sev.getD k.val 0
    let maker := s.mode == .factoryTest && s.sessRole 0 == 3
    let r := sevWord k.val old (strobe old data strb) maker
    (Safety.Open s ov → ((fld wv 0 8 = (s.vec v.val).tenant ∧ ((s.vec v.val).assigned = true → fbit wv 8 = true)) ∨ s.vecNamed v.val = false) →
      Sys2Proof.Machine.exec (.glbVecWrite v data strb) s = Safety.acceptedNoted s
        ((Safety.touched s).updVec v.val (fun x => { x with
          tenant := fld wv 0 8, assigned := fbit wv 8, mask := fbit wv 16, at_ := if x.mask && !fbit wv 16 then s.clk else x.at_ }))
        ov (s.pageRead ov) wv) ∧
    (Safety.Open s ok → fbit (s.reg 0x20000 0) 16 = false → r.2 = true →
      let b := (Safety.touched s).keyTouch
      Sys2Proof.Machine.exec (.sbxSevWrite k data strb) s = Safety.acceptedNoted s
        { b with sbx := { b.sbx with sev := setAt k.val r.1 s.sbx.sev } } ok old (strobe old data strb)) ∧
    (∀ i : Nat, i < 16 →
      fbit r.1 (4 * i + 3) = fbit (strobe old data strb) (4 * i + 3) ∧
      fld r.1 (4 * i) 3 = (if 0x17A ≤ 16 * k.val + i then fld old (4 * i) 3
        else (sevStore (16 * k.val + i) (fld old (4 * i) 3) (fld (strobe old data strb) (4 * i) 3) maker).getD (fld old (4 * i) 3)))

/-- O28. Mode requests (R402 to R407): each row of the table of modes, on the register path, with its conditions and its
effect; a request that the table accepts has its effect and a KIND 6 entry on the other paths too; SAFE enters SAFE with
CAUSE 2; the wake from OFF restarts the block in COLD_INIT. It rests on the choices of log entries 52, 54, 56 and 57. -/
def Obligations.ModeRequests : Prop :=
  ∀ (s : State) (p : Path),
    let kinds : List (Nat × (Path → Instr)) :=
      [(0, .glbModeOff), (1, .glbModeColdInit), (2, .glbModeFactoryTest), (3, .glbModeConfigure), (4, .glbModeRun),
       (6, .glbModeQuiesce), (7, .glbModeSafe)]
    (∀ x ∈ kinds,
      (Safety.Live s → s.modeReason x.1 (decide (2 ≤ s.sessRole 0)) (s.sessRole 0 == 3) = 0 →
        (x.1 = 0 ∨ x.1 = 7 ∨ s.jFull = false) →
        Sys2Proof.Machine.exec (x.2 .reg) s = Safety.accepted s
          (((Safety.touched s).journalE 6 0 (s.sessRole 0) 0 0 x.1 (BitVec.ofNat 64 s.pwr.modeReq) (BitVec.ofNat 64 x.1)).modeGo x.1)) ∧
      (s.held = false → s.mode ≠ .off → p ≠ .reg → s.dspUp = true → 2 ≤ s.role p → s.role p ≤ 3 → s.jFull = false →
        s.modeReason x.1 true (s.role p == 3) = 0 →
        Sys2Proof.Machine.exec (x.2 p) s = Safety.ran s
          (((((Safety.bare s).touch p).jrn 6 p 0 x.1 (BitVec.ofNat 64 s.pwr.modeReq) (BitVec.ofNat 64 x.1))).modeGo x.1))) ∧
    (Safety.Live s →
      let t := Safety.asked s 7
      Sys2Proof.Machine.exec (.glbModeSafe .reg) s = Safety.accepted s
        (Safety.entering { t with sbx := { t.sbx with offHeld := false } } 2 0x1FF false) ∧
      (s.mode = .run ∨ s.mode = .degraded →
        let u := Safety.entering (Safety.asked s 0) 2 0x1FF false
        Sys2Proof.Machine.exec (.glbModeOff .reg) s = Safety.accepted s { u with sbx := { u.sbx with offHeld := true } }) ∧
      (s.mode = .coldInit ∨ s.mode = .factoryTest ∨ s.mode = .configure ∨ s.mode = .quiesce → s.pwr.trans = none →
        Sys2Proof.Machine.exec (.glbModeOff .reg) s = Safety.accepted s (Safety.asked s 0).offStart) ∧
      (2 ≤ s.sessRole 0 → s.jFull = false → s.pwr.trans = none →
        (s.mode = .coldInit → s.pwr.init = 5 → s.sessRole 0 = 3 →
          Sys2Proof.Machine.exec (.glbModeFactoryTest .reg) s = Safety.accepted s ((Safety.asked s 2).goTo 2)) ∧
        ((s.mode = .coldInit ∧ s.pwr.init = 5 ∧ s.pwr.mbistFail = false) ∨ s.mode = .quiesce →
          Sys2Proof.Machine.exec (.glbModeConfigure .reg) s = Safety.accepted s ((Safety.asked s 3).goTo 3)) ∧
        (s.mode = .configure ∨ s.mode = .quiesce → Safety.Runnable s →
          Sys2Proof.Machine.exec (.glbModeRun .reg) s = Safety.accepted s ((Safety.asked s 4).goTo 4)) ∧
        (s.mode = .run ∨ s.mode = .degraded →
          Sys2Proof.Machine.exec (.glbModeQuiesce .reg) s = Safety.accepted s (Safety.asked s 6).quiesceStart.transRun) ∧
        (s.mode = .factoryTest → s.sessRole 0 = 3 →
          let u := (Safety.asked s 1).endAll.askOffMask (domRange 0 76 ||| domRange 95 3)
          Sys2Proof.Machine.exec (.glbModeColdInit .reg) s = Safety.accepted s
            { u with mode := .coldInit, bgs := {},
                     cfg := u.cfg.filter (fun p => !(decide (0x40000 ≤ p.1) && decide (p.1 < 0x50000))),
                     pwr := { u.pwr with init := 4, initAt := u.clk } }))) ∧
    (s.held = false → s.mode = .off → s.sbx.terminal = false → s.pwr.supply.getD 0 0 = 0 → s.pwr.supply.getD 1 0 = 0 →
      let t := State.restart { Safety.touched s with pwr := { s.pwr with modeReq := 1, modeErr := 0 } } false
      let u := State.initStart { t with dct := { t.dct with key := t.dct.keyCells, maker := true } }
      Sys2Proof.Machine.exec (.glbModeColdInit .reg) s = Safety.accepted s
        (u.journalE 6 0 (u.sessRole 0) 0 0 1 (BitVec.ofNat 64 s.pwr.modeReq) 1)) ∧
    (∀ r, Safety.Powered s r →
      let t : State := { s with pwr := { s.pwr with trans := none, parked := 0, again := 0 } }
      (r = 2 → s.goTo r = State.resumeAll { t with mode := .factoryTest }) ∧
      (r = 3 → s.goTo r = State.resumeDq { t with mode := .configure }) ∧
      (r = 4 → t.runOk = true → s.goTo r = State.resumeAll
        { t with mode := if t.anyFenced then .degraded else .run, pwr := { t.pwr with recovery := false } }))

/-- O29. Arming the test key (R294): 0x5AFE and then 0xA501, with no other SBX write between, arm it for 1 ms. It
rests on the choices of log entry 4. -/
def Obligations.TestKeyArming : Prop :=
  ∀ (s : State), Safety.Open s 0x20500 →
    let t := Safety.touched s
    (∀ (data : Word), fld data 0 16 = 0x5AFE → s.sbx.key ≠ 2 →
      Sys2Proof.Machine.exec (.sbxTestkey data 0xFF) s = Safety.accepted s { t with sbx := { t.sbx with key := 1 } }) ∧
    (∀ (data : Word), fld data 0 16 = 0xA501 → s.sbx.key = 1 →
      Sys2Proof.Machine.exec (.sbxTestkey data 0xFF) s = Safety.accepted s { t with sbx := { t.sbx with key := 2, keyAt := s.clk } }) ∧
    (∀ (data : Word), fld data 0 16 = 0xA501 → s.sbx.key = 0 →
      Sys2Proof.Machine.exec (.sbxTestkey data 0xFF) s = Safety.accepted s t) ∧
    (∀ (off : Nat) (data : Word) (strb : BitVec 8) (p : Path), s.sbx.key = 1 → off ≠ 0x500 →
      s.sbxPage off data strb p = State.sbxPage { s with sbx := { s.sbx with key := 0 } } off data strb p) ∧
    (s.sbx.key = 2 →
      let u := (Safety.bare s).reach (s.sbx.keyAt + 1000000000)
      Sys2Proof.Machine.exec .testkeyExpiry s = Safety.ended s { u with sbx := { u.sbx with key := 0 } })

/-- O30. Force and injection (R293, R295): a force of one source, of a class below Halting or with the key armed, is
journalled with KIND 4 and reported with kind 0x3F; an injection of kinds 1 to 4 is armed; FIRST_VALID is cleared by
its bit. It rests on the choices of log entry 36. -/
def Obligations.ForceAndInjection : Prop :=
  ∀ (s : State) (k : Fin 6) (i : Nat), i < 64 →
    let b := (Safety.touched s).keyTouch
    let src := 64 * k.val + i
    (Safety.Open s (0x20200 + 8 * k.val) → (s.sevOf src < 3 ∨ s.sbx.key = 2) →
      Sys2Proof.Machine.exec (.sbxForce k (BitVec.ofNat 64 (2 ^ i)) 0xFF) s = Safety.accepted s
        ((b.journalE 4 0 (s.sessRole 0) 0 0 src 0 0).sbxTake { source := src, kind := 0x3F, time := s.ns })) ∧
    (Safety.Open s 0x20508 → s.injWindow = true → s.sbx.key = 2 → ∀ kind unit : Nat, 1 ≤ kind → kind ≤ 4 → unit < 64 →
      let v : Word := mkWord [(0, 4, kind), (4, 6, unit), (25, 1, 1)]
      let inj : Word := mkWord [(0, 25, fld v 0 25), (25, 1, 1), (26, 1, fld s.sbx.inj 26 1)]
      let u : State := { b with sbx := { b.sbx with stuck := none, inj := inj } }
      Sys2Proof.Machine.exec (.sbxInj v 0xFF) s = Safety.accepted s (u.journalE 4 0 (s.sessRole 0) 0 0 (512 + kind) 0 0)) ∧
    (Safety.Open s 0x20008 →
      Sys2Proof.Machine.exec .firstValidClear s = Safety.accepted s
        { b with sbx := { b.sbx with first := none, worst := 0, ovf := false, ovfCount := 0, ovfLast := 0, hi := none } })

/-- O31. The ways into and out of SAFE from outside (R285, R286, R296, R399): the pin enters SAFE with CAUSE 1;
RST_WARM_N does so and asks for the reset, which waits for SETTLED; a warm reset in SETTLED restarts the block in
COLD_INIT with RECOVERY set; at ABSORB what is outstanding is lost. It rests on the choices of log entries 4, 17 and
61. -/
def Obligations.WarmResetAndPins : Prop :=
  ∀ s : State,
    (Safety.Live s →
      let t : State := { Safety.bare s with sbx := { s.sbx with forceSafe := true } }
      Sys2Proof.Machine.exec .fltForceSafe s = Safety.ran s (Safety.entering t 1 0x1FF false) ∧
      (s.sbx.terminal = false → s.pwr.trans = none →
        let u := Safety.entering (Safety.bare s) 1 0x1FF false
        Sys2Proof.Machine.exec .rstWarmNFall s = Safety.ran s
          (State.afterSafe { u with sbx := { u.sbx with warmHeld := true } }))) ∧
    (s.held = false → s.mode = .safe → s.pwr.trans = none → s.sbx.forceSafe = false →
      (s.sbx.sub = 1 → Sys2Proof.Machine.exec .warmReset s = Safety.accepted s
        { Safety.touched s with sbx := { s.sbx with warmHeld := true } }) ∧
      (s.sbx.sub = 2 → s.sbx.offHeld = false → Sys2Proof.Machine.exec .warmReset s = Safety.accepted s
        ((State.restart { Safety.touched s with sbx := { s.sbx with warmHeld := true } } true).initStart))) ∧
    (s.held = false → s.mode = .safe → s.sbx.forceSafe = true → s.sbx.sub = 2 → s.sbx.warmHeld = false → s.sbx.offHeld = false →
      Sys2Proof.Machine.exec .fltForceSafeFall s = Safety.ran s
        { Safety.bare s with sbx := { s.sbx with forceSafe := false } }) ∧
    (s.held = false → s.mode = .safe → s.sbx.sub = 1 →
      let u := (Safety.bare s).reach (s.sbx.entered + fld (s.reg 0x20400 90) 0 7 * 1000000)
      Sys2Proof.Machine.exec .safeAbsorbEnd s = Safety.ran s
        { u with txns := [], sbx := { u.sbx with lost := s.sbx.lost || !s.txns.isEmpty } })

/-- O32. CH_CTL and CH_KICK (R212, R213, R215, R241 to R243): each control of a granted channel has its effect, in the
order PAUSE, ENABLE, STOP; a control that is not changed acts as it stands. It rests on the choices of log entries 87 and
88. -/
def Obligations.ChannelControls : Prop :=
  ∀ (s : State) (c : Fin 512),
    let n := c.val
    let ch := s.chan n
    let b := (Safety.bare s).updChan n (fun x => { x with alg := ch.alg })
    let hold := fun (t : State) => if ch.pause then t.chPause n else t
    let on := fun (t : State) => if ch.enable then t.chEnable n else t
    let fin := fun (t : State) => (if ch.stop then t.chStop n else t).chPump n
    (Safety.Reached s (chOff n 0) → ch.granted = true → ch.alg ≤ 3 →
      Sys2Proof.Machine.exec (.chEnable c) s = Safety.accepted s (fin ((hold b).chEnable n)) ∧
      Sys2Proof.Machine.exec (.chDisable c) s = Safety.accepted s (fin (if ch.enable then (hold b).chDisable n else hold b)) ∧
      Sys2Proof.Machine.exec (.chStop c) s = Safety.accepted s (((on (hold b)).chStop n).chPump n) ∧
      Sys2Proof.Machine.exec (.chPause c) s = Safety.accepted s (fin (on (b.chPause n))) ∧
      Sys2Proof.Machine.exec (.chResume c) s = Safety.accepted s (fin (on (if ch.pause then b.chResume n else b))) ∧
      Sys2Proof.Machine.exec (.chKick c) s = Safety.accepted s (((Safety.bare s).chKick n).chPump n)) ∧
    (ch.st = .active ∨ ch.st = .parked →
      s.chStop n = (s.updChan n (fun x => { x with st := .stopping, stop := true })).chPump n) ∧
    (ch.st = .pausing ∨ ch.st = .paused → s.chStop n = s.updChan n (fun x => { x with stop := true, back := .stopping })) ∧
    (ch.st = .disabled → ch.enable = false → s.chStarted n = 0 → s.chEnableOk n ch = true →
      s.chEnable n = ((s.updChan n (fun x => { x with enable := true })).updChan n (fun x => { x with
        st := if ch.pause then .paused else .active, back := .active, fp := fld (x.a 2) 0 16 % x.n, fw := fbit (x.a 2) 16,
        fstop := false, quiesced := false })).chPump n) ∧
    (ch.st = .disabled → ch.enable = false → s.chStarted n = 0 → s.chEnableOk n ch = false →
      s.chEnable n = State.raise0 ((s.updChan n (fun x => { x with enable := true })).updChan n
        (fun x => { x with enable := false, cfgErr := true })) 0x0E2 n) ∧
    (ch.st = .parked → s.chKick n = State.chKicked (s.updChan n (fun x => { x with kick := true })) n) ∧
    (ch.st = .stopped → s.chKick n = State.chPump ((s.updChan n (fun x => { x with kick := true })).updChan n
      (fun x => { x with st := if ch.pause then .paused else .active, back := .active, fstop := false, quiesced := false })) n)

/-- O33. Shadow registers and hand-over (R216, R217): a legal write to a shadow is stored and marked pending;
CH_SHCOMMIT arms and disarms; at the boundary the pending values take effect together, and a pending event setting
alone moves no pointer. -/
def Obligations.ChannelShadows : Prop :=
  ∀ (s : State) (c : Fin 512) (r : ShadowReg) (i : Nat) (data : Word) (strb : BitVec 8) (tick : Bool),
    let n := c.val
    let ch := s.chan n
    let v := strobe (ch.sh.getD i 0) data strb
    (ch.granted = true →
      (Safety.Reached s (chOff n (shadowOff r)) → [ShadowReg.ringbase, .ringcfg, .ptr, .reqcfg, .evtcfg][i]? = some r →
        chLegal i (if ch.pend.testBit 1 then 2 ^ fld (ch.sh.getD 1 0) 0 5 else ch.n) v = true →
        Sys2Proof.Machine.exec (.chShadowWrite c r data strb) s = Safety.accepted s
          (((Safety.bare s).updChan n (fun x => { x with sh := setAt i (chStore i v) x.sh, pend := x.pend ||| 2 ^ i })).chPump n)) ∧
      (Safety.Reached s (chOff n 0x180) →
        Sys2Proof.Machine.exec (.chShcommitArm c tick) s = Safety.accepted s
          (((Safety.bare s).updChan n (fun x => { x with arm := if tick then 2 else 1, armDue := false })).chPump n) ∧
        Sys2Proof.Machine.exec (.chShcommitDisarm c) s = Safety.accepted s
          (((Safety.bare s).updChan n (fun x => { x with arm := 0, armDue := false })).chPump n))) ∧
    (Safety.Live s → (ch.arm = 1 ∧ ch.atBoundary = true) ∨ (ch.arm = 2 ∧ ch.armDue = true) →
      Sys2Proof.Machine.exec (.handover c) s = Safety.ran s ((Safety.bare s).chHandover n) ∧
      (ch.pend = 16 →
        let t : State := s.updChan n (fun x => { x with
          act := [ch.act.getD 0 0, ch.act.getD 1 0, ptrWord ch.ptr, ch.act.getD 3 0, ch.sh.getD 4 0], pend := 0, arm := 0,
          armDue := false, hcount := (x.hcount + 1) % 65536, htick := s.tt.tickNum % 2 ^ 32 })
        t.chEnableOk n (t.chan n) = true → s.chHandover n = t.chPump n))

/-- O34. Telemetry (R268, R269): a legal read index of the selected ring is stored; a feed record goes to the ring
that takes its session, and is dropped and counted where none does or where staging is full. -/
def Obligations.TelemetryAndFeed : Prop :=
  ∀ (s : State) (data : Word) (strb : BitVec 8) (session : BitVec 8) (feed : BitVec 384),
    let g := fld (s.reg 0x40600 0) 0 3
    let v := Safety.wrote s 0x40610 data strb
    let takes := fun (p : Nat × Tel) =>
      p.2.active && p.2.stopCmd.isNone && p.2.feed && decide (p.2.lo ≤ session.toNat ∧ session.toNat ≤ p.2.hi)
    (Safety.Open s 0x40610 → fld v 0 20 < 2 ^ (s.tel g).log2n →
      Sys2Proof.Machine.exec (.telemetryRdWrite data strb) s = Safety.accepted s
        (((Safety.touched s).updTel g (fun t => { t with rd := fld v 0 20, rdWrap := fbit v 20 })).telPump g)) ∧
    (Safety.Live s → s.isOn domBGS = true → s.dataNow = true → s.mode ≠ .quiesce →
      let dropped : State := { Safety.bare s with bgs := { s.bgs with unmatched := min (2 ^ 32 - 1) (s.bgs.unmatched + 1) } }
      (∀ k t, s.bgs.tel.find? takes = some (k, t) →
        (s.staged < 1024 → Sys2Proof.Machine.exec (.mirrorFeedRecord session feed) s = Safety.ran s
          (((Safety.bare s).updTel k (fun t => { t with staged := t.staged ++ [(s.ns, 1, feed.toNat)] })).telPump k)) ∧
        (1024 ≤ s.staged →
          Sys2Proof.Machine.exec (.mirrorFeedRecord session feed) s = Safety.ran s (dropped.raise0 0x128 0xFF))) ∧
      (s.bgs.tel.find? takes = none →
        Sys2Proof.Machine.exec (.mirrorFeedRecord session feed) s = Safety.ran s dropped))

/-- O35. The Weighbridge's registers answer in every mode (R291, R310, R313, R315): a snapshot, an acknowledgement;
with the Weighbridge UNSEALED and a Maker session in FACTORY_TEST, the constants and the two sealing codes; SEALED or
BROKEN, a write to the constants or to WBG_SEALCTL is a tamper, counted, reported as source 0x170, journalled, and
answered with the error response. It rests on the choices of log entry 62. -/
def Obligations.WeighbridgeRegisters : Prop :=
  ∀ (s : State), s.held = false →
    let b : State := { Safety.bare s with wbg := { s.wbg with sealing := false } }
    let maker : Prop := s.mode = .factoryTest ∧ s.sessRole 0 = 3
    (¬(s.wbg.snap.rec_.isSome = true ∧ s.wbg.snap.ready = false) → s.wbg.st ≠ 2 →
      Sys2Proof.Machine.exec .wbgSnap s = Safety.accepted s
        { b with wbg := { b.wbg with snap := { rec_ := some (b.wrec 2), ready := false } } }) ∧
    Sys2Proof.Machine.exec .wbgRecack s = Safety.accepted s
      { b with wbg := { b.wbg with iv := { s.wbg.iv with acked := s.wbg.iv.rec_.isSome } } } ∧
    (s.wbg.st = 0 → maker →
      (∀ data : Word, fld data 0 16 = 0x5EA1 →
        Sys2Proof.Machine.exec (.wbgSealctl data 0xFF) s = Safety.accepted s
          { Safety.bare s with wbg := { s.wbg with sealing := true } }) ∧
      (∀ (data : Word) (k : Nat), fld data 0 16 = 0x0D1E → s.wbg.sealing = true → s.wbg.key = some k →
        Sys2Proof.Machine.exec (.wbgSealctl data 0xFF) s = Safety.accepted s
          (State.chainStart { b with wbg := { b.wbg with st := 1, cells := some (s.wbg.ovh, s.wbg.secs, kcvOf k) } })) ∧
      (∀ data : Word, 1 ≤ fld data 0 17 → fld data 0 17 ≤ 86400 →
        Sys2Proof.Machine.exec (.wbgConfigWrite true data 0xFF) s = Safety.accepted s
          { b with wbg := { b.wbg with secs := fld data 0 17 } }) ∧
      (∀ data : Word,
        Sys2Proof.Machine.exec (.wbgConfigWrite false data 0xFF) s = Safety.accepted s
          { b with wbg := { b.wbg with ovh := fld data 0 8 } })) ∧
    (s.wbg.st = 0 → ¬maker → ∀ (data : Word) (strb : BitVec 8),
      Sys2Proof.Machine.exec (.wbgSealctl data strb) s = Safety.errored s b) ∧
    (s.wbg.st ≠ 0 → ∀ (data : Word) (strb : BitVec 8),
      let tamper := fun (t : State) (kind : Nat) =>
        State.journalE { t with wbg := { t.wbg with tamper := min (2 ^ 32 - 1) (s.wbg.tamper + 1), lastKind := kind },
                                sbx := { t.sbx with inbox := t.sbx.inbox ++ [⟨0x170, kind, 0, 0, s.ns⟩] } }
          5 0 (s.sessRole 0) 0 9 kind 0 0
      Sys2Proof.Machine.exec (.wbgConfigWrite false data strb) s = Safety.errored s (tamper b 1) ∧
      Sys2Proof.Machine.exec (.wbgConfigWrite true data strb) s = Safety.errored s (tamper b 2) ∧
      Sys2Proof.Machine.exec (.wbgSealctl data strb) s = Safety.errored s (tamper (Safety.bare s) 3))

/-- O36. What a Station sends (R356 to R358, R369): STN_EVSEND and a presence frame join the frames that wait; a frame
slot carries the TICK frame of the boundary, else the oldest relayed frame, else the oldest of the Station's own, else
an idle frame. It rests on the choices of log entries 2, 4 and 97. -/
def Obligations.PeerSends : Prop :=
  ∀ (s : State) (num : BitVec 8),
    let b := Safety.bare s
    let t := Safety.touched s
    (Safety.Open s 0x60038 → s.peerOpen = true → s.isOn domDSP = true →
      Sys2Proof.Machine.exec (.stnEvsend num) s = Safety.accepted s
        { t with stn := { t.stn with own := s.stn.own ++ [mkFrame 4 s.stn.id 0 0 num.toNat] } }) ∧
    (s.held = false → s.peerOpen = true →
      Sys2Proof.Machine.exec .presenceSend s = Safety.ended s
        { b with stn := { s.stn with own := s.stn.own ++ [presenceFrame s] } }) ∧
    (s.held = false → s.mode ≠ .off → s.linkEn = false →
      Sys2Proof.Machine.exec .peerFrameSend s = Safety.ran s { b with out := [.peer (mkFrame 0 s.stn.id 0 0 0)] }) ∧
    (Safety.Live s → s.linkEn = true → ∀ bnd, s.stn.tick = some bnd →
      let good := (s.stn.id = 0 ∨ s.stn.aligned = true) ∧ s.sbx.fpeer = false ∧ (s.stn.holdover = true → s.stn.id = 0)
      Sys2Proof.Machine.exec .peerFrameSend s = Safety.ran s
        { b with stn := { s.stn with tick := none },
                 out := [.peer (mkFrame 2 s.stn.id 0 0 ((s.tt.time - bnd) / 10 % 2 ^ 14 + b2n (decide good) * 2 ^ 14 +
                   s.tt.tickNum % 65536 * 2 ^ 16))] }) ∧
    (Safety.Live s → s.linkEn = true → s.stn.tick = none →
      (∀ f rest, s.stn.relay = f :: rest →
        Sys2Proof.Machine.exec .peerFrameSend s = Safety.ran s
          { b with stn := { s.stn with relay := rest }, out := [.peer f] }) ∧
      (∀ f rest, s.stn.relay = [] → s.sbx.fpeer = false → s.stn.own = f :: rest →
        (fType f ≠ 4 → Sys2Proof.Machine.exec .peerFrameSend s = Safety.ran s
          { b with stn := { s.stn with own := rest }, out := [.peer f] }) ∧
        (fType f = 4 → Sys2Proof.Machine.exec .peerFrameSend s = Safety.ran s
          (State.waitEvents { b with stn := { s.stn with own := rest }, out := [.peer f] } 1 (fld f 16 8) s.stn.id))) ∧
      (s.stn.relay = [] → s.stn.own = [] →
        Sys2Proof.Machine.exec .peerFrameSend s = Safety.ran s { b with out := [.peer (mkFrame 0 s.stn.id 0 0 0)] }))

/-! ### Entries and admin commands -/

/-- O37. Data entries (R14, R84, R107 to R116): an entry of each opcode that is due, passes its checks and has a place
becomes a job, and its bursts are presented; one whose outcome its checks decide ends with it; one of LENGTH 0 that
passes them ends OK with RESULT 0 and makes no window check. The checks and places are spelled out for each opcode. It
rests on the choices of log entries 2 and 79. -/
def Obligations.DataAdmission : Prop :=
  (∀ (s : State) (q : Fin 8192) (e : Ent),
    let ops : List (Nat × (Fin 8192 → Instr)) :=
      [(1, .copy), (2, .fill), (3, .zero), (4, .compare), (5, .check), (6, .mcopy), (8, .gather), (9, .scatter), (10, .greduce)]
    ∀ x ∈ ops, Safety.Due s q.val x.1 e →
      (∀ j, judgeEntry s q.val (s.queue q.val) e = .run j → s.hasPlace j = true →
        let b := (Safety.bare s).setEnt q.val e.uid (fun e => { e with ph := .admitted })
        let u := (State.pumpQ { b with jobs := Tbl.put e.uid j b.jobs } q.val).wakeMover
        Sys2Proof.Machine.exec (x.2 q) s = Safety.ended s (if x.1 = 10 then u.wakeQuad false else u)) ∧
      (∀ st info res, judgeEntry s q.val (s.queue q.val) e = .done st info res →
        Sys2Proof.Machine.exec (x.2 q) s = Safety.ended s
          ((State.finish ((Safety.bare s).setEnt q.val e.uid (fun e => { e with ph := .admitted })) q.val e.uid st info res 0).pumpQ q.val))) ∧
  (∀ (s : State) (q : Fin 8192) (e : Ent) (rs : List (Chk × Rng × Nat)),
    let runs := fun (op : Nat) => Safety.Runs s q.val op e rs
    let u := Safety.admitted s q.val e rs
    (runs 1 → Sys2Proof.Machine.exec (.copy q) s = Safety.ended s u) ∧
    (runs 2 → Sys2Proof.Machine.exec (.fill q) s = Safety.ended s u) ∧
    (runs 3 → Sys2Proof.Machine.exec (.zero q) s = Safety.ended s u) ∧
    (runs 4 → Sys2Proof.Machine.exec (.compare q) s = Safety.ended s u) ∧
    (runs 5 → Sys2Proof.Machine.exec (.check q) s = Safety.ended s u) ∧
    (runs 6 → Sys2Proof.Machine.exec (.mcopy q) s = Safety.ended s u) ∧
    (runs 8 → Sys2Proof.Machine.exec (.gather q) s = Safety.ended s u) ∧
    (runs 9 → Sys2Proof.Machine.exec (.scatter q) s = Safety.ended s u) ∧
    (runs 10 → Sys2Proof.Machine.exec (.greduce q) s = Safety.ended s (u.wakeQuad false))) ∧
  (∀ (s : State) (q : Nat) (g : Queue) (e : Ent), e.bad = none → bodyBad e = false → 1 ≤ e.opc → e.opc ≤ 6 → alignBad e = none →
    e.length = 0 → judgeEntry s q g e = .done 0 (b2n (fCsum e.hdr)) 0)

/-- O38. Entries that start at their admission (R127 to R131): NOP and LINK end with their results, FENCE starts and
keeps where its store goes, WAIT_EVENT starts and holds the queue; its TIMEOUT completes it with STATUS 0x19. It rests
on the choices of log entries 4, 23 and 24. -/
def Obligations.PlainAdmission : Prop :=
  (∀ (s : State) (q : Fin 8704) (e : Ent),
    let b := Safety.took s q.val e.uid
    (Safety.DuePlain s q.val 0x11 e →
      Sys2Proof.Machine.exec (.nop q) s = Safety.ended s ((b.finish q.val e.uid 0 0 0 0).pumpQ q.val)) ∧
    (Safety.DuePlain s q.val 0x12 e →
      Sys2Proof.Machine.exec (.link q) s = Safety.ended s
        ((b.finish q.val e.uid 0 0 (BitVec.ofNat 64 (fld (e.w 2) 0 20)) 0).pumpQ q.val)) ∧
    (Safety.DuePlain s q.val 0x10 e →
      let start := fun (p : Nat × Option Nat) =>
        Safety.ended s ((State.startEnt (b.setEnt q.val e.uid (fun (x : Ent) => { x with stAt := p })) q.val e.uid).pumpQ q.val)
      (e.aux = 0 ∨ ((b.queue q.val).dq = true ∧ (b.queue q.val).tdq = false) →
        Sys2Proof.Machine.exec (.fence q) s = start (e.aux, none)) ∧
      (∀ i w, e.aux ≠ 0 → ((b.queue q.val).dq = true → (b.queue q.val).tdq = true) →
        findWin s.wins (b.queue q.val).tenant e.aux 8 = some (i, w) → w.wr = true → w.station = s.stn.id →
        ((b.queue q.val).dq = true ∨ s.portUp (some w.port) = true) →
        Sys2Proof.Machine.exec (.fence q) s = start (addOff e.aux w.offset, some w.port)))) ∧
  (∀ (s : State) (q : Fin 8192) (e : Ent),
    (Safety.DuePlain s q.val 0x14 e →
      let w := e.w 2
      Sys2Proof.Machine.exec (.waitEvent q) s = Safety.ended s
        ((((Safety.took s q.val e.uid).startEnt q.val e.uid).updQueue q.val (fun g => { g with
          wait := some (e.uid, fld w 0 2, fld w 8 8, fld w 16 4, s.tt.ticks, fld w 32 32) })).pumpQ q.val)) ∧
    (∀ u k n st t0 t, s.held = false → (s.queue q.val).wait = some (u, k, n, st, t0, t) → t ≠ 0 → t0 + t ≤ s.tt.ticks →
      Sys2Proof.Machine.exec (.waitEventTimeout q) s = Safety.ended s
        ((((Safety.bare s).updQueue q.val (fun g => { g with wait := none })).finish q.val u 0x19 0 0 0).pumpQ q.val)))

/-- O39. SQ_CREATE and CR_CREATE (R72, R331, R332): a legal creation from Dispatch Queue 0, or within the tenant's
bounds from its own, makes the queue or ring and returns its number; a queue's Head Word is written. It rests on the
choices of log entries 38 and 44. -/
def Obligations.CreateCommands : Prop :=
  ∀ (s : State) (d : DqRef) (e : Ent),
    let c : Cmd := ⟨d, e⟩
    let b := Safety.begun s c
    Safety.Passes s c false →
    (Safety.Ready s c 0x80 → ∀ (cls prio xset lim : Nat) (limEn : Bool) (ring fa fh : Nat) (port hport : Option Nat) (mem m : Bool) (q : Nat),
      let w := c.w 2
      let base := (c.w 0).toNat
      let head := (c.w 1).toNat
      let rd := fld (c.w 4) 0 32
      let wr := fld (c.w 4) 32 32
      let len := 16 * 2 ^ fld w 40 5
      let t := c.ten.getD (fld w 48 8)
      let x := b.tenant t
      let r := mkResv rd wr xset
      cmdSched (c.w 3) = some (cls, prio, xset, lim, limEn) →
      fld w 14 2 = 0 → fld w 25 7 = 0 → fld w 45 3 = 0 → fld w 56 8 = 0 → c.w 5 = 0 → base < 2 ^ 52 → base % 4096 = 0 →
      head < 2 ^ 52 → head % 8 = 0 → 8 ≤ fld w 40 5 → fld w 40 5 ≤ 20 → (fbit w 13 = true → fld w 0 13 = 0) → cmdQOk cls rd wr = true →
      (c.ten = none → x.enabled = true) →
      (c.ten ≠ none → fbit w 13 = true ∧ fld w 48 8 = 0 ∧ lim = 0 ∧ limEn = false ∧ rd = 0 ∧ wr = 0 ∧ (cls = 0 ∨ cls = 2) ∧
        ((b.tenantQs t).filter (fun g => !isFwdQ g.ring)).length < x.maxSq ∧ classBound x cls prio = 0) →
      b.queueAt t (fld w 16 9) = none → b.ringAt t (fld w 32 8) = some ring →
      (fbit w 13 = true → Tbl.free 8192 b.queues = some q) → (fbit w 13 = false → q = fld w 0 13 ∧ Tbl.has q b.queues = false) →
      b.place t base len true false = some (fa, port, mem) → b.place t head 8 false true = some (fh, hport, m) →
      inSpans ((fa, len) :: b.ringSpans) fh = false → b.heads.any (inSpans [(fa, len)]) = false →
      (cls = 1 → b.resvFits b.tt.resv r = true) →
      let g : Queue := {
        tenant := t, db := fld w 16 9, base := fa, log2n := fld w 40 5, head := fh, port := port, headPort := hport, coh := mem,
        ring := ring, cls := cls, prio := prio, xset := xset,
        lim := if c.ten.isSome then (if x.limEn then some x.limiter else none) else if limEn then some lim else none }
      Sys2Proof.Machine.exec (.sqCreate d) s = Safety.cmdEnds s c none
        (State.hwNow { b with queues := Tbl.put q g b.queues,
                              tt := { b.tt with resv := if cls = 1 then Tbl.put q r b.tt.resv else b.tt.resv } } q) 0 0 q) ∧
    (Safety.Ready s c 0x82 → ∀ (fa : Nat) (port : Option Nat) (mem : Bool) (r : Nat),
      let base := (c.w 0).toNat
      let w := c.w 1
      let v := fld w 32 11
      let n := (if fbit w 29 then 32 else 16) * 2 ^ fld w 24 5
      let t := c.ten.getD (fld w 48 8)
      let sm := fld (c.w 2) 0 13
      fld w 12 4 = 0 → fld w 30 2 = 0 → fld w 43 5 = 0 → fld w 56 8 = 0 → fld (c.w 2) 13 51 = 0 → c.w 3 = 0 → base < 2 ^ 52 →
      base % 4096 = 0 → 4 ≤ fld w 24 5 → fld w 24 5 ≤ 16 → sm ≤ 4096 → (fbit w 11 = true → fld w 0 11 = 0) →
      (c.ten = none → (b.tenant t).enabled = true) →
      (c.ten ≠ none → fbit w 11 = true ∧ fld w 48 8 = 0 ∧ (b.tenantRings t).length < (b.tenant t).maxCr) →
      b.ringAt t (fld w 16 8) = none → (b.vec v).assigned = true → (b.vec v).tenant = t →
      (fbit w 11 = true → Tbl.free 2048 b.rings = some r) → (fbit w 11 = false → r = fld w 0 11 ∧ Tbl.has r b.rings = false) →
      b.place t base n true true = some (fa, port, mem) → b.heads.any (inSpans [(fa, n)]) = false →
      let g : Ring := {
        tenant := t, c := fld w 16 8, base := fa, port := port, coh := mem, log2m := fld w 24 5, e32 := fbit w 29, vec := some v,
        sidingMax := if sm = 0 then 256 else sm, hold := !b.portUp port, edge := !b.portUp port }
      Sys2Proof.Machine.exec (.crCreate d) s = Safety.cmdEnds s c none { b with rings := Tbl.put r g b.rings } 0 0 r)

/-- O40. Commands on a queue or ring (R224, R227 to R230, R236, R331 to R333): each acts on the object it names and
ends, or waits for what it asks for: a disabled, drained or deleted queue to hold no entry, a modified one for its
boundary. It rests on the choices of log entries 38 and 39. -/
def Obligations.QueueCommands : Prop :=
  ∀ (s : State) (d : DqRef) (e : Ent) (q : Nat),
    let c : Cmd := ⟨d, e⟩
    let b := Safety.begun s c
    let w := c.w 0
    let st := (b.queue q).st
    Safety.Passes s c false →
    (c.w 1 = 0 → fld w 13 3 = 0 → b.cmdQueue c (fld w 0 13) = some q →
      (fld w 16 48 = 0 → (st = .disabled ∨ st = .held ∨ st = .error) → Safety.Ready s c 0x81 →
        Sys2Proof.Machine.exec (.sqDelete d) s = Safety.cmdWaits s c (b.deleteQ q) (.sqDelete q)) ∧
      (fld w 17 47 = 0 → st ≠ .held → st ≠ .error → Safety.Ready s c 0x85 →
        let u := b.updQueue q (fun g => { g with quiesced := false })
        (fbit w 16 = false →
          Sys2Proof.Machine.exec (.sqDisable d) s = Safety.cmdWaits s c (u.disableQ q false) (.sqDisable q)) ∧
        (fbit w 16 = true →
          Sys2Proof.Machine.exec (.sqDisableAbort d) s = Safety.cmdWaits s c (u.disableQ q true) (.sqDisable q))) ∧
      (fld w 16 48 = 0 → (st = .active ∨ st = .backed) → Safety.Ready s c 0x87 →
        Sys2Proof.Machine.exec (.sqDrain d) s = Safety.cmdWaits s c (b.drainQ q) (.sqDrain q)) ∧
      (fld w 40 24 = 0 → Safety.Ready s c 0x86 →
        ((st = .active ∨ st = .backed) →
          Sys2Proof.Machine.exec (.sqEnable d) s = Safety.cmdEnds s c none ((b.scanReq q).pumpQ q) 0 0 0) ∧
        ((st = .disabled ∨ st = .error) →
          Sys2Proof.Machine.exec (.sqEnable d) s = Safety.cmdEnds s c none
            (if b.quiescing then b.enableQuiesced q else b.enableScan q) 0 0 0) ∧
        (st = .held → c.ten = none →
          let p := fld w 16 8
          let left := (b.queue q).heldSet.filter (· != p)
          (b.queue q).heldSet.contains p = true → (b.port p).up = true → (b.port p).epoch = fld w 24 16 →
          let u := b.updQueue q (fun g => { g with heldSet := left })
          Sys2Proof.Machine.exec (.sqEnable d) s = Safety.cmdEnds s c none
            (if left.isEmpty then (if b.quiescing then u.enableQuiesced q else u.enableScan q) else u) 0 left.length 0))) ∧
    (c.w 1 = 0 → fld w 13 51 = 0 → b.cmdRing c (fld w 0 13) = some q → b.boundQ q = [] → (b.ring q).siding = [] →
      Safety.Ready s c 0x83 →
      Sys2Proof.Machine.exec (.crDelete d) s = Safety.cmdEnds s c none { b with rings := Tbl.del q b.rings } 0 0 0) ∧
    (∀ (cls prio xset lim : Nat) (limEn : Bool) (r : Nat),
      let g := b.queue q
      let old := Tbl.get q b.tt.resv
      let rd := fld (c.w 4) 0 32
      let wr := fld (c.w 4) 32 32
      let ncls := if fbit w 16 then cls else g.cls
      let nprio := if fbit w 16 then prio else g.prio
      let nx := if fbit w 17 then xset else g.xset
      let nl := if fbit w 18 then (if limEn then some lim else none) else g.lim
      let nq := if fbit w 19 then (rd, wr) else if ncls = 1 then ((old.map (·.qrd)).getD 0, (old.map (·.qwr)).getD 0) else (0, 0)
      Safety.Ready s c 0x84 → cmdSched (c.w 3) = some (cls, prio, xset, lim, limEn) → fld w 13 3 = 0 → fld w 21 43 = 0 → c.w 1 = 0 →
      fld (c.w 2) 0 32 = 0 → fld (c.w 2) 40 24 = 0 → c.w 5 = 0 → rd ≤ 2 ^ 24 → wr ≤ 2 ^ 24 →
      (c.ten ≠ none → fld w 18 3 = 0 ∧ (fbit w 16 = true → classBound (b.tenant g.tenant) ncls nprio = 0)) →
      b.cmdQueue c (fld w 0 13) = some q → cmdQOk ncls nq.1 nq.2 = true →
      (fbit w 20 = true → b.ringAt g.tenant (fld (c.w 2) 32 8) = some r) → (fbit w 20 = false → r = g.ring) →
      (r = g.ring ∨ g.st = .disabled) →
      (ncls = 1 → b.resvFits (Tbl.del q b.tt.resv) (mkResv nq.1 nq.2 nx) = true) →
      let resv := match old with
        | some o => Tbl.put q { o with next := some (nq.1, nq.2, nx) } b.tt.resv
        | none => if ncls = 1 then Tbl.put q (mkResv nq.1 nq.2 nx) b.tt.resv else b.tt.resv
      Sys2Proof.Machine.exec (.sqModify d) s = Safety.cmdWaits s c
        (State.updQueue { b with tt := { b.tt with resv := resv } } q (fun g => { g with next := some (ncls, nprio, nx, nl, r) }))
        .boundary)

/-- O41. Windows and tenants (R117, R334, R336): a legal WIN_SET or WIN_CLEAR takes effect at once and waits for what
runs under the window's old state; TENANT_SET stores its record, enables a tenant with its page at reset values, or
disables one that owns nothing. It rests on the choices of log entries 38 and 44. -/
def Obligations.WindowAndTenantCommands : Prop :=
  ∀ (s : State) (d : DqRef) (e : Ent),
    let c : Cmd := ⟨d, e⟩
    let b := Safety.begun s c
    let w := c.w 0
    Safety.Passes s c false → c.w 1 = 0 ∨ c.e.opc = 0x88 →
    (Safety.Ready s c 0x88 →
      let base := (c.w 1).toNat
      let size := (c.w 2).toNat
      let off := (c.w 3).toInt
      let k := fld w 0 12
      let t := fld w 16 8
      fld w 35 29 = 0 → c.w 4 = 0 → c.w 5 = 0 → base % 4096 = 0 → size % 4096 = 0 → 4096 ≤ size → size ≤ 2 ^ 46 → base + size ≤ 2 ^ 52 →
      0 ≤ (base : Int) + off → (base : Int) + size + off ≤ 2 ^ 52 → (b.tenant t).enabled = true →
      b.wins.any (fun p => p.1 != k && p.2.tenant == t && overlap p.2.base p.2.size base size) = false →
      let v : Window := {
        station := fld w 12 4, tenant := t, port := fld w 24 8, mem := fbit w 32, rd := fbit w 33, wr := fbit w 34, base := base,
        size := size, offset := off }
      Sys2Proof.Machine.exec (.winSet d) s = Safety.cmdWaits s c { b with wins := Tbl.put k v b.wins } (b.winUsers k)) ∧
    (Safety.Ready s c 0x89 →
      let k := fld w 0 13
      fld w 13 51 = 0 → k < 4096 → Tbl.has k b.wins = true →
      Sys2Proof.Machine.exec (.winClear d) s = Safety.cmdWaits s c { b with wins := Tbl.del k b.wins } (b.winUsers k)) ∧
    (Safety.Ready s c 0x8A →
      let t := fld w 0 8
      let x := b.tenant t
      let set := fun (x : Tenant) => { x with
        enabled := true, maxSq := fld w 9 10, maxCr := fld w 19 9, classes := fld w 28 4, bestPrio := fld w 32 3,
        limiter := fld w 35 12, limEn := fbit w 47, set0 := w }
      let qs := (b.tenantQs t).filter (fun g => !isFwdQ g.ring)
      fld w 57 7 = 0 → fld w 9 10 ≤ 512 → fld w 19 9 ≤ 256 → fbit w 29 = false → fbit w 31 = false →
      (fbit w 8 = true → qs.length ≤ fld w 9 10 → (b.tenantRings t).length ≤ fld w 19 9 →
        (fbit w 56 = true →
          b.tenants.any (fun p => p.1 != t && p.2.enabled && fbit p.2.set0 56 && fld p.2.set0 48 8 == fld w 48 8) = false) →
        Sys2Proof.Machine.exec (.tenantSet d) s = Safety.cmdEnds s c none
          (if x.enabled then b.updTenant t set else (b.pageReset t).updTenant t (fun _ => set {})) 0 0 0) ∧
      (fbit w 8 = false → qs = [] → b.tenantRings t = [] → b.chn.chans.any (fun p => p.2.granted && p.2.tenant == t) = false →
        let dq := 0x2100 + t
        let u := if Tbl.has dq b.queues then
            (if (b.queue dq).st = .active then b.dqHalt dq false
             else b.updQueue dq (fun g => { g with st := if g.st = .error then .disabled else g.st }))
          else b
        Sys2Proof.Machine.exec (.tenantSet d) s = Safety.cmdEnds s c none
          (u.updTenant t (fun x => { x with enabled := false })) 0 0 0))

/-- O42. Gate lists and limiters (R55 to R58, R62, R63, R335): GATE_LOAD reads its entries into a bank that is neither
in force nor pending; GATE_ACTIVATE makes the list pending from the boundary of its base time, or from the first later
one a whole number of cycles on that is two ticks away; LIMITER_SET writes and acts, and answers the status before. It
rests on the choices of log entries 38, 44 and 72. -/
def Obligations.GateAndLimiterCommands : Prop :=
  ∀ (s : State) (d : DqRef) (e : Ent),
    let c : Cmd := ⟨d, e⟩
    let b := Safety.begun s c
    let w := c.w 0
    let cl := fld w 0 2
    let bk := fld w 2 1
    let g := b.gate cl
    Safety.Passes s c false →
    (Safety.Ready s c 0x90 →
      let first := fld w 16 10
      let n := fld w 26 11
      let src := (c.w 1).toNat
      fld w 3 13 = 0 → fld w 37 27 = 0 → 1 ≤ n → first + n ≤ 1024 → src + 16 * n ≤ 2 ^ 52 → c.w 2 = 0 → c.w 3 = 0 →
      ¬(g.inForce = true ∧ g.active = bk) → (∀ p, g.pend = some p → p.1 ≠ bk) →
      Sys2Proof.Machine.exec (.gateLoad d) s = Safety.cmdWaits s c (b.cmdBursts c true (rdLines src (16 * n) 0) none false)
        (.gate cl bk first n src)) ∧
    (Safety.Ready s c 0x91 → ∀ cyc : Nat,
      let base := (c.w 1).toNat
      let len := b.tt.cfgLen
      let p := b.phasePs b.tt.cfgPhase
      let b0 := bndFrom len p (base * 1000)
      let now2 := b.tt.tickEnd + tickPs len
      fld w 3 61 = 0 → g.pend = none → gateCycle (g.banks.getD bk []) 1024 0 = some cyc → cyc ≤ 65536 →
      (now2 ≤ b0 →
        Sys2Proof.Machine.exec (.gateActivate d) s = Safety.cmdEnds s c none
          (b.updGate cl (fun g => { g with pend := some (bk, tickNumIn len p b0, b0 / 1000) })) 0 0 (b0 / 1000)) ∧
      (b0 < now2 → g.strict = false →
        let at_ := b0 + ceilDiv (now2 - b0) (cyc * tickPs len) * (cyc * tickPs len)
        Sys2Proof.Machine.exec (.gateActivate d) s = Safety.cmdEnds s c none
          (State.raise0 (b.updGate cl (fun g => { g with pend := some (bk, tickNumIn len p at_, at_ / 1000), late := true }))
            0x083 cl) 0 1 (at_ / 1000))) ∧
    (Safety.Ready s c 0x92 →
      let i := fld w 0 12
      let v : Word := mkWord [(0, 60, fld (c.w 1) 0 60)]
      let l0 := b.limiter i
      let l1 := if fbit w 12 then l0.write v b.tt.ticks b.T else l0
      let l2 := if fbit w 13 then l1.zero b.tt.ticks b.T b.clk else l1
      let l3 := if fbit w 14 then l2.fill else l2
      let l4 := if fbit w 15 then l3.resetAdapt b.tt.ticks b.T else l3
      fld w 16 48 = 0 → ¬(fbit w 13 = true ∧ fbit w 14 = true) → (fbit w 12 = true → fld (c.w 1) 60 4 = 0 ∧ limCfgOk v = true) →
      (fbit w 12 = false → c.w 1 = 0) →
      ∃ t : State, Sys2Proof.Machine.exec (.limiterSet d) s = Safety.cmdEnds s c none t 0 0 l0.stat.toNat ∧
        t.limiter i = l4 ∧ (∀ k, k ≠ i → t.limiter k = b.limiter k) ∧
        t = { b with tt := { b.tt with lims := t.tt.lims } })

/-- O43. Transit commands (R189 to R193): TRANSIT_OPEN opens an idle window with legal parameters, the others act on
the open window they name; OPEN, CONJOIN and ABORT are completed by their window. It rests on the choices of log
entries 29 and 40. -/
def Obligations.TransitCommands : Prop :=
  ∀ (s : State) (d : DqRef) (e : Ent),
    let c : Cmd := ⟨d, e⟩
    let b := Safety.begun s c
    let w := c.w 0
    let i := fld w 0 3
    b.isOn domTRN = true → c.e.aux = 0 →
    (Safety.Passes s c true →
      (Safety.Ready s c 0x98 → ∀ (k : Nat) (p : TParam), tParse ((List.range 8).map c.w) = some (k, p) → b.mode.dataIssue = true →
        (b.tw k).ph = .idle → b.tParamOk p = true →
        Sys2Proof.Machine.exec (.transitOpen d) s = Safety.cmdLeaves s c (b.tOpen k p (some c.key) false)) ∧
      (c.w 1 = 0 → fld w 3 5 = 0 → (b.tw i).ph ≠ .idle → (b.tw i).ph ≠ .failed →
        (fld w 16 48 = 0 → Safety.Ready s c 0x99 →
          (fld w 8 8 = 1 → ((b.tw i).ph = .open_ ∨ (b.tw i).ph = .sweep ∨ (b.tw i).ph = .orbit) →
            Sys2Proof.Machine.exec (.proceed d) s = Safety.cmdEnds s c none
              ((b.updTw i (fun t => { t with proceed := true })).tPump i) 0 0 0) ∧
          (fld w 8 8 = 3 → ((b.tw i).ph = .open_ ∨ (b.tw i).ph = .sweep ∨ (b.tw i).ph = .orbit) →
            Sys2Proof.Machine.exec (.toMirror d) s = Safety.cmdEnds s c none
              ((b.updTw i (fun t => { t with toMirror := true })).tPump i) 0 0 0) ∧
          (fld w 8 8 = 2 → (b.tw i).p.mem = true →
            Sys2Proof.Machine.exec (.recallConfirmed d) s = Safety.cmdEnds s c none
              ((b.updTw i (fun t => { t with recalled := true })).tPump i) 0 0 0)) ∧
        (fld w 12 52 = 0 → Safety.Ready s c 0x9A → (b.tw i).conjoin = none →
          Sys2Proof.Machine.exec (.transitConjoin d) s = Safety.cmdLeaves s c
            ((b.updTw i (fun t => { t with
              conjoin := some (c.q, c.e.uid, if fld w 8 4 = 0 then 4 else fld w 8 4) })).tPump i)))) ∧
    (Safety.Passes s c false → c.w 1 = 0 → fld w 3 61 = 0 → Safety.Ready s c 0x9B → (b.tw i).ph ≠ .idle → (b.tw i).abortCmd = none →
      Sys2Proof.Machine.exec (.transitAbort d) s = Safety.cmdLeaves s c (b.tAbort i (some c.key)))

/-- O44. The dictionary, Engineering Services and QUERY as commands (R270, R271, R337, R338): a short value is read or
written at once, a longer one through the buffer; BG_SCHEDULE starts a service or leaves its stop to it; QUERY answers
the head of a queue, the state of a ring or a tenant's status. It rests on the choices of log entries 40, 42 and 43.
-/
def Obligations.ServiceCommands : Prop :=
  ∀ (s : State) (d : DqRef) (e : Ent) (sl : Option (Nat × Nat)),
    let c : Cmd := ⟨d, e⟩
    let b := Safety.slotted (Safety.begun s c) sl
    let w := c.w 0
    let p : Path := .dq d
    Safety.SlotIs s c sl →
    (Safety.Passes s c false →
      (Safety.Ready s c 0xA0 → odHeadBad c = false → fld w 24 9 = 0 → c.w 1 = 0 → ∀ (t : State) (v n : Nat),
        b.odRead p (fld w 0 16) (fld w 16 8) = (t, 0, v, n) →
        (n ≤ 8 → c.w 2 = 0 → Sys2Proof.Machine.exec (.odRead d) s = Safety.cmdEnds s c sl t 0 0 v) ∧
        (8 < n → c.w 2 ≠ 0 → ∀ fa port mem, b.cmdBuf c (c.w 2).toNat n false true = .ok (fa, port, mem) →
          Sys2Proof.Machine.exec (.odRead d) s = Safety.ended s
            (((t.cmdBursts c false (wrRange fa (leBytes n v)) port mem).addWait
              { q := c.q, uid := c.e.uid, objs := b.cmdObjs c, k := .store n, slot := sl }).waitsRun.pumpQ c.q))) ∧
      (Safety.Ready s c 0xA1 → odHeadBad c = false →
        let n := fld w 24 9
        (1 ≤ n → n ≤ 8 → c.w 2 = 0 → (c.w 1).toNat < 2 ^ (8 * n) → ∀ (t : State) (v : Nat),
          b.odWrite p (fld w 0 16) (fld w 16 8) (c.w 1).toNat n = (t, 0, v) →
          Sys2Proof.Machine.exec (.odWrite d) s = Safety.cmdEnds s c sl t 0 0 v) ∧
        (8 < n → n ≤ 256 → c.w 1 = 0 → c.w 2 ≠ 0 → ∀ fa port mem, b.cmdBuf c (c.w 2).toNat n true false = .ok (fa, port, mem) →
          Sys2Proof.Machine.exec (.odWrite d) s = Safety.ended s
            (((b.cmdBursts c true (rdLines fa n 0) port mem).addWait
              { q := c.q, uid := c.e.uid, objs := b.cmdObjs c, k := .value (fld w 0 16) (fld w 16 8) n fa, slot := sl }).waitsRun.pumpQ
                c.q))) ∧
      (Safety.Ready s c 0xA8 → fld w 4 4 = 2 → c.e.aux = 0 → b.isOn domBGS = true → ∀ t : State,
        b.bgStop ((List.range 8).map c.w) c.key = some t →
        Sys2Proof.Machine.exec (.bgScheduleStop d) s = Safety.cmdLeaves s c t) ∧
      (Safety.Ready s c 0xB0 → fld w 4 12 = 0 → fld w 29 3 = 0 → fld w 37 27 = 0 → c.w 1 = 0 →
        let id := fld w 16 13
        (fld w 0 4 = 1 → ∀ q, b.cmdQueue c id = some q →
          Sys2Proof.Machine.exec (.query d) s = Safety.cmdEnds s c sl (b.hwNow q) 0 0 (queryQ (b.queue q) (b.queue q).st.code)) ∧
        (fld w 0 4 = 2 → ∀ r, b.cmdRing c id = some r →
          let g := b.ring r
          Sys2Proof.Machine.exec (.query d) s = Safety.cmdEnds s c sl b 0 0
            (mkWord [(0, 16, g.wr), (16, 1, b2n g.wrWrap), (17, 1, b2n g.full), (18, 1, b2n g.sided),
                     (32, 16, min 65535 g.siding.length)]).toNat) ∧
        (fld w 0 4 = 3 → (c.ten = some id ∨ (c.ten = none ∧ id < 256)) →
          Sys2Proof.Machine.exec (.query d) s = Safety.cmdEnds s c sl b 0 0 (b.tenStatus id).toNat) ∧
        (fld w 0 4 = 4 →
          Sys2Proof.Machine.exec (.query d) s = Safety.cmdEnds s c sl (b.hwNow c.q) 0 0
            (queryQ (b.queue c.q) (b.dqState c.q))))) ∧
    (Safety.Passes s c true → Safety.Ready s c 0xA8 → fld w 4 4 = 1 → c.e.aux = 0 → b.mode.grants = true → b.isOn domBGS = true →
      ∀ t : State, b.bgStart ((List.range 8).map c.w) = some t →
        Sys2Proof.Machine.exec (.bgScheduleStart d) s = Safety.cmdEnds s c none t 0 0 0)

/-! ### Bursts, responses and time -/

/-- O45. Grants and issues (R18, R19, R22, R41 to R47, R84, R96, R129, R233): the burst that its class, credits,
limiter, tags and horizons allow and the order of service names is debited and granted on that attachment; a granted
burst whose turn has come at its Mover becomes one outstanding transaction a line, under the tags named, and its entry
has started. It rests on the choices of log entries 16, 18, 19, 70 and 71. -/
def Obligations.GrantAndIssue : Prop :=
  ∀ (s : State) (id n : Nat) (p : Pay) (x : Burst) (tags : List Nat), s.held = false → s.mayStart x = true →
    let b := Safety.bare s
    (s.bursts.find? (fun b => b.id == id) = some x → s.portUp x.port = true → s.grantable x = some (n, p) → s.dstLater x = false →
      (s.pick n x.rd).map (fun y => y.1.id) = some id →
      let u := (b.debit x n p).unwait id
      Sys2Proof.Machine.exec (.burstGrant id) s = Safety.ran s
        (State.granted1 { u with granted := u.granted ++ [{ x with xa := n, rs := p == .share }] } x)) ∧
    (s.granted.find? (fun b => b.id == id) = some x → s.canIssue x tags = true → s.isOn (domXa x.xa) = true → s.burstMode x = true →
      s.turn x = true →
      let y : Burst := { x with tenant := s.burstTenant x }
      let u := (x.lines.zip tags).foldl (fun (s : State) l => s.issueLine y l.1 l.2) ((b.ungrant x).served x)
      Sys2Proof.Machine.exec (.burstIssue id tags) s = Safety.ran s
        (((u.meterBurst x).issued0 x).injAct x.mover (some x.xa) (b.bankEvent x) x.ctx))

/-- O46. Responses and losses (R133, R136, R238, R239, R377): a response ends the transaction under its tag and
reaches its owner; one to a quarantined tag is discarded with kind 0x02 and frees the tag, one to no tag is discarded
with kind 0x03; a transaction without a response in its TMO is lost, its tag quarantined for as long, kind 0x01; the
answer to a Hold reaches who asked for it. It rests on the choices of log entries 4 and 64. -/
def Obligations.ResponsesAndLosses : Prop :=
  ∀ (s : State) (n : Fin 8) (info : BitVec 18) (line : Line) (t : Txn) (q : Quar) (tag : Fin 8192) (rd : Bool),
    let b := Safety.bare s
    let i := info.toNat
    let here := fun (rd : Bool) (k : Nat) (t : Txn) => t.xa == n.val && t.rd == rd && t.tag == k
    let end_ := fun (r : Res) (corr : Bool) =>
      let u := ((b.dropTxn t).sampleLat t).mark t.lim (bit i 16)
      State.deliver (match t.tenant with | some x => if bit i 16 then u.meter 6 x 0 1 else u | none => u) t r corr
    let gone : State := { b with quar := s.quar.filter (fun x => !(x.xa == n.val && x.rd == rd && x.tag == tag.val)) }
    Safety.Live s →
    (s.txns.find? (here true (bits i 0 13)) = some t →
      Sys2Proof.Machine.exec (.readResponse n info line) s =
        Safety.ran s (end_ (rsResult (bits i 13 3) line) (bits i 13 3 == 1))) ∧
    (bit i 17 = false → s.txns.find? (here false (bits i 0 12)) = some t →
      Sys2Proof.Machine.exec (.writeCompletion n info) s = Safety.ran s (end_ (cpResult (bits i 13 3)) false)) ∧
    (s.txns.find? (here true (bits i 0 13)) = none → rd = true → bits i 0 13 = tag.val →
      (s.quar.find? (fun x => x.xa == n.val && x.rd == true && x.tag == tag.val) = some q →
        Sys2Proof.Machine.exec (.readResponse n info line) s = Safety.ran s (gone.raise (0x040 + n.val) 2 (q.line * 64) q.ctx)) ∧
      (s.quar.find? (fun x => x.xa == n.val && x.rd == true && x.tag == tag.val) = none →
        Sys2Proof.Machine.exec (.readResponse n info line) s = Safety.ran s (b.raise (0x040 + n.val) 3 0 0xFFFF))) ∧
    (bit i 17 = true → s.holds.any (fun h => h.hid == bits i 0 13 && h.xa == n.val && !h.acked) = true →
      let u := if bits i 0 13 < 8 then b.tHoldAnswer (bits i 0 13) (bits i 13 3 == 0) else b.scrHold (bits i 0 13 - 0x40) (bits i 13 3 == 0)
      Sys2Proof.Machine.exec (.holdAnswer n info) s = Safety.ran s u ∧
      Sys2Proof.Machine.exec (.writeCompletion n info) s = Safety.ran s u) ∧
    (s.txns.find? (here rd tag.val) = some t →
      let u := (b.reach (t.issued + t.tmo)).dropTxn t
      let v : State := { u with quar := u.quar ++
        [{ xa := n.val, rd := rd, tag := tag.val, ends := u.clk + t.tmo, line := t.op.line, ctx := t.ctx }] }
      Sys2Proof.Machine.exec (.transactionLost n rd tag) s = Safety.ran s
        ((v.raise (0x040 + n.val) 1 (t.op.line * 64) t.ctx).deliver t (.bad (if t.wasDown && t.port.isSome then 0x14 else 0x19)) false)) ∧
    (s.quar.find? (fun x => x.xa == n.val && x.rd == rd && x.tag == tag.val) = some q →
      Sys2Proof.Machine.exec (.quarantineEnd n rd tag) s = Safety.ran s { gone.reach q.ends with quar := gone.quar })

/-- O47. Ports and interrupt messages (R102, R233, R235): a report changes the port's state and epoch; a DOWN one ends
what needs the port; a due unmasked vector sends its message, HOLDOFF after the last, where none became sendable
before it. It rests on the choices of log entries 65 and 66. -/
def Obligations.PortsAndInterrupts : Prop :=
  ∀ (s : State) (p : BitVec 8) (up : Bool) (ep : BitVec 16) (v : Fin 2048),
    let b := Safety.bare s
    (s.held = false → ¬((s.port p.toNat).up = up ∧ (s.port p.toNat).epoch = ep.toNat) →
      let u : State := { b with ports := Tbl.put p.toNat { up := up, epoch := ep.toNat } s.ports }
      (up = true → Sys2Proof.Machine.exec (.pstReport p up ep) s = Safety.ran s u) ∧
      (up = false → s.mode ≠ .safe → s.mode ≠ .off → s.isOn domQM = true →
        Sys2Proof.Machine.exec (.pstReport p up ep) s = Safety.ran s (u.portDown p.toNat))) ∧
    (Safety.Live s → (s.vec v.val).due = true → (s.vec v.val).mask = false →
      (∀ k y, (k, y) ∈ s.vecs → y.due = true → y.mask = false → (s.vec v.val).sendAt ≤ y.sendAt) →
      let u := match (s.vec v.val).last with | some t => b.reach (t + (s.vec v.val).hold) | none => b
      let x := u.vec v.val
      Sys2Proof.Machine.exec (.interruptSend v) s = Safety.ended s
        { u with vecs := Tbl.put v.val { x with due := false, sent := (x.sent + 1) % 2 ^ 32, last := some u.clk } u.vecs,
                 out := [.irq v.val (s.vec v.val).tenant] })

/-- O48. Ticks (R36 to R40, R48, R52): a boundary in the ordinary case moves time to the end of the tick and counts
it, and the work of a boundary follows; the keeper starts at the first boundary of R36 later than its time; the
reclaim point returns what shares and the floor have left to the shared pool, once a tick. It rests on the choices of
log entries 4, 13 and 96. -/
def Obligations.TickBoundaries : Prop :=
  ∀ s : State, s.held = false → s.isOn domTT = true → s.tt.everValid = true → s.mode ≠ .off →
    let b := Safety.bare s
    (s.tt.running = true → s.tt.slew = 0 → s.tt.stepTo = none → s.stn.step = none → s.stn.slew = 0 → s.tt.transitional = false →
      s.tt.cfgLen = s.tt.len → s.tt.cfgPhase = s.tt.phase → s.tt.time ≤ s.tt.tickEnd →
      (s.stn.id = 0 ∨ s.stn.quiet ≠ 1) → -(tickPs s.tt.len : Int) < 2 * s.stn.corr → 2 * s.stn.corr ≤ (tickPs s.tt.len : Int) →
      let u := b.advance (s.tt.tickEnd - s.tt.time)
      let t : State := { u with
        tt := { u.tt with
          tickNum := s.tt.tickNum + 1, ticks := s.tt.ticks + 1, tickStart := s.tt.tickEnd,
          tickEnd := s.tt.tickEnd + tickPs s.tt.len, transitional := false, reclaimed := false },
        stn := { u.stn with tick := some s.tt.tickEnd,
                            quiet := if s.stn.id = 0 ∨ 2 ≤ s.stn.quiet then s.stn.quiet else s.stn.quiet + 1 } }
      u.tt.time = s.tt.tickEnd ∧
      Sys2Proof.Machine.exec .tickBoundary s = Safety.ran s (t.tickWork (tickPs s.tt.len))) ∧
    (s.tt.running = false →
      let at_ := bndAfter s.tt.cfgLen (s.phasePs s.tt.cfgPhase) s.tt.time
      let u := b.advance (at_ - s.tt.time)
      let t : State := { u with
        tt := { u.tt with
          running := true, time := at_, len := s.tt.cfgLen, phase := s.tt.cfgPhase, tickStart := at_,
          tickEnd := at_ + tickPs s.tt.cfgLen, tickNum := tickNumIn s.tt.cfgLen (s.phasePs s.tt.cfgPhase) at_,
          ticks := s.tt.ticks + 1, reclaimed := false },
        stn := { u.stn with tick := some at_ } }
      Sys2Proof.Machine.exec .tickBoundary s = Safety.ran s (t.tickWork 0)) ∧
    (s.tt.running = true → s.tt.reclaimed = false → s.mode ≠ .safe →
      let u := b.advance (s.tt.tickStart + s.tt.reclaim * s.tickLen / 64 - s.tt.time)
      Sys2Proof.Machine.exec .reclaimPoint s = Safety.ran s
        { u with tt := { u.tt with reclaimed := true, pools := s.tt.pools.map (fun p => { p with
            shared := p.shared + p.shares.foldl (fun a x => a + x.2) 0 + p.floor, floor := 0, released := true }) } })

/-- O49. The time input (R38, R307, R393): when TIME_VALID falls the block holds over and raises source 0x080; when it
rises, the first time is taken, a later one that differs by at most a quarter tick is slewed to, and any other is
stepped to at the next boundary. A jump is a fall and a rise at once. -/
def Obligations.TimeInput : Prop :=
  ∀ (s : State) (ns : BitVec 64), s.held = false →
    let b := Safety.bare s
    let t := ns.toNat * 1000
    let w := fun (u : State) => { u with wbg := { u.wbg with time := t, valid := true } }
    let diff : Int := (t : Int) - (s.tt.time : Int)
    let fall : State := { b with
      tt := { s.tt with timeValid := false, holdover := true }, wbg := { s.wbg with valid := false, ivHold := true },
      sbx := { s.sbx with inbox := s.sbx.inbox ++ [⟨0x080, 0, 0, 0, s.ns⟩] } }
    (s.tt.timeValid = true → Sys2Proof.Machine.exec .timeValidFall s = Safety.ended s fall) ∧
    (s.tt.timeValid = false → s.tt.everValid = false →
      Sys2Proof.Machine.exec (.timeValidRise ns) s = Safety.ended s
        (w { b with tt := { s.tt with time := t, timeValid := true, everValid := true, holdover := false } })) ∧
    (s.tt.everValid = true → s.tt.running = true →
      let slew := fun (u : State) => w { u with tt := { u.tt with timeValid := true, holdover := false, slew := diff, stepTo := none } }
      let step := fun (u : State) => w { u with tt := { u.tt with timeValid := true, holdover := false, slew := 0, stepTo := some (t, s.clk) } }
      (s.tt.timeValid = false →
        (4 * (diff.natAbs : Int) ≤ (s.T : Int) → Sys2Proof.Machine.exec (.timeValidRise ns) s = Safety.ended s (slew b)) ∧
        ((s.T : Int) < 4 * (diff.natAbs : Int) → Sys2Proof.Machine.exec (.timeValidRise ns) s = Safety.ended s (step b))) ∧
      (s.tt.timeValid = true →
        (4 * (diff.natAbs : Int) ≤ (s.T : Int) → Sys2Proof.Machine.exec (.timeNsJump ns) s = Safety.ended s (slew fall)) ∧
        ((s.T : Int) < 4 * (diff.natAbs : Int) → Sys2Proof.Machine.exec (.timeNsJump ns) s = Safety.ended s (step fall))))

/-! ### Sessions, MCTP, channels, Transit -/

/-- O50. Sessions and the journal (R348 to R351): a session ends, with its journal entry, when END is written on its
path and when it has been idle for its limit; a nonce goes 10 s after its issue; the refusal of nonce reads ends; a
group of 64 entries leaves for the spill ring, the last one before OFF filled with zero entries. It rests on the
choices of log entries 4, 49 and 50. -/
def Obligations.SessionsAndJournal : Prop :=
  (∀ (s : State) (p : Path) (x : Sess) (n : Nonce) (t : Nat), s.held = false →
    let b := Safety.bare s
    let k := pathKey p
    let gone := fun (u : State) =>
      let v := u.journalE 3 (pathCode p) x.role (match p with | .mctp e => e.toNat | _ => 0) 0 (x.role + 256) 0 0
      ({ v with dct := { v.dct with sess := Tbl.del k v.dct.sess } } : State)
    (Tbl.get k s.dct.sess = some x → x.role ≠ 0 →
      Sys2Proof.Machine.exec (.sessionIdleEnd p) s = Safety.ended s (gone (b.reach (x.last + s.dct.idleS * 10 ^ 12)))) ∧
    (Tbl.get k s.dct.nonces = some n →
      let u := b.reach (n.at_ + 10 ^ 13)
      Sys2Proof.Machine.exec (.nonceExpiry p) s = Safety.ended s
        { u with dct := { u.dct with nonces := Tbl.del k u.dct.nonces } }) ∧
    (Tbl.get k s.dct.lock = some t →
      let u := b.reach t
      Sys2Proof.Machine.exec (.authLockoutEnd p) s = Safety.ended s
        { u with dct := { u.dct with lock := Tbl.del k u.dct.lock } })) ∧
  (∀ (s : State) (x : Sess) (e : BitVec 8), s.held = false → x.role ≠ 0 →
    let gone := fun (u : State) (k path origin : Nat) =>
      let v := u.journalE 3 path x.role origin 0 (x.role + 256) 0 0
      ({ v with dct := { v.dct with sess := Tbl.del k v.dct.sess } } : State)
    (Tbl.get 0 s.dct.sess = some x → Safety.Reached s 0x30108 →
      Sys2Proof.Machine.exec (.sessionEnd .reg) s = Safety.accepted s (gone (Safety.touched s) 0 0 0)) ∧
    (Tbl.get (1 + e.toNat) s.dct.sess = some x → s.dspUp = true → s.jFull = false →
      Sys2Proof.Machine.exec (.sessionEnd (.mctp e)) s =
        Safety.ended s (gone ((Safety.bare s).touch (.mctp e)) (1 + e.toNat) 1 e.toNat))) ∧
  (∀ s : State, s.held = false → fbit s.jCfg 0 = true → s.dct.spill = [] → s.spillMin ≤ s.journal.length → s.mode.grants = true →
    s.dspUp = true → 64 ≤ s.jRoom →
    let b := Safety.bare s
    let g := s.journal.take 64
    let base := fld s.jCfg 12 40 * 4096 + 32 * s.dct.wr
    let bytes := g.flatMap JEnt.bytes ++ List.replicate (32 * (64 - g.length)) 0
    let ops := (List.range 32).map (fun i => wrLine (base + 64 * i) (lineOf ((bytes.drop (64 * i)).take 64)))
    let u : State := { b with
      journal := s.journal.drop 64, dct := { s.dct with spill := g, spillOut := 32, spillBad := false, fullRaised := false } }
    Sys2Proof.Machine.exec .journalSpill s = Safety.ended s (u.engCtl 0xC302 0xC300 false ops ⟨.spill, 0, 0⟩))

/-- O51. MCTP (R345, R346, R389): a well-formed Kalmet read or write is answered with the object's value, or with the
end of the write; the control requests are answered, and Set Endpoint ID ends the MCTP sessions and takes the new EID;
a packet that R345 or R389 excludes raises source 0x103. The control layouts are those of log entry 25. It rests on
the choices of log entries 8, 25 and 26. -/
def Obligations.MctpRequests : Prop :=
  ∀ (s : State) (h : MctpHdr) (msg : List Byte), s.held = false → s.mode ≠ .off →
    let b := Safety.bare s
    let m := msg.map BitVec.toNat
    let p : Path := .mctp h.src
    let ix := leNat ((m.drop 8).take 2)
    let sub := m.getD 10 0
    let len := leNat ((m.drop 12).take 2)
    let data := m.drop 16
    let u := b.touch p
    (s.kalmetOk h m = true → bits (m.getD 5 0) 5 2 = 0 → m.getD 7 0 = 0 → m.getD 11 0 = 0 → leNat ((m.drop 14).take 2) = 0 →
      let told := fun (t : State) (cmd why n v : Nat) =>
        Safety.ran s (t.reply h ([0x7F, 0, 0, 0xD1, 0xA4, bits (m.getD 5 0) 0 5, cmd, why] ++ leBytes 2 ix ++ [sub, 0] ++
          leBytes 2 n ++ [0, 0] ++ leBytes n v))
      (m.getD 6 0 = 1 → len = 0 → data = [] → (s.dspUp = true ∨ (0x1000 ≤ ix ∧ ix < 0x1100) ∨ (0x6000 ≤ ix ∧ ix < 0x6100)) →
        (u.odObj ix sub = none → Sys2Proof.Machine.exec (.mctpRead h msg) s = told u 1 2 0 0) ∧
        (∀ ob, u.odObj ix sub = some ob →
          (u.odRight p ix sub ob = 0 → Sys2Proof.Machine.exec (.mctpRead h msg) s = told u 1 3 0 0) ∧
          (u.odRight p ix sub ob ≠ 0 → objDown u ob = false → ¬(ix = 0x1010 ∧ sub = 1) → ix ≠ 0xA002 →
            Sys2Proof.Machine.exec (.mctpRead h msg) s = told u 1 0 ob.size (u.odValue p ix sub)))) ∧
      (m.getD 6 0 = 2 → data.length = len → s.dspUp = true → ∀ ob, u.odObj ix sub = some ob → u.odRight p ix sub ob = 2 →
        (ob.i = 2 ∨ s.mode = .factoryTest) → len = ob.size → objDown u ob = false → u.jFull = false →
        ix ≠ 0x1010 → ix ≠ 0x1100 → ix ≠ 0xF010 →
        let v := leNat data
        let r := u.odPut p ix sub v
        Sys2Proof.Machine.exec (.mctpWrite h msg) s = told
          (r.1.jrn 0 p r.2 (ix + sub * 65536) (BitVec.ofNat 64 (u.odValue p ix sub % 2 ^ 64)) (BitVec.ofNat 64 (v % 2 ^ 64)))
          2 r.2 0 0)) ∧
    ((h.dst.toNat = s.dct.eid ∨ h.dst = 0) → 3 ≤ m.length → m.length ≤ 320 → m.getD 0 0 = 0 → bit (m.getD 1 0) 7 = true →
      let d := m.drop 3
      let told := fun (t : State) (code : Nat) (body : List Nat) =>
        Safety.ran s (t.reply h ([0, bits (m.getD 1 0) 0 5, code] ++ body))
      let f := b.freeVal
      let e := d.getD 1 0
      (m.getD 2 0 = 1 → d.length = 2 → bits (d.getD 0 0) 0 2 ≤ 1 → e ≠ 0 → e ≠ 255 →
        let t := b.endMctp
        Sys2Proof.Machine.exec (.setEndpointId h msg) s = told { t with dct := { t.dct with eid := e } } 1 [0, 0, e, 0]) ∧
      (m.getD 2 0 = 2 → Sys2Proof.Machine.exec (.getEndpointId h msg) s = told b 2 [0, s.dct.eid, 0, 0]) ∧
      (m.getD 2 0 = 4 → d.length = 1 → (d.getD 0 0 = 0xFF ∨ d.getD 0 0 = 0 ∨ d.getD 0 0 = 0x7F) →
        Sys2Proof.Machine.exec (.getMctpVersionSupport h msg) s = told f.2 4 ([0, 1] ++ leBytes 4 f.1)) ∧
      (m.getD 2 0 = 5 → Sys2Proof.Machine.exec (.getMessageTypeSupport h msg) s = told b 5 [0, 2, 0, 0x7F]) ∧
      (m.getD 2 0 = 6 → d.length = 1 → d.getD 0 0 = 0 →
        Sys2Proof.Machine.exec (.getVendorDefinedMessageSupport h msg) s =
          told f.2 6 ([0, 0xFF, 1, 0, 0, 0xD1, 0xA4] ++ leBytes 2 f.1))) ∧
    ((68 < m.length ∨ m.length < 4 ∨ bits (m.getD 0 0) 0 4 ≠ 1 ∨
        (m.getD 1 0 ≠ s.dct.eid ∧ ¬(m.getD 1 0 = 0 ∧ bits (m.getD 4 0) 0 7 = 0)) ∨
        (bit (m.getD 3 0) 7 = true ∧ (bit (m.getD 4 0) 7 = true ∨ (bits (m.getD 4 0) 0 7 ≠ 0 ∧ bits (m.getD 4 0) 0 7 ≠ 0x7F))) ∨
        (bits (m.getD 3 0) 6 2 = 3 ∧ m.getD 4 0 = 0x7F ∧ (m.drop 5).take 4 ≠ [0, 0, 0xD1, 0xA4])) →
      Sys2Proof.Machine.exec (.mctpPacketDiscard msg) s = Safety.ran s (b.raise 0x103 0 0 (m.getD 2 0)))

/-- O52. Events of channels (R203 to R208, R210, R213): an edge on a request line counts a request of the channel that
binds it, up to 1,023, and kicks one that it wakes, whatever its state; a level decides whether a level-burst request exists, GAP after the last acknowledge; a request
is presented by the oldest started descriptor, or starts the next one on a Mover; a pulse leaves two EVT cycles after
the last of its line. It rests on the choices of log entry 4. -/
def Obligations.ChannelEvents : Prop :=
  (∀ (s : State) (line : Fin 256) (c : Nat) (x : Chan), Safety.Live s →
    let b := Safety.bare s
    (s.isOn domCHN = true → s.sbx.fchn = false →
      s.chn.chans.filter (fun p => p.2.src != 0 && p.2.line == line.val) = [(c, x)] →
      let ends := fun (t : State) => Sys2Proof.Machine.exec (.rqlAssertion line) s = Safety.ran s
        ((if x.wake then (t.updChan c (fun x => { x with kick := true })).chKicked c else t).waitEvents 0 line.val 0)
      (x.src = 1 → x.st ≠ .disabled → x.reqcnt < 1023 → ends (b.updChan c (fun x => { x with reqcnt := x.reqcnt + 1 }))) ∧
      (x.src = 1 → x.st ≠ .disabled → 1023 ≤ x.reqcnt →
        ends ((b.updChan c (fun x => { x with reqOvf := true })).raise 0x0E1 0 0 c)) ∧
      (x.src ≠ 1 ∨ x.st = .disabled → ends b)) ∧
    ((s.isOn domCHN = false ∨ s.sbx.fchn = true) →
      Sys2Proof.Machine.exec (.rqlAssertion line) s = Safety.ran s (b.waitEvents 0 line.val 0)) ∧
    (∀ n, Tbl.getD line.val 0 s.chn.evo = n + 1 →
      let u := match Tbl.get line.val s.chn.evoLast with | some t => b.reach (t + 2500) | none => b
      Sys2Proof.Machine.exec (.eventPulse line) s = Safety.ended s { u with
        out := [.evo line.val],
        chn := { u.chn with evo := if n = 0 then Tbl.del line.val s.chn.evo else Tbl.put line.val n s.chn.evo,
                            evoLast := Tbl.put line.val u.clk s.chn.evoLast } })) ∧
  (∀ (s : State) (ch : Fin 512) (high : Bool), Safety.Live s →
    let b := Safety.bare s
    let c := ch.val
    let x := s.chan c
    (x.src = 2 → x.st ≠ .disabled → x.lvl = false → x.reqs.all (·.acked) = true →
      let u := match x.lastAck with | some t => b.reach (t + (x.gap + 1) * 1250) | none => b
      Sys2Proof.Machine.exec (.levelBurstDecision ch high) s = Safety.ran s (u.updChan c (fun x => { x with lvl := high }))) ∧
    ((x.st = .active ∨ x.st = .stopping) → x.hasReq = true → s.isOn domCHN = true → (s.mode.dataIssue = true ∨ s.mode = .quiesce) →
      ∀ d, x.target = some d →
        let len := min d.k (d.count - d.pos)
        let shows := fun (wid : Nat) (u : State) =>
          let r0 : ChReq := { id := u.nextId, d := d.uid, off := d.pos, len := len, ph := if d.mode = 2 then 0 else 1,
                              line := if x.src = 0 then none else some x.line }
          let rd := if d.mode = 2 then [[{ line := addOff (d.x + d.pos / d.k * d.iw) d.to_ / 64, key := d.pos }]]
                    else d.reads r0 (b.chMax c true)
          let r : ChReq := { r0 with todo := rd }
          let v := { u with nextId := u.nextId + 1 }.updDesc c d.uid (fun d => { d with wid := some wid, pos := d.pos + len })
          Sys2Proof.Machine.exec (.requestPresent ch) s = Safety.ran s
            ((v.updChan c (fun x => { x with
              reqs := x.reqs ++ [r], reqcnt := if x.src = 1 then x.reqcnt - 1 else x.reqcnt, lvl := false })).chPump c)
        (∀ wid, d.wid = some wid → shows wid b) ∧
        (∀ mv, d.wid = none → s.mode.dataIssue = true → b.moverFor x.cls = some mv →
          let w : Work := { uid := d.uid, who := 1, which := c, cls := x.cls, seg := 0, mover := some mv, lo := 0, hi := d.count }
          shows s.nextId { b with nextId := s.nextId + 1, works := Tbl.put s.nextId w s.works })))

/-- O53. Events of Transit (R170 to R175, R178, R180, R390, R391): a notification sets the bit of its page, or marks a
copy's clean interval, or abandons an attempt, as the phase has it, and is counted as lost when 4,096 wait; the
decoder's answer ends the request it answers, and one that answers none raises source 0x0C5; an unanswered request fails after 100 µs; a rebind request is unanswered after 2 µs; an attempt is abandoned at HOLD_MAX
without an acknowledgement and at its deadline; the clean interval of a copied page ends, and its bit is set again where a
notification fell into it. It rests on the choices of log entries 4, 85 and 86. -/
def Obligations.TransitEvents : Prop :=
  ∀ (s : State) (i : Fin 8), Safety.Live s →
    let b := Safety.bare s
    let w := i.val
    let t := s.tw w
    (∀ page : BitVec 30, t.ph ≠ .idle → t.ph ≠ .failed → page.toNat < t.pages →
      (s.trn.nq.length < 4096 → Sys2Proof.Machine.exec (.dtrNotification i page) s = Safety.ran s
        ((b.tNote w page.toNat).tPump w)) ∧
      (t.ph = .orbit → t.bitOf page.toNat ≠ none →
        b.tNote w page.toNat = b.updTw w (fun t => t.setBit page.toNat true)) ∧
      ((t.ph = .mirror ∨ t.ph = .recall) → t.mirrored = true →
        b.tNote w page.toNat = b.updTw w (fun t => { t with copies := t.copies.map (fun c =>
          if c.page = page.toNat ∧ c.issued = true then { c with conflict := true } else c) })) ∧
      (∀ c, t.ph = .conjunction → t.conj = some c → c.acked = true → c.rebind = none → c.abandoning = false →
        b.tNote w page.toNat = (b.raise 0x0C5 0 0 w).tAbandon w) ∧
      (4096 ≤ s.trn.nq.length → Sys2Proof.Machine.exec (.dtrNotification i page) s = Safety.ran s
        ((b.updTw w (fun t => { t with
          lost := min (2 ^ 32 - 1) (t.lost + 1), fullPass := true,
          copies := if t.mirrored then t.copies.map (fun c => if c.issued then { c with conflict := true } else c)
                    else t.copies })).raise 0x0C0 0 0 w))) ∧
    (∀ (op : BitVec 3) (code : BitVec 2),
      let does := fun (u : State) => Sys2Proof.Machine.exec (.decAnswer i op code) s = Safety.ran s u
      let u := b.updTw w (fun t => { t with dec := none })
      (t.dec = none → does (b.raise 0x0C5 0 0 w)) ∧
      (∀ o at_, t.dec = some (o, at_) →
        (o ≠ op.toNat → does (b.raise 0x0C5 0 0 w)) ∧
        (o = op.toNat → o = 1 → t.ending ≠ none → does ((if code = 0 then u else u.raise 0x0C5 0 0 w).tEnd w)) ∧
        (o = op.toNat → o = 1 → t.ending = none → code = 0 →
          let v := u.updTw w (fun t => { t with ph := .sweep, cursor := 0, openCmd := none })
          (t.openCmd = none → does (v.tPump w)) ∧ (∀ c, t.openCmd = some c → does ((v.endCmd c 0 0 0).tPump w))) ∧
        (o = op.toNat → o = 1 → t.ending = none → code ≠ 0 →
          let v := (u.raise 0x0C5 0 0 w).updTw w (fun t => { t with openCmd := none })
          (t.openCmd = none → does (v.tIdle w t.outcome)) ∧
          (∀ c, t.openCmd = some c → does ((v.endCmd c 0x19 0 0).tIdle w t.outcome))) ∧
        (o = op.toNat → o = 3 → code = 0 →
          does (State.tPump (u.updTw w (fun t => { t with mirrored := true, cursor := 0 })) w)) ∧
        (o = op.toNat → o = 3 → code ≠ 0 → does (b.raise 0x0C5 0 0 w)) ∧
        (o = op.toNat → o ≠ 1 → o ≠ 3 → o ≠ 5 → does ((if code = 0 then u else u.raise 0x0C5 0 0 w).tEnd w)) ∧
        (o = op.toNat → o = 5 → ∀ c, t.conj = some c →
          (code = 0 →
            let v := (u.tRelease w).updTw w (fun t => { t with conj := none, conjoin := none })
            (t.conjoin = none → does (v.tBegin w .close)) ∧
            (∀ q id k, t.conjoin = some (q, id, k) →
              does ((v.endCmd (q, id) 0 0 (BitVec.ofNat 64 (v.tw w).last)).tBegin w .close))) ∧
          (code = 1 →
            does (State.tAbandon (u.updTw w (fun t => { t with conj := some { c with rebind := none } })) w))))) ∧
    (∀ o at_, t.dec = some (o, at_) →
      let does := fun (u : State) => Sys2Proof.Machine.exec (.decAnswerTimeout i) s = Safety.ran s u
      let u := (b.reach (at_ + 100000000)).raise 0x0C5 0 0 w
      let v := u.updTw w (fun t => { t with dec := none })
      (o = 3 → does (u.updTw w (fun t => { t with dec := some (3, u.clk) }))) ∧
      (o = 1 → t.ending ≠ none → does (v.tEnd w)) ∧
      (o = 1 → t.ending = none →
        let x := v.updTw w (fun t => { t with openCmd := none })
        (t.openCmd = none → does (x.tIdle w t.outcome)) ∧ (∀ c, t.openCmd = some c → does ((x.endCmd c 0x19 0 0).tIdle w t.outcome))) ∧
      (o ≠ 1 → o ≠ 3 → o ≠ 5 → does (v.tEnd w))) ∧
    (∀ c, t.conj = some c →
      (∀ t0, c.rebind = some t0 → Sys2Proof.Machine.exec (.rebindAnswerTimeout i) s = Safety.ran s
        (State.raise ((b.reach (t0 + 2000000)).updTw w (fun t => { t with dec := none })) 0x0C6 0 0 w)) ∧
      (c.acked = false → c.abandoning = false → Sys2Proof.Machine.exec (.holdAckTimeout i) s = Safety.ran s
        (((b.reach (c.tH + s.holdMax)).raise 0x0C5 0 0 w).tAbandon w)) ∧
      (c.abandoning = false → c.rebind = none → Sys2Proof.Machine.exec (.conjunctionDeadline i) s = Safety.ran s
        ((b.reach (c.tH + (s.holdMax - s.guardPs))).tAbandon w))) ∧
    (∀ (page : BitVec 30) (c : PCopy) (at_ : Nat), t.copies.find? (fun c => c.page == page.toNat && c.doneAt.isSome) = some c →
      c.doneAt = some at_ →
      let k := Tbl.getD page.toNat 0 t.conflicts + 1
      let ends := fun (f : TWin → TWin) => Sys2Proof.Machine.exec (.cleanIntervalEnd i page) s = Safety.ran s
        (State.tPump ((b.reach (at_ + s.dtrLat)).updTw w (fun t =>
          f { t with copies := t.copies.filter (fun x => x.page != page.toNat) })) w)
      (c.conflict = false → ends id) ∧
      (c.conflict = true → ends (fun t =>
        let v := t.setBit page.toNat true
        { v with conflicts := Tbl.put page.toNat k v.conflicts,
                 deferred := if 4 ≤ k ∧ v.deferred.contains page.toNat = false then v.deferred ++ [page.toNat] else v.deferred })))

/-! ### Engineering Services, faults, metering -/

/-- O54. Events of Engineering Services (R258 to R267): a rewrite whose Hold is unanswered for 2 µs is given up; a
calibration period measures the eight attachments and keeps the extremes of the period; the tick-phase trim moves one
step against the error's sign (log entry 35); a wear plan takes its next step after INTERVAL, and a step opens the
lowest IDLE window. It rests on the choices of log entries 4 and 35. -/
def Obligations.EngineeringEvents : Prop :=
  ∀ s : State,
    let b := Safety.bare s
    (Safety.Live s →
      (∀ (r : Fin 64) (ln t : Nat), (s.scr r.val).rw_ = some (ln, .hold, t) →
        let u := ((b.reach (t + 2000000)).scrRelease r.val).updScr r.val (fun c => { c with rw_ := none })
        Sys2Proof.Machine.exec (.rewriteHoldTimeout r) s = Safety.ran s
          (((u.scrLog r.val 7 ln).raise 0x123 0 0 r.val).scrPump r.val)) ∧
      (∀ t, s.bgs.wear.waiting = some t → s.dataNow = true →
        let x := s.bgs.wear
        let u := b.reach (t + x.interval * 10 ^ 12)
        let v := if x.step + 1 < x.nsteps then u.updWear (fun w => { w with waiting := none, step := x.step + 1 })
                 else if x.loop_ = true then
                   u.updWear (fun w => { w with waiting := none, step := 0, rounds := (x.rounds + 1) % 65536 })
                 else u.updWear (fun w => { w with waiting := none, active := false })
        Sys2Proof.Machine.exec .wearIntervalEnd s = Safety.ran s v.wearFetch) ∧
      (∀ ws i n p, s.bgs.wear.rec_ = some ws → s.bgs.wear.active = true → s.bgs.wear.inStep = false → s.bgs.wear.waiting = none →
        s.dataNow = true → s.isOn domTRN = true → s.isOn domBGS = true →
        (List.range 8).find? (fun i => (s.tw i).ph == .idle) = some i → tParse ws = some (n, p) → p.cls = 3 →
        b.tParamOk p = true →
        let u := b.updWear (fun w => { w with inStep := true, win := i, rec_ := none })
        Sys2Proof.Machine.exec .wearStepStart s = Safety.ran s
          (State.updTw (u.tOpen i p none true) i (fun t => { t with conjoin := some (0x3000, 0, s.bgs.wear.tries) })))) ∧
    (Safety.Live s → fbit s.bgsCtl 0 = true → s.isOn domBGS = true → s.bgs.calOff = false →
      (∀ (f : List Nat) (temps : List Int) (vcore : Nat), temps ≠ [] →
        let u := (List.range 8).foldl (fun s n => s.calXa n (f.getD n 0)) b
        let top := temps.foldl max (temps.headD 0)
        let warn := decide (4 * (fld s.bgsCtl 16 10 : Int) ≤ top)
        let lat := u.bgs.lat.map (fun l => { l with max := l.curMax, samples := l.curN, curMax := 0, curN := 0 })
        let was := decide (4 * (fld s.bgsCtl 16 10 : Int) ≤ s.bgs.temp)
        let hot := (temps.findIdx? (· == top)).getD 0
        let v : State := { u with bgs := { u.bgs with lat := lat, temp := top, hot := hot, vcore := vcore } }
        (warn = false ∨ was = true → Sys2Proof.Machine.exec (.calibrationPeriod f temps vcore) s = Safety.ended s v) ∧
        (warn = true → was = false → Sys2Proof.Machine.exec (.calibrationPeriod f temps vcore) s = Safety.ended s
          (v.raise 0x125 0 0 hot))) ∧
      (∀ n f : Nat, (s.bgs.lat.getD (2 * n) {}).avg ≠ 0 → (s.bgs.lat.getD (2 * n + 1) {}).avg ≠ 0 →
        let est := fun (tags i : Nat) =>
          min (budgetB (min (s.xaFreq n) f) s.T) (tags * (s.T / 1000) / (s.bgs.lat.getD (2 * n + i) {}).avg)
        let low := decide (f * 100 < s.xaFreq n * 99)
        let u : State := { s with bgs := { s.bgs with
          rate := setAt n { rdEst := est 8192 0, wrEst := est 4096 1, fMeas := f, fLow := low } s.bgs.rate } }
        s.calXa n f = if low = true then u.raise 0x124 0 0 n else u) ∧
      (∀ err : Int, s.tt.holdover = false →
        let t : Int := if err > 0 then s.bgs.trim - 1 else s.bgs.trim + 1
        let u : State := { b with bgs := { s.bgs with lastErr := err } }
        (err = 0 → Sys2Proof.Machine.exec (.tickPhaseTrim err) s = Safety.ended s u) ∧
        (err ≠ 0 → -512 ≤ t → t ≤ 511 → Sys2Proof.Machine.exec (.tickPhaseTrim err) s = Safety.ended s
          { u with bgs := { u.bgs with trim := t, updates := (s.bgs.updates + 1) % 2 ^ 32 } }) ∧
        (err ≠ 0 → (t < -512 ∨ 511 < t) → Sys2Proof.Machine.exec (.tickPhaseTrim err) s = Safety.ended s
          (State.raise { u with bgs := { u.bgs with range := true } } 0x126 0 0 0))))

/-- O55. Fault messages (R276, R279 to R282, R285, R290, R295): a message is latched and recorded with the class of
its source; outside SAFE and OFF an Informing one does no more, a Warning one may interrupt, a Containing one fences
its unit too, a Halting or Terminal one enters SAFE; in SAFE a message that is not Terminal is recorded only; a stuck
detector's message is dropped. Without a detector's report the next waiting message is taken. The head of the
collector's queue is sent. It rests on the choices of log entry 36. -/
def Obligations.FaultEvents : Prop :=
  ∀ (s : State) (d : Detection) (m : Msg) (src : Fin 384) (ctx : Nat), s.held = false →
    let b := Safety.bare s
    let takes := fun (u : State) (m : Msg) (i : Instr) =>
      let c := u.applied m
      let l := u.latch m c
      let x := l.logMsg (m.word c)
      let t : State := if u.noLog m.source = true ∧ c < 3 then l else { x with sbx := { x.sbx with fltq := fltPush x.sbx.fltq (m.word c) } }
      let ctl := s.reg 0x20000 0
      let irq := if fbit ctl 11 = true then t.irqDue (some (fld ctl 0 11)) else t
      let does := fun (y : State) => Sys2Proof.Machine.exec i s = Safety.ran s y
      (s.mode ≠ .safe → s.mode ≠ .off →
        (c = 0 → does t) ∧ (c = 1 → does irq) ∧ (c = 2 → does (irq.fence m.source m.ctx)) ∧
        (2 < c → does (Safety.entering t (if hardwired m.source = true then 3 else 0) m.source (c == 4)))) ∧
      ((s.mode = .safe ∨ s.mode = .off) → c < 4 → does t)
    let dm : Msg := { source := d.source, kind := d.kind.toNat, addr := d.addr.toNat, ctx := d.context.toNat, time := s.ns }
    ((s.sbx.stuck ≠ some dm.source ∨ dm.kind = 0x3F) → takes b dm (.faultMessage (some d))) ∧
    (s.sbx.stuck = some dm.source → dm.kind ≠ 0x3F → Sys2Proof.Machine.exec (.faultMessage (some d)) s = Safety.ran s
      { b with sbx := { s.sbx with inj := s.sbx.inj ||| BitVec.ofNat 64 (2 ^ 26) } }) ∧
    (s.nextMsg = some m → s.sbx.stuck = none →
      takes { b with sbx := { s.sbx with inbox := rmMsg m s.sbx.inbox } } m (.faultMessage none)) ∧
    (hardwired src.val = true →
      takes b { source := src.val, ctx := ctx % 65536, time := s.ns } (.selfCheckTrip src ctx)) ∧
    (∀ w rest, s.sbx.fltq = w :: rest → Sys2Proof.Machine.exec .fltMsgTransfer s = Safety.ended s
      { b with sbx := { s.sbx with fltq := rest }, out := [.flt w] })

/-- O56. Metering (R303 to R307, R310, R312 to R316, R397): a received event adds its amount to the pending array, or
is counted as lost and raises source 0x171; a drain adds the array to the counters; an interval ends with its record
and the next begins; a record becomes ready; a good key of 36 bytes is taken while none is held, a second is a tamper
attempt, a bad one or a gap is rejected; 100 ms without the matching key, and a comparison that fails, break the
chain. It rests on the choices of log entries 4, 62 and 63. -/
def Obligations.MeteringEvents : Prop :=
  ∀ s : State, s.held = false →
    let b := Safety.bare s
    let w := s.wbg
    (∀ e rest, s.tap = e :: rest → w.st ≠ 2 → ∀ seen : Option (BitVec 72),
      let x := seen.getD e
      let n := x.toNat
      let q := bits n 0 3
      let k := 8 * bits n 4 8 + q
      let a := bits n 28 36 + (if byteQty q = true then bits n 12 16 * w.ovh else 0)
      let lost : State := { b with tap := rest, wbg := { w with lost := min (2 ^ 32 - 1) (w.lost + 1), tapLost := true, ivTap := true } }
      (tapOk x = true → Sys2Proof.Machine.exec (.tapEvent seen true) s = Safety.ended s
        { b with tap := rest, wbg := { w with pend := Tbl.put k (min (2 ^ 48 - 1) (Tbl.getD k 0 w.pend + a)) w.pend } }) ∧
      (tapOk x = false → Sys2Proof.Machine.exec (.tapEvent seen true) s = Safety.ended s (lost.raise 0x171 0 0 0)) ∧
      Sys2Proof.Machine.exec (.tapEvent seen false) s = Safety.ended s (lost.raise 0x171 0 0 0)) ∧
    (w.st ≠ 2 → Sys2Proof.Machine.exec (.tapDrain none) s = Safety.ended s { b with wbg := { w with
      pend := [], ctr := w.pend.foldl (fun c p => Tbl.put p.1 (min (2 ^ 96 - 1) (Tbl.getD p.1 0 c + p.2)) c) w.ctr } }) ∧
    (∀ t : Fin 256, Sys2Proof.Machine.exec (.tapDrain (some t)) s = Safety.ended s (b.wbgBreak 0x17A t.val)) ∧
    (w.chain = true →
      let last := w.ivStart + w.secs * 1000000000
      let u := b.advance (last * 1000 - w.time)
      let r : WRec := { u.wrec 1 with seq := w.seq + 1, end_ := last }
      let v := u.ivPut r
      Sys2Proof.Machine.exec .intervalEnd s = Safety.ended s { v with wbg := { v.wbg with
        seq := w.seq + 1, n := w.n + 1, ivStart := last, last := some r, ivHold := !w.valid, ivTap := false, ivTick := false } }) ∧
    (w.iv.rec_.isSome = true → Sys2Proof.Machine.exec (.recordReady false) s = Safety.ended s
      { b with wbg := { w with iv := { w.iv with ready := true } } }) ∧
    (w.snap.rec_.isSome = true → Sys2Proof.Machine.exec (.recordReady true) s = Safety.ended s
      { b with wbg := { w with snap := { w.snap with ready := true } } }) ∧
    (∀ bs : List Byte,
      let l := bs.map BitVec.toNat
      let good := l.length = 36 ∧ crc32c 0 (l.take 32) = leNat (l.drop 32)
      let k := leNat (l.take 32)
      let u : State := { b with wbg := { w with keyStat := 1, key := some k } }
      (w.keyStat ≠ 1 → w.keyStat ≠ 3 → good →
        ((w.st ≠ 1 ∨ w.chain = true) → Sys2Proof.Machine.exec (.keyTransfer bs) s = Safety.ended s u) ∧
        (w.st = 1 → w.chain = false → ∀ ovh secs kcv, w.cells = some (ovh, secs, kcv) →
          Sys2Proof.Machine.exec (.keyTransfer bs) s =
            Safety.ended s (if kcv = kcvOf k then u.chainStart else u.wbgBreak 0x17B 0))) ∧
      (w.keyStat ≠ 1 → w.keyStat ≠ 3 → ¬good → Sys2Proof.Machine.exec (.keyTransfer bs) s = Safety.ended s
        { b with wbg := { w with keyStat := 2 } }) ∧
      ((w.keyStat = 1 ∨ w.keyStat = 3) → Sys2Proof.Machine.exec (.keyTransfer bs) s = Safety.ended s
        (State.tamper { b with wbg := { w with keyStat := 3 } } 4 (3, 4, 0)))) ∧
    ((w.keyStat = 0 ∨ w.keyStat = 2) → Sys2Proof.Machine.exec .keyTransferGap s = Safety.ended s
      { b with wbg := { w with keyStat := 2 } }) ∧
    (w.st = 1 → w.chain = false → Sys2Proof.Machine.exec .keyArrivalTimeout s = Safety.ended s
      ((b.reach (w.relAt + 100000000000)).wbgBreak 0x17B 0)) ∧
    (∀ khz, let u : State := { b with pwr := { s.pwr with clkMeas := Tbl.put 12 khz s.pwr.clkMeas } }
      Sys2Proof.Machine.exec (.vltCalibration khz) s =
        Safety.ended s (if khz < 98000 ∨ 102000 < khz then u.raise 0x172 0 0 0 else u))

/-! ### The Peer Link -/

/-- O57. Frames (R356 to R363, R369): a presence frame of another Station is recorded and passed on, one of the
Station's own number with another nonce shows a duplicate; presence lapses after 65,536 ns; a TICK frame gives the
error of the nearest boundary, which a follower slews out or steps; losing the link means Line holdover; bad frames
are counted, NOTIFY frames for others and peer events are passed on, and peer events are sampled. It rests on the
choices of log entries 4, 63 and 96. -/
def Obligations.LineEvents : Prop :=
  ∀ (s : State) (f : BitVec 64), s.held = false → s.peerIn = true →
    let b := Safety.bare s
    let x := s.stn
    let sub := fun (y : Stn) => ({ b with stn := y } : State)
    (frameOk f = true → fType f = 1 →
      let p : Pres := { at_ := s.clk, dist := fHops f + 1, len := fld f 32 3, phase := fld f 35 14, log2l := fld f 49 4,
                        fwdEn := fbit f 53, modeOk := fbit f 54 }
      (fOrigin f ≠ x.id → s.sbx.fpeer = false →
        Sys2Proof.Machine.exec (.presence f) s = Safety.ended s ((sub { x with seen := Tbl.put (fOrigin f) p x.seen }).relay f)) ∧
      (fOrigin f = x.id → fld f 16 16 ≠ x.nonce % 65536 → s.sbx.fpeer = false →
        Sys2Proof.Machine.exec (.presence f) s = Safety.ended s ((sub { x with dup := true }).raise 0x142 0 0 x.id))) ∧
    (∀ (n : Fin 16) p, Tbl.get n.val x.seen = some p →
      Sys2Proof.Machine.exec (.presenceExpiry n) s = Safety.ended s
        ((b.reach (p.at_ + 65536000)).updStn (fun x => { x with seen := Tbl.del n.val x.seen }))) ∧
    (∀ arrival : Nat, frameOk f = true → fType f = 2 → s.sbx.fpeer = false → s.tt.running = true →
      let T : Int := (s.T : Int)
      let up : Int := (arrival : Int) - (fld s.stnCtl 16 16 * 10 : Nat) - (fld f 16 14 * 10 : Nat)
      let d : Int := up - (s.tt.tickStart : Int)
      let k : Int := (2 * d + T) / (2 * T)
      let e := d - k * T
      let own : Int := (s.tt.tickNum : Int) + k
      let off : Int := ((fld f 32 16 : Nat) - own + 32768) % 65536 - 32768
      let y : Stn := { x with lastErr := max (-32768) (min 32767 (e / 10)) }
      let does := fun (u : State) => Sys2Proof.Machine.exec (.tickFrame f arrival) s = Safety.ended s u
      (x.id = 0 → does (if 2000 < e.natAbs then (sub y).raise 0x141 0 0 0 else sub y)) ∧
      (∀ p, x.id ≠ 0 → Tbl.get 0 x.seen = some p → p.len = s.tt.cfgLen → p.phase = s.tt.cfgPhase →
        ((fbit f 30 = false ∨ s.alignEn = false) → does (sub y).lineHoldover) ∧
        (fbit f 30 = true → s.alignEn = true → off = 0 → 4 * (e.natAbs : Int) ≤ T →
          let good := if e.natAbs ≤ 1000 then min 16 (x.good + 1) else 0
          let lose := x.aligned && decide (2000 < e.natAbs)
          let m : Int := min (e.natAbs : Int) 250
          let u := sub { y with holdover := false, quiet := 0, good := good, aligned := !lose && (x.aligned || decide (16 ≤ good)),
                                slew := if e < 0 then -m else m, step := none }
          does (if lose = true then u.raise 0x141 0 0 x.id else u)) ∧
        (fbit f 30 = true → s.alignEn = true → (off ≠ 0 ∨ T < 4 * (e.natAbs : Int)) →
          let c := x.corr + e
          let c1 := if 2 * c > T then c - T else if 2 * c ≤ -T then c + T else c
          let u := sub { y with holdover := false, quiet := 0, good := 0, aligned := false, slew := 0, step := some (c1, up, own + off) }
          does (if x.aligned = true then u.raise 0x141 0 0 x.id else u)))) ∧
    (let u := (sub { x with broken := true }).raise 0x140 0 0 x.id
     let v : State := { u with stn := { u.stn with holdover := true, aligned := false, good := 0, slew := 0, step := none } }
     Sys2Proof.Machine.exec .peerLinkBroken s = Safety.ended s (if x.aligned = true then v.raise 0x141 0 0 x.id else v)) ∧
    (frameOk f = false → Sys2Proof.Machine.exec (.frameDiscard f) s = Safety.ended s
      ((sub { x with crcErrs := min 65535 (x.crcErrs + 1) }).raise 0x144 0 0 x.id)) ∧
    (s.mode ≠ .safe → fHops f < 15 → x.relay.length < 16 → frameOk f = true →
      let on := sub { x with relay := x.relay ++ [mkFrame (fType f) (fOrigin f) (fDest f) (fHops f + 1) (fld f 16 40)] }
      (fType f = 3 → fDest f ≠ x.id → Sys2Proof.Machine.exec (.notifyRelay f) s = Safety.ended s on) ∧
      (fType f = 4 → fOrigin f ≠ x.id → s.peerOpen = true → s.isOn domDSP = true → Sys2Proof.Machine.exec (.peerEvent f) s =
        Safety.ran s ((b.waitEvents 1 (fld f 16 8) (fOrigin f)).eventRelay f)) ∧
      (fType f = 4 → fOrigin f ≠ x.id → (s.peerOpen = false ∨ s.isOn domDSP = false) →
        Sys2Proof.Machine.exec (.peerEvent f) s = Safety.ran s on))

/-- O58. Forwarding (R364 to R367): a forward doorbell reads the two lines of each slot it names that is not being
read; a return doorbell reads the record of each entry it names; an entry without its return in the time limit fails
with FORWARD_FAILED and its slot is quarantined for as long, and is free then. It rests on the choices of log entries
4, 28 and 83. -/
def Obligations.ForwardEvents : Prop :=
  ∀ (s : State) (f : BitVec 64), Safety.Live s →
    let b := Safety.bare s
    let x := s.stn
    (s.notifyIn f 1 = true →
      let o := fOrigin f
      let n := 2 ^ fld s.fwdq 0 4
      let base := fld s.fwdq 12 40 * 4096 + o * n * 128
      let rd := fun (u : State) (slot : Nat) =>
        ((u.updStn (fun x => { x with ins := x.ins ++ [{ o := o, slot := slot }] })).ctl (0xC200 + o) true
          [{ line := (base + slot * 128) / 64, key := 0 }, { line := (base + slot * 128) / 64 + 1, key := 1 }] ⟨.fwdRd, o, slot⟩ none false)
      Sys2Proof.Machine.exec (.forwardDoorbell f) s = Safety.ran s ((List.range (fld f 28 4 + 1)).foldl (fun u i =>
        let slot := (fld f 20 8 + i) % n
        if u.stn.ins.any (fun x => x.o == o && x.slot == slot) = true then u else rd u slot) (b.fwdQueue o))) ∧
    (s.notifyIn f 2 = true →
      let w := fOrigin f
      Sys2Proof.Machine.exec (.returnDoorbell f) s = Safety.ran s ((List.range (fld f 28 4 + 1)).foldl (fun u i =>
        let slot := (fld f 20 8 + i) % 256
        let at_ := fld s.retq 12 40 * 4096 + w * 8192 + slot * 32
        ((x.fwd.find? (fun o => o.w == w && o.slot == slot)).map (fun o =>
          u.ctl o.q true [{ line := at_ / 64, key := slot }] ⟨.retRd, w, o.seq⟩ none false)).getD u) b)) ∧
    (∀ (w : Fin 16) (seq : BitVec 16) (o : FwdOut) (t : Nat), s.fwdOut w.val seq.toNat = some o →
      (o.issued = some t → o.quar = none →
        let u := b.reach (t + s.tlimit)
        let v := (u.updFwd w.val seq.toNat (fun o => { o with quar := some u.clk })).raise 0x143 0 0 o.q
        let info := (((v.queue o.q).ents.find? (fun (e : Ent) => e.uid == o.uid)).map Ent.noCsum).getD 0 + 2
        Sys2Proof.Machine.exec (.forwardTimeLimit w seq) s = Safety.ran s
          ((State.finish (v.updStn (fun x => { x with failed := min 65535 (x.failed + 1) })) o.q o.uid 0x1C info 0 0).pumpQ o.q)) ∧
      (o.quar = some t →
        Sys2Proof.Machine.exec (.forwardSlotQuarantineEnd w seq) s = Safety.ended s
          ((b.reach (t + s.tlimit)).updStn (fun x => { x with
            fwd := x.fwd.filter (fun y => !(y.w == w.val && y.seq == seq.toNat)) }))))

/-! ### Power, resets, clocks -/

/-- O59. Power (R398, R417 to R419): an acknowledged domain is on, reset and idle from now, or off, or retained; a
denied on request is a failed domain, a denied off request leaves it on and is raised again; an on request unanswered
for PWR_TMO_US has failed; an idle Mover beyond MV_MIN, and an idle quadrant, is asked off. It rests on the choices of
log entries 4, 51, 56 and 60. -/
def Obligations.PowerEvents : Prop :=
  ∀ (s : State) (d : Fin 98) (kept : Bool) (t : Nat), s.held = false →
    let b := Safety.bare s
    let p := s.pwr
    let k := d.val
    let num := fun (q : Pwr) => ({ b with pwr := q } : State)
    (Tbl.get k p.wait = some t →
      let dn := { p with lastDeny := k, denies := min (2 ^ 32 - 1) (p.denies + 1) }
      (maskHas p.req k = true → k ≠ domQM →
        let u := num { p with
          wait := Tbl.del k p.wait, up := maskSet p.up k, ret := maskClr p.ret k,
          mvSince := if k < 64 then Tbl.put k s.clk p.mvSince else p.mvSince,
          rqSince := if 72 ≤ k ∧ k < 76 then Tbl.put (k - 72) s.clk p.rqSince else p.rqSince }
        Sys2Proof.Machine.exec (.powerAck d false) s = Safety.ran s (u.domReset k).transRun) ∧
      (maskHas p.req k = false → k ≠ domQM → maskHas p.retReq k = kept →
        let u := num { p with wait := Tbl.del k p.wait, ret := if kept = true then maskSet p.ret k else p.ret }
        Sys2Proof.Machine.exec (.powerAck d kept) s = Safety.ran s u.transRun) ∧
      (maskHas p.req k = true → Sys2Proof.Machine.exec (.powerDeny d) s = Safety.ran s ((num dn).domFail k)) ∧
      (maskHas p.req k = false → Sys2Proof.Machine.exec (.powerDeny d) s = Safety.ran s
        (num { dn with wait := Tbl.del k p.wait, req := maskSet p.req k, up := maskSet p.up k, retReq := maskClr p.retReq k,
                       again := maskSet p.again k,
                       mvSince := if k < 64 then Tbl.put k s.clk p.mvSince else p.mvSince,
                       rqSince := if 72 ≤ k ∧ k < 76 then Tbl.put (k - 72) s.clk p.rqSince else p.rqSince })) ∧
      (let u := b.reach (t + p.tmo * 1000000)
       Sys2Proof.Machine.exec (.powerRequestTimeout d) s = Safety.ran s
         (if maskHas p.req k = true then u.domFail k else u.transRun))) ∧
    Sys2Proof.Machine.exec .offRequestRetry s = Safety.ran s ((List.range 98).foldl (fun u d =>
      let toOff := (u.pwr.trans.map (·.target)) = some 0
      let wanted := toOff ∨ u.mode = .coldInit ∨
        (u.pwr.parked ≠ 0 ∧ ¬(72 ≤ d ∧ d < 76) ∧ ¬(u.pwr.parked = 1 ∧ 64 ≤ d ∧ d < 72)) ∨
        (72 ≤ d ∧ d < 76 ∧ (u.mode = .configure ∨ u.mode = .quiesce)) ∨
        (u.mode = .degraded ∧ ((64 ≤ d ∧ d < 72 ∧ u.xaFenced (d - 64) = true) ∨
                               (76 ≤ d ∧ d < 84 ∧ u.sbx.fbank.testBit (d - 76) = true)))
      if maskHas u.pwr.again d = true ∧ wanted ∧ ((64 ≤ d ∧ ¬(72 ≤ d ∧ d < 76)) ∨ toOff) then
        (u.askOff d (u.pwr.parked == 2 && decide (84 ≤ d) && decide (d < 92))).transRun
      else u) b) ∧
    (∀ m : Fin 64, s.gates_ = true → s.isOn (domMv m.val) = true → s.mvFenced m.val = false → s.moverLoad m.val = 0 →
      s.offWanted m.val = false →
      let on := (List.range 64).filter (fun k => !s.mvFenced k && s.isOn (domMv k))
      let u := b.reach (Tbl.getD m.val s.clk p.mvSince + p.mvIdle * 1000000)
      p.mvMin < on.length →
      (∀ n ∈ on, s.moverLoad n = 0 → m.val < n → u.clk < Tbl.getD n s.clk p.mvSince + p.mvIdle * 1000000) →
      Sys2Proof.Machine.exec (.moverIdle m) s = Safety.ended s (u.askOff (domMv m.val) false)) ∧
    (∀ q : Fin 4, (s.mode = .run ∨ s.mode = .degraded) → s.offWanted (domRq q.val) = false → s.isOn (domRq q.val) = true →
      s.rqFenced q.val = false → (Tbl.vals s.works).all (fun w => w.quad != some q.val) = true →
      Sys2Proof.Machine.exec (.quadrantIdle q) s = Safety.ended s
        ((b.reach (Tbl.getD q.val s.clk p.rqSince + p.rqIdle * 1000000)).askOff (domRq q.val) false))

/-- O60. Resets, start-up, supplies and clocks (R399, R400, R408 to R415, R421, R423): cold reset leaves the reset
state but for the cells, the pins' levels and the time input; its release, with every other cause gone, starts the
block with the STN_ID sampled; COLD_INIT goes from its wait to memory BIST or the Staging clear, and to its end;
supply and clock monitors report, what is found under cold reset at its release. It rests on the choices of log
entries 6, 8, 14, 53, 58, 59 and 99. -/
def Obligations.ResetsAndStartUp : Prop :=
  ∀ s : State,
    let b := Safety.bare s
    let p := s.pwr
    let cold := fun (q : Pwr) => ({ State.reset with
      clk := s.clk, nextId := s.nextId, freeCtr := s.freeCtr,
      tt := { time := s.tt.time, timeValid := s.tt.timeValid, everValid := s.tt.everValid },
      sbx := { forceSafe := s.sbx.forceSafe }, pwr := q, stn := { id := s.stn.id, nonce := s.stn.nonce },
      dct := { nonceCtr := s.dct.nonceCtr, keyCells := s.dct.keyCells },
      wbg := { (s.wbg.cold s.clk) with time := s.wbg.time, valid := s.wbg.valid } } : State)
    let pins : Pwr := { coldLow := p.coldLow, testMode := p.testMode, dark := p.dark, misordered := p.misordered, early := p.early }
    Sys2Proof.Machine.exec .coldReset s = Safety.ended s (cold { pins with coldLow := true }) ∧
    (∀ id : BitVec 4, p.coldLow = true → p.dark = false → p.testMode = false →
      let f := s.freeVal
      let u : State := { f.2 with
        out := [], held := false, pwr := { p with coldLow := false }, stn := { s.stn with id := id.toNat, nonce := f.1 % 2 ^ 16 } }
      Sys2Proof.Machine.exec (.coldResetRelease id) s = Safety.ended s u.coldStart) ∧
    (p.testMode = false →
      let u := cold { pins with testMode := true }
      Sys2Proof.Machine.exec (.dftTestMode true) s = Safety.ended s { u with wbg := { u.wbg with key := none } }) ∧
    (p.testMode = true → p.coldLow = false → p.dark = false →
      let u := State.coldStart { b with held := false, pwr := { p with testMode := false } }
      Sys2Proof.Machine.exec (.dftTestMode false) s = Safety.ended s { u with dct := { u.dct with key := 0, maker := false } }) ∧
    (let u := cold { pins with dark := true, coldLow := true, early := [] }
     Sys2Proof.Machine.exec .aonPowerLoss s = Safety.ended s
       { u with mode := .off, tt := {}, wbg := { u.wbg with time := 0, valid := false } }) ∧
    (∀ mis : Bool, p.coldLow = true → Sys2Proof.Machine.exec (.aonPowerOnRelease mis) s = Safety.ended s
      { b with mode := .coldInit, held := true, pwr := { p with dark := false, misordered := mis } }) ∧
    (s.held = false → s.mode = .coldInit →
      let num := fun (u : State) (q : Pwr) => ({ u with pwr := q } : State)
      ((p.init = 1 ∨ p.init = 2) → Sys2Proof.Machine.exec .dftMbistGo s = Safety.ended s (num b { p with mbistGo := true })) ∧
      (p.init = 2 →
        let u := b.reach (p.initAt + 1000000)
        Sys2Proof.Machine.exec .mbistWaitEnd s =
          Safety.ended s (num u { p with init := if p.mbistGo = true then 3 else 4, initAt := u.clk })) ∧
      (p.init = 3 → ∀ bad : Bool, Sys2Proof.Machine.exec (.mbistDone bad) s = Safety.ended s
        (num b { p with mbistDone := true, mbistFail := bad, mbistGo := false, init := 4, initAt := s.clk })) ∧
      (p.init = 4 → Sys2Proof.Machine.exec .stagingClearDone s = Safety.ended s
        (num (b.reach (p.initAt + 16384 * ceilDiv 1000000 (max 1 p.coreMhz))) { p with init := 5 }))) ∧
    (∀ k : Fin 6, k.val < 5 → p.dark = false → s.held = true →
      Sys2Proof.Machine.exec (.supplyFault k) s = Safety.ended s
        (if (k.val = 2 ∨ k.val = 3) ∧ k.val ∉ p.early then { b with pwr := { p with early := p.early ++ [k.val] } } else b)) ∧
    (s.held = false →
      (∀ k : Fin 6, k.val < 5 → p.dark = false →
        ((s.mode ≠ .off ∨ k.val = 2 ∨ k.val = 3) →
          Sys2Proof.Machine.exec (.supplyFault k) s = Safety.ended s (b.raise (0x160 + k.val) 0 0 0)) ∧
        (s.mode = .off → k.val < 2 → Sys2Proof.Machine.exec (.supplyFault k) s = Safety.ended s
          { b with pwr := { p with supply := setAt k.val 1 p.supply } })) ∧
      (∀ (d : Fin 20) (khz n lo hi : Nat), s.clkArmed d.val = true → s.clkBand d.val = some (n, lo, hi) →
        let good := lo * n ≤ 100 * khz ∧ (hi = 0 ∨ 100 * khz ≤ hi * n)
        let num := fun (q : Pwr) => ({ b with pwr := q } : State)
        let q := { p with clkMeas := Tbl.put d.val khz p.clkMeas }
        (good → Sys2Proof.Machine.exec (.clockMonitorWindow d khz) s = Safety.ran s
          (num { q with clkBad := maskClr p.clkBad d.val })) ∧
        (¬good →
          let u := num { q with clkBad := maskSet p.clkBad d.val }
          Sys2Proof.Machine.exec (.clockMonitorWindow d khz) s =
            Safety.ran s (if maskHas p.clkBad d.val = true then u.clkTrip d.val else u))) ∧
      (∀ d : Fin 20, s.clkArmed d.val = true → Sys2Proof.Machine.exec (.clockAbsent d) s = Safety.ran s
        (State.clkTrip { b with pwr := { p with clkMeas := Tbl.put d.val 0 p.clkMeas } } d.val)))
end

