-- ==== Sys2Proof/Laws/Table.lean ====
section
/-! SUPPORT. What the operations on sparse tables do: reads after writes, and that the keys stay in order. -/

namespace Sys2Proof.Machine

@[simp] theorem Tbl.get_nil {α : Type} (k : Nat) : Tbl.get k ([] : Tbl α) = none := rfl

/-- A read after a write to the same key gives the value written. -/
@[simp] theorem Tbl.get_put_self {α : Type} (k : Nat) (v : α) (t : Tbl α) : Tbl.get k (Tbl.put k v t) = some v := by
  induction t with
  | nil => simp [Tbl.put, Tbl.get]
  | cons p t ih =>
    obtain ⟨j, w⟩ := p
    simp only [Tbl.put]
    split
    · simp [Tbl.get]
    · split
      · simp [Tbl.get]
      · rename_i h; simp only [Tbl.get]; rw [if_neg (by omega)]; exact ih

/-- A write leaves every other key alone. -/
theorem Tbl.get_put_of_ne {α : Type} {i k : Nat} (h : i ≠ k) (v : α) (t : Tbl α) :
    Tbl.get i (Tbl.put k v t) = Tbl.get i t := by
  induction t with
  | nil => simp [Tbl.put, Tbl.get, Ne.symm h]
  | cons p t ih =>
    obtain ⟨j, w⟩ := p
    simp only [Tbl.put]
    split
    · simp [Tbl.get, Ne.symm h]
    · split
      · rename_i h2; subst h2; simp [Tbl.get, Ne.symm h]
      · simp only [Tbl.get]; split <;> simp_all

theorem Tbl.get_put {α : Type} (i k : Nat) (v : α) (t : Tbl α) :
    Tbl.get i (Tbl.put k v t) = if i = k then some v else Tbl.get i t := by
  split
  · rename_i h; subst h; exact Tbl.get_put_self i v t
  · rename_i h; exact Tbl.get_put_of_ne h v t

@[simp] theorem Tbl.getD_put_self {α : Type} (k : Nat) (v d : α) (t : Tbl α) : Tbl.getD k d (Tbl.put k v t) = v := by
  simp [Tbl.getD]

/-- A change of a present entry is read back; every other key is left alone. -/
theorem Tbl.get_upd {α : Type} (i k : Nat) (f : α → α) (t : Tbl α) :
    Tbl.get i (Tbl.upd k f t) = if i = k then (Tbl.get i t).map f else Tbl.get i t := by
  induction t with
  | nil => simp [Tbl.upd, Tbl.get]
  | cons p t ih =>
    obtain ⟨j, w⟩ := p
    simp only [Tbl.upd]
    split
    · rename_i hj
      subst hj
      simp only [Tbl.get]
      split
      · rename_i h; simp [h]
      · rename_i h; rw [if_neg (Ne.symm h)]
    · simp only [Tbl.get]; split <;> simp_all

@[simp] theorem Tbl.has_put_self {α : Type} (k : Nat) (v : α) (t : Tbl α) : Tbl.has k (Tbl.put k v t) = true := by
  simp [Tbl.has]

@[simp] theorem Tbl.has_upd {α : Type} (i k : Nat) (f : α → α) (t : Tbl α) : Tbl.has i (Tbl.upd k f t) = Tbl.has i t := by
  simp only [Tbl.has, Tbl.get_upd]; split <;> simp

/-- A removed key is gone, where the keys are in order; every other key stays. -/
theorem Tbl.get_del_of_ne {α : Type} {i k : Nat} (h : i ≠ k) (t : Tbl α) : Tbl.get i (Tbl.del k t) = Tbl.get i t := by
  induction t with
  | nil => rfl
  | cons p t ih =>
    obtain ⟨j, w⟩ := p
    simp only [Tbl.del]
    split
    · rename_i h2; subst h2; simp [Tbl.get, Ne.symm h]
    · simp only [Tbl.get]; split <;> simp_all

/-- A write keeps the keys in order. -/
theorem Tbl.sorted_put {α : Type} (k : Nat) (v : α) (t : Tbl α) (h : Tbl.sorted t = true) :
    Tbl.sorted (Tbl.put k v t) = true := by
  have key : ∀ (t : Tbl α), Tbl.sorted t = true →
      Tbl.sorted (Tbl.put k v t) = true ∧
      ∀ (j : Nat), (∀ p ∈ t.head?, j < p.1) → j < k → ∀ p ∈ (Tbl.put k v t).head?, j < p.1 := by
    intro t
    induction t with
    | nil => intro _; exact ⟨rfl, by intro j _ hj p hp; simp [Tbl.put] at hp; subst hp; exact hj⟩
    | cons p t ih =>
      intro hs
      obtain ⟨j, w⟩ := p
      have ht : Tbl.sorted t = true := by
        cases t with
        | nil => rfl
        | cons q t => obtain ⟨a, b⟩ := q; simp only [Tbl.sorted, Bool.and_eq_true] at hs; exact hs.2
      have hh : ∀ q ∈ t.head?, j < q.1 := by
        cases t with
        | nil => intro q hq; simp at hq
        | cons q t =>
          obtain ⟨a, b⟩ := q; simp only [Tbl.sorted, Bool.and_eq_true, decide_eq_true_eq] at hs
          intro r hr; simp at hr; subst hr; exact hs.1
      simp only [Tbl.put]
      split
      · rename_i hk
        refine ⟨by simp [Tbl.sorted, hk, hs], ?_⟩
        intro i _ hi r hr; simp at hr; subst hr; exact hi
      · split
        · rename_i hk; subst hk
          refine ⟨?_, ?_⟩
          · cases t with
            | nil => rfl
            | cons q t => obtain ⟨a, b⟩ := q; simpa [Tbl.sorted] using hs
          · intro i _ hik r hr; simp at hr; subst hr; exact hik
        · rename_i h1 h2
          obtain ⟨i1, i2⟩ := ih ht
          refine ⟨?_, ?_⟩
          · have := i2 j hh (by omega)
            cases hp : Tbl.put k v t with
            | nil => rfl
            | cons q u =>
              obtain ⟨a, b⟩ := q
              rw [hp] at i1 this
              simp only [Tbl.sorted, Bool.and_eq_true, decide_eq_true_eq]
              exact ⟨this (a, b) (by simp), i1⟩
          · intro i hi _ r hr; simp at hr; subst hr; exact hi _ (by simp)
  exact (key t h).1

end Sys2Proof.Machine
end

