-- ==== Sys2Proof/Laws/State.lean ====
section
/-! SUPPORT. What the named updates of the state leave alone: for each update, every field it does not write. -/

namespace Sys2Proof.Machine

variable (s : State)

@[simp] theorem State.setReg_frame (off : Nat) (v : Word) :
    (s.setReg off v).pending = s.pending ∧ (s.setReg off v).held = s.held ∧ (s.setReg off v).clk = s.clk ∧
    (s.setReg off v).out = s.out ∧ (s.setReg off v).rsp = s.rsp ∧ (s.setReg off v).mode = s.mode ∧
    (s.setReg off v).tt = s.tt ∧ (s.setReg off v).bursts = s.bursts ∧ (s.setReg off v).granted = s.granted ∧
    (s.setReg off v).txns = s.txns ∧ (s.setReg off v).quar = s.quar ∧ (s.setReg off v).holds = s.holds ∧
    (s.setReg off v).nextId = s.nextId ∧ (s.setReg off v).wins = s.wins ∧ (s.setReg off v).tenants = s.tenants ∧
    (s.setReg off v).queues = s.queues ∧ (s.setReg off v).rings = s.rings ∧ (s.setReg off v).jobs = s.jobs ∧
    (s.setReg off v).works = s.works ∧ (s.setReg off v).ports = s.ports ∧ (s.setReg off v).vecs = s.vecs ∧
    (s.setReg off v).journal = s.journal ∧ (s.setReg off v).tap = s.tap ∧ (s.setReg off v).sbx = s.sbx ∧
    (s.setReg off v).pwr = s.pwr ∧ (s.setReg off v).stn = s.stn ∧ (s.setReg off v).trn = s.trn ∧
    (s.setReg off v).chn = s.chn ∧ (s.setReg off v).bgs = s.bgs ∧ (s.setReg off v).dct = s.dct ∧
    (s.setReg off v).wbg = s.wbg ∧ (s.setReg off v).freeCtr = s.freeCtr :=
  ⟨rfl, rfl, rfl, rfl, rfl, rfl, rfl, rfl, rfl, rfl, rfl, rfl, rfl, rfl, rfl, rfl, rfl, rfl, rfl, rfl, rfl, rfl, rfl, rfl, rfl, rfl, rfl, rfl, rfl, rfl, rfl, rfl⟩

@[simp] theorem State.emit_frame (o : Out) :
    (s.emit o).pending = s.pending ∧ (s.emit o).held = s.held ∧ (s.emit o).clk = s.clk ∧ (s.emit o).rsp = s.rsp ∧
    (s.emit o).cfg = s.cfg ∧ (s.emit o).mode = s.mode ∧ (s.emit o).tt = s.tt ∧ (s.emit o).bursts = s.bursts ∧
    (s.emit o).granted = s.granted ∧ (s.emit o).txns = s.txns ∧ (s.emit o).quar = s.quar ∧ (s.emit o).holds = s.holds ∧
    (s.emit o).nextId = s.nextId ∧ (s.emit o).wins = s.wins ∧ (s.emit o).tenants = s.tenants ∧
    (s.emit o).queues = s.queues ∧ (s.emit o).rings = s.rings ∧ (s.emit o).jobs = s.jobs ∧ (s.emit o).works = s.works ∧
    (s.emit o).ports = s.ports ∧ (s.emit o).vecs = s.vecs ∧ (s.emit o).journal = s.journal ∧ (s.emit o).tap = s.tap ∧
    (s.emit o).sbx = s.sbx ∧ (s.emit o).pwr = s.pwr ∧ (s.emit o).stn = s.stn ∧ (s.emit o).trn = s.trn ∧
    (s.emit o).chn = s.chn ∧ (s.emit o).bgs = s.bgs ∧ (s.emit o).dct = s.dct ∧ (s.emit o).wbg = s.wbg ∧
    (s.emit o).freeCtr = s.freeCtr :=
  ⟨rfl, rfl, rfl, rfl, rfl, rfl, rfl, rfl, rfl, rfl, rfl, rfl, rfl, rfl, rfl, rfl, rfl, rfl, rfl, rfl, rfl, rfl, rfl, rfl, rfl, rfl, rfl, rfl, rfl, rfl, rfl, rfl⟩

@[simp] theorem State.advance_frame (ps : Nat) :
    (s.advance ps).pending = s.pending ∧ (s.advance ps).held = s.held ∧ (s.advance ps).out = s.out ∧
    (s.advance ps).rsp = s.rsp ∧ (s.advance ps).cfg = s.cfg ∧ (s.advance ps).mode = s.mode ∧
    (s.advance ps).bursts = s.bursts ∧ (s.advance ps).granted = s.granted ∧ (s.advance ps).txns = s.txns ∧
    (s.advance ps).quar = s.quar ∧ (s.advance ps).holds = s.holds ∧ (s.advance ps).nextId = s.nextId ∧
    (s.advance ps).wins = s.wins ∧ (s.advance ps).tenants = s.tenants ∧ (s.advance ps).queues = s.queues ∧
    (s.advance ps).rings = s.rings ∧ (s.advance ps).jobs = s.jobs ∧ (s.advance ps).works = s.works ∧
    (s.advance ps).ports = s.ports ∧ (s.advance ps).vecs = s.vecs ∧ (s.advance ps).journal = s.journal ∧
    (s.advance ps).tap = s.tap ∧ (s.advance ps).sbx = s.sbx ∧ (s.advance ps).pwr = s.pwr ∧ (s.advance ps).stn = s.stn ∧
    (s.advance ps).trn = s.trn ∧ (s.advance ps).chn = s.chn ∧ (s.advance ps).bgs = s.bgs ∧ (s.advance ps).dct = s.dct ∧
    (s.advance ps).freeCtr = s.freeCtr :=
  ⟨rfl, rfl, rfl, rfl, rfl, rfl, rfl, rfl, rfl, rfl, rfl, rfl, rfl, rfl, rfl, rfl, rfl, rfl, rfl, rfl, rfl, rfl, rfl, rfl, rfl, rfl, rfl, rfl, rfl, rfl⟩

@[simp] theorem State.reach_frame (at_ : Nat) :
    (s.reach at_).pending = s.pending ∧ (s.reach at_).held = s.held ∧ (s.reach at_).out = s.out ∧
    (s.reach at_).rsp = s.rsp ∧ (s.reach at_).cfg = s.cfg ∧ (s.reach at_).mode = s.mode ∧ (s.reach at_).bursts = s.bursts ∧
    (s.reach at_).granted = s.granted ∧ (s.reach at_).txns = s.txns ∧ (s.reach at_).quar = s.quar ∧
    (s.reach at_).holds = s.holds ∧ (s.reach at_).nextId = s.nextId ∧ (s.reach at_).wins = s.wins ∧
    (s.reach at_).tenants = s.tenants ∧ (s.reach at_).queues = s.queues ∧ (s.reach at_).rings = s.rings ∧
    (s.reach at_).jobs = s.jobs ∧ (s.reach at_).works = s.works ∧ (s.reach at_).ports = s.ports ∧
    (s.reach at_).vecs = s.vecs ∧ (s.reach at_).journal = s.journal ∧ (s.reach at_).tap = s.tap ∧
    (s.reach at_).sbx = s.sbx ∧ (s.reach at_).pwr = s.pwr ∧ (s.reach at_).stn = s.stn ∧ (s.reach at_).trn = s.trn ∧
    (s.reach at_).chn = s.chn ∧ (s.reach at_).bgs = s.bgs ∧ (s.reach at_).dct = s.dct ∧ (s.reach at_).freeCtr = s.freeCtr := by
  simp [State.reach]

@[simp] theorem State.raise_frame (a b c d : Nat) :
    (s.raise a b c d).pending = s.pending ∧ (s.raise a b c d).held = s.held ∧ (s.raise a b c d).clk = s.clk ∧
    (s.raise a b c d).out = s.out ∧ (s.raise a b c d).rsp = s.rsp ∧ (s.raise a b c d).cfg = s.cfg ∧
    (s.raise a b c d).mode = s.mode ∧ (s.raise a b c d).tt = s.tt ∧ (s.raise a b c d).bursts = s.bursts ∧
    (s.raise a b c d).granted = s.granted ∧ (s.raise a b c d).txns = s.txns ∧ (s.raise a b c d).quar = s.quar ∧
    (s.raise a b c d).holds = s.holds ∧ (s.raise a b c d).nextId = s.nextId ∧ (s.raise a b c d).wins = s.wins ∧
    (s.raise a b c d).tenants = s.tenants ∧ (s.raise a b c d).queues = s.queues ∧ (s.raise a b c d).rings = s.rings ∧
    (s.raise a b c d).jobs = s.jobs ∧ (s.raise a b c d).works = s.works ∧ (s.raise a b c d).ports = s.ports ∧
    (s.raise a b c d).vecs = s.vecs ∧ (s.raise a b c d).journal = s.journal ∧ (s.raise a b c d).tap = s.tap ∧
    (s.raise a b c d).pwr = s.pwr ∧ (s.raise a b c d).stn = s.stn ∧ (s.raise a b c d).trn = s.trn ∧
    (s.raise a b c d).chn = s.chn ∧ (s.raise a b c d).bgs = s.bgs ∧ (s.raise a b c d).dct = s.dct ∧
    (s.raise a b c d).wbg = s.wbg ∧ (s.raise a b c d).freeCtr = s.freeCtr :=
  ⟨rfl, rfl, rfl, rfl, rfl, rfl, rfl, rfl, rfl, rfl, rfl, rfl, rfl, rfl, rfl, rfl, rfl, rfl, rfl, rfl, rfl, rfl, rfl, rfl, rfl, rfl, rfl, rfl, rfl, rfl, rfl, rfl⟩

@[simp] theorem State.raise0_frame (a b : Nat) :
    (s.raise0 a b).pending = s.pending ∧ (s.raise0 a b).held = s.held ∧ (s.raise0 a b).clk = s.clk ∧
    (s.raise0 a b).out = s.out ∧ (s.raise0 a b).rsp = s.rsp ∧ (s.raise0 a b).cfg = s.cfg ∧ (s.raise0 a b).mode = s.mode ∧
    (s.raise0 a b).tt = s.tt ∧ (s.raise0 a b).bursts = s.bursts ∧ (s.raise0 a b).granted = s.granted ∧
    (s.raise0 a b).txns = s.txns ∧ (s.raise0 a b).quar = s.quar ∧ (s.raise0 a b).holds = s.holds ∧
    (s.raise0 a b).nextId = s.nextId ∧ (s.raise0 a b).wins = s.wins ∧ (s.raise0 a b).tenants = s.tenants ∧
    (s.raise0 a b).queues = s.queues ∧ (s.raise0 a b).rings = s.rings ∧ (s.raise0 a b).jobs = s.jobs ∧
    (s.raise0 a b).works = s.works ∧ (s.raise0 a b).ports = s.ports ∧ (s.raise0 a b).vecs = s.vecs ∧
    (s.raise0 a b).journal = s.journal ∧ (s.raise0 a b).tap = s.tap ∧ (s.raise0 a b).pwr = s.pwr ∧
    (s.raise0 a b).stn = s.stn ∧ (s.raise0 a b).trn = s.trn ∧ (s.raise0 a b).chn = s.chn ∧ (s.raise0 a b).bgs = s.bgs ∧
    (s.raise0 a b).dct = s.dct ∧ (s.raise0 a b).wbg = s.wbg ∧ (s.raise0 a b).freeCtr = s.freeCtr := by
  simp [State.raise0]

@[simp] theorem State.updQueue_frame (q : Nat) (f : Queue → Queue) :
    (s.updQueue q f).pending = s.pending ∧ (s.updQueue q f).held = s.held ∧ (s.updQueue q f).clk = s.clk ∧
    (s.updQueue q f).out = s.out ∧ (s.updQueue q f).rsp = s.rsp ∧ (s.updQueue q f).cfg = s.cfg ∧
    (s.updQueue q f).mode = s.mode ∧ (s.updQueue q f).tt = s.tt ∧ (s.updQueue q f).bursts = s.bursts ∧
    (s.updQueue q f).granted = s.granted ∧ (s.updQueue q f).txns = s.txns ∧ (s.updQueue q f).quar = s.quar ∧
    (s.updQueue q f).holds = s.holds ∧ (s.updQueue q f).nextId = s.nextId ∧ (s.updQueue q f).wins = s.wins ∧
    (s.updQueue q f).tenants = s.tenants ∧ (s.updQueue q f).rings = s.rings ∧ (s.updQueue q f).jobs = s.jobs ∧
    (s.updQueue q f).works = s.works ∧ (s.updQueue q f).ports = s.ports ∧ (s.updQueue q f).vecs = s.vecs ∧
    (s.updQueue q f).journal = s.journal ∧ (s.updQueue q f).tap = s.tap ∧ (s.updQueue q f).sbx = s.sbx ∧
    (s.updQueue q f).pwr = s.pwr ∧ (s.updQueue q f).stn = s.stn ∧ (s.updQueue q f).trn = s.trn ∧
    (s.updQueue q f).chn = s.chn ∧ (s.updQueue q f).bgs = s.bgs ∧ (s.updQueue q f).dct = s.dct ∧
    (s.updQueue q f).wbg = s.wbg ∧ (s.updQueue q f).freeCtr = s.freeCtr :=
  ⟨rfl, rfl, rfl, rfl, rfl, rfl, rfl, rfl, rfl, rfl, rfl, rfl, rfl, rfl, rfl, rfl, rfl, rfl, rfl, rfl, rfl, rfl, rfl, rfl, rfl, rfl, rfl, rfl, rfl, rfl, rfl, rfl⟩

@[simp] theorem State.updRing_frame (r : Nat) (f : Ring → Ring) :
    (s.updRing r f).pending = s.pending ∧ (s.updRing r f).held = s.held ∧ (s.updRing r f).clk = s.clk ∧
    (s.updRing r f).out = s.out ∧ (s.updRing r f).rsp = s.rsp ∧ (s.updRing r f).cfg = s.cfg ∧
    (s.updRing r f).mode = s.mode ∧ (s.updRing r f).tt = s.tt ∧ (s.updRing r f).bursts = s.bursts ∧
    (s.updRing r f).granted = s.granted ∧ (s.updRing r f).txns = s.txns ∧ (s.updRing r f).quar = s.quar ∧
    (s.updRing r f).holds = s.holds ∧ (s.updRing r f).nextId = s.nextId ∧ (s.updRing r f).wins = s.wins ∧
    (s.updRing r f).tenants = s.tenants ∧ (s.updRing r f).queues = s.queues ∧ (s.updRing r f).jobs = s.jobs ∧
    (s.updRing r f).works = s.works ∧ (s.updRing r f).ports = s.ports ∧ (s.updRing r f).vecs = s.vecs ∧
    (s.updRing r f).journal = s.journal ∧ (s.updRing r f).tap = s.tap ∧ (s.updRing r f).sbx = s.sbx ∧
    (s.updRing r f).pwr = s.pwr ∧ (s.updRing r f).stn = s.stn ∧ (s.updRing r f).trn = s.trn ∧ (s.updRing r f).chn = s.chn ∧
    (s.updRing r f).bgs = s.bgs ∧ (s.updRing r f).dct = s.dct ∧ (s.updRing r f).wbg = s.wbg ∧
    (s.updRing r f).freeCtr = s.freeCtr :=
  ⟨rfl, rfl, rfl, rfl, rfl, rfl, rfl, rfl, rfl, rfl, rfl, rfl, rfl, rfl, rfl, rfl, rfl, rfl, rfl, rfl, rfl, rfl, rfl, rfl, rfl, rfl, rfl, rfl, rfl, rfl, rfl, rfl⟩

@[simp] theorem State.updTenant_frame (t : Nat) (f : Tenant → Tenant) :
    (s.updTenant t f).pending = s.pending ∧ (s.updTenant t f).held = s.held ∧ (s.updTenant t f).clk = s.clk ∧
    (s.updTenant t f).out = s.out ∧ (s.updTenant t f).rsp = s.rsp ∧ (s.updTenant t f).cfg = s.cfg ∧
    (s.updTenant t f).mode = s.mode ∧ (s.updTenant t f).tt = s.tt ∧ (s.updTenant t f).bursts = s.bursts ∧
    (s.updTenant t f).granted = s.granted ∧ (s.updTenant t f).txns = s.txns ∧ (s.updTenant t f).quar = s.quar ∧
    (s.updTenant t f).holds = s.holds ∧ (s.updTenant t f).nextId = s.nextId ∧ (s.updTenant t f).wins = s.wins ∧
    (s.updTenant t f).queues = s.queues ∧ (s.updTenant t f).rings = s.rings ∧ (s.updTenant t f).jobs = s.jobs ∧
    (s.updTenant t f).works = s.works ∧ (s.updTenant t f).ports = s.ports ∧ (s.updTenant t f).vecs = s.vecs ∧
    (s.updTenant t f).journal = s.journal ∧ (s.updTenant t f).tap = s.tap ∧ (s.updTenant t f).sbx = s.sbx ∧
    (s.updTenant t f).pwr = s.pwr ∧ (s.updTenant t f).stn = s.stn ∧ (s.updTenant t f).trn = s.trn ∧
    (s.updTenant t f).chn = s.chn ∧ (s.updTenant t f).bgs = s.bgs ∧ (s.updTenant t f).dct = s.dct ∧
    (s.updTenant t f).wbg = s.wbg ∧ (s.updTenant t f).freeCtr = s.freeCtr :=
  ⟨rfl, rfl, rfl, rfl, rfl, rfl, rfl, rfl, rfl, rfl, rfl, rfl, rfl, rfl, rfl, rfl, rfl, rfl, rfl, rfl, rfl, rfl, rfl, rfl, rfl, rfl, rfl, rfl, rfl, rfl, rfl, rfl⟩

@[simp] theorem State.updJob_frame (u : Nat) (f : Job → Job) :
    (s.updJob u f).pending = s.pending ∧ (s.updJob u f).held = s.held ∧ (s.updJob u f).clk = s.clk ∧
    (s.updJob u f).out = s.out ∧ (s.updJob u f).rsp = s.rsp ∧ (s.updJob u f).cfg = s.cfg ∧ (s.updJob u f).mode = s.mode ∧
    (s.updJob u f).tt = s.tt ∧ (s.updJob u f).bursts = s.bursts ∧ (s.updJob u f).granted = s.granted ∧
    (s.updJob u f).txns = s.txns ∧ (s.updJob u f).quar = s.quar ∧ (s.updJob u f).holds = s.holds ∧
    (s.updJob u f).nextId = s.nextId ∧ (s.updJob u f).wins = s.wins ∧ (s.updJob u f).tenants = s.tenants ∧
    (s.updJob u f).queues = s.queues ∧ (s.updJob u f).rings = s.rings ∧ (s.updJob u f).works = s.works ∧
    (s.updJob u f).ports = s.ports ∧ (s.updJob u f).vecs = s.vecs ∧ (s.updJob u f).journal = s.journal ∧
    (s.updJob u f).tap = s.tap ∧ (s.updJob u f).sbx = s.sbx ∧ (s.updJob u f).pwr = s.pwr ∧ (s.updJob u f).stn = s.stn ∧
    (s.updJob u f).trn = s.trn ∧ (s.updJob u f).chn = s.chn ∧ (s.updJob u f).bgs = s.bgs ∧ (s.updJob u f).dct = s.dct ∧
    (s.updJob u f).wbg = s.wbg ∧ (s.updJob u f).freeCtr = s.freeCtr :=
  ⟨rfl, rfl, rfl, rfl, rfl, rfl, rfl, rfl, rfl, rfl, rfl, rfl, rfl, rfl, rfl, rfl, rfl, rfl, rfl, rfl, rfl, rfl, rfl, rfl, rfl, rfl, rfl, rfl, rfl, rfl, rfl, rfl⟩

@[simp] theorem State.updWork_frame (w : Nat) (f : Work → Work) :
    (s.updWork w f).pending = s.pending ∧ (s.updWork w f).held = s.held ∧ (s.updWork w f).clk = s.clk ∧
    (s.updWork w f).out = s.out ∧ (s.updWork w f).rsp = s.rsp ∧ (s.updWork w f).cfg = s.cfg ∧
    (s.updWork w f).mode = s.mode ∧ (s.updWork w f).tt = s.tt ∧ (s.updWork w f).bursts = s.bursts ∧
    (s.updWork w f).granted = s.granted ∧ (s.updWork w f).txns = s.txns ∧ (s.updWork w f).quar = s.quar ∧
    (s.updWork w f).holds = s.holds ∧ (s.updWork w f).nextId = s.nextId ∧ (s.updWork w f).wins = s.wins ∧
    (s.updWork w f).tenants = s.tenants ∧ (s.updWork w f).queues = s.queues ∧ (s.updWork w f).rings = s.rings ∧
    (s.updWork w f).jobs = s.jobs ∧ (s.updWork w f).ports = s.ports ∧ (s.updWork w f).vecs = s.vecs ∧
    (s.updWork w f).journal = s.journal ∧ (s.updWork w f).tap = s.tap ∧ (s.updWork w f).sbx = s.sbx ∧
    (s.updWork w f).pwr = s.pwr ∧ (s.updWork w f).stn = s.stn ∧ (s.updWork w f).trn = s.trn ∧ (s.updWork w f).chn = s.chn ∧
    (s.updWork w f).bgs = s.bgs ∧ (s.updWork w f).dct = s.dct ∧ (s.updWork w f).wbg = s.wbg ∧
    (s.updWork w f).freeCtr = s.freeCtr :=
  ⟨rfl, rfl, rfl, rfl, rfl, rfl, rfl, rfl, rfl, rfl, rfl, rfl, rfl, rfl, rfl, rfl, rfl, rfl, rfl, rfl, rfl, rfl, rfl, rfl, rfl, rfl, rfl, rfl, rfl, rfl, rfl, rfl⟩

@[simp] theorem State.updVec_frame (v : Nat) (f : Vec → Vec) :
    (s.updVec v f).pending = s.pending ∧ (s.updVec v f).held = s.held ∧ (s.updVec v f).clk = s.clk ∧
    (s.updVec v f).out = s.out ∧ (s.updVec v f).rsp = s.rsp ∧ (s.updVec v f).cfg = s.cfg ∧ (s.updVec v f).mode = s.mode ∧
    (s.updVec v f).tt = s.tt ∧ (s.updVec v f).bursts = s.bursts ∧ (s.updVec v f).granted = s.granted ∧
    (s.updVec v f).txns = s.txns ∧ (s.updVec v f).quar = s.quar ∧ (s.updVec v f).holds = s.holds ∧
    (s.updVec v f).nextId = s.nextId ∧ (s.updVec v f).wins = s.wins ∧ (s.updVec v f).tenants = s.tenants ∧
    (s.updVec v f).queues = s.queues ∧ (s.updVec v f).rings = s.rings ∧ (s.updVec v f).jobs = s.jobs ∧
    (s.updVec v f).works = s.works ∧ (s.updVec v f).ports = s.ports ∧ (s.updVec v f).journal = s.journal ∧
    (s.updVec v f).tap = s.tap ∧ (s.updVec v f).sbx = s.sbx ∧ (s.updVec v f).pwr = s.pwr ∧ (s.updVec v f).stn = s.stn ∧
    (s.updVec v f).trn = s.trn ∧ (s.updVec v f).chn = s.chn ∧ (s.updVec v f).bgs = s.bgs ∧ (s.updVec v f).dct = s.dct ∧
    (s.updVec v f).wbg = s.wbg ∧ (s.updVec v f).freeCtr = s.freeCtr :=
  ⟨rfl, rfl, rfl, rfl, rfl, rfl, rfl, rfl, rfl, rfl, rfl, rfl, rfl, rfl, rfl, rfl, rfl, rfl, rfl, rfl, rfl, rfl, rfl, rfl, rfl, rfl, rfl, rfl, rfl, rfl, rfl, rfl⟩

@[simp] theorem State.updChan_frame (c : Nat) (f : Chan → Chan) :
    (s.updChan c f).pending = s.pending ∧ (s.updChan c f).held = s.held ∧ (s.updChan c f).clk = s.clk ∧
    (s.updChan c f).out = s.out ∧ (s.updChan c f).rsp = s.rsp ∧ (s.updChan c f).cfg = s.cfg ∧
    (s.updChan c f).mode = s.mode ∧ (s.updChan c f).tt = s.tt ∧ (s.updChan c f).bursts = s.bursts ∧
    (s.updChan c f).granted = s.granted ∧ (s.updChan c f).txns = s.txns ∧ (s.updChan c f).quar = s.quar ∧
    (s.updChan c f).holds = s.holds ∧ (s.updChan c f).nextId = s.nextId ∧ (s.updChan c f).wins = s.wins ∧
    (s.updChan c f).tenants = s.tenants ∧ (s.updChan c f).queues = s.queues ∧ (s.updChan c f).rings = s.rings ∧
    (s.updChan c f).jobs = s.jobs ∧ (s.updChan c f).works = s.works ∧ (s.updChan c f).ports = s.ports ∧
    (s.updChan c f).vecs = s.vecs ∧ (s.updChan c f).journal = s.journal ∧ (s.updChan c f).tap = s.tap ∧
    (s.updChan c f).sbx = s.sbx ∧ (s.updChan c f).pwr = s.pwr ∧ (s.updChan c f).stn = s.stn ∧ (s.updChan c f).trn = s.trn ∧
    (s.updChan c f).bgs = s.bgs ∧ (s.updChan c f).dct = s.dct ∧ (s.updChan c f).wbg = s.wbg ∧
    (s.updChan c f).freeCtr = s.freeCtr :=
  ⟨rfl, rfl, rfl, rfl, rfl, rfl, rfl, rfl, rfl, rfl, rfl, rfl, rfl, rfl, rfl, rfl, rfl, rfl, rfl, rfl, rfl, rfl, rfl, rfl, rfl, rfl, rfl, rfl, rfl, rfl, rfl, rfl⟩

@[simp] theorem State.updTw_frame (w : Nat) (f : TWin → TWin) :
    (s.updTw w f).pending = s.pending ∧ (s.updTw w f).held = s.held ∧ (s.updTw w f).clk = s.clk ∧
    (s.updTw w f).out = s.out ∧ (s.updTw w f).rsp = s.rsp ∧ (s.updTw w f).cfg = s.cfg ∧ (s.updTw w f).mode = s.mode ∧
    (s.updTw w f).tt = s.tt ∧ (s.updTw w f).bursts = s.bursts ∧ (s.updTw w f).granted = s.granted ∧
    (s.updTw w f).txns = s.txns ∧ (s.updTw w f).quar = s.quar ∧ (s.updTw w f).holds = s.holds ∧
    (s.updTw w f).nextId = s.nextId ∧ (s.updTw w f).wins = s.wins ∧ (s.updTw w f).tenants = s.tenants ∧
    (s.updTw w f).queues = s.queues ∧ (s.updTw w f).rings = s.rings ∧ (s.updTw w f).jobs = s.jobs ∧
    (s.updTw w f).works = s.works ∧ (s.updTw w f).ports = s.ports ∧ (s.updTw w f).vecs = s.vecs ∧
    (s.updTw w f).journal = s.journal ∧ (s.updTw w f).tap = s.tap ∧ (s.updTw w f).sbx = s.sbx ∧ (s.updTw w f).pwr = s.pwr ∧
    (s.updTw w f).stn = s.stn ∧ (s.updTw w f).chn = s.chn ∧ (s.updTw w f).bgs = s.bgs ∧ (s.updTw w f).dct = s.dct ∧
    (s.updTw w f).wbg = s.wbg ∧ (s.updTw w f).freeCtr = s.freeCtr :=
  ⟨rfl, rfl, rfl, rfl, rfl, rfl, rfl, rfl, rfl, rfl, rfl, rfl, rfl, rfl, rfl, rfl, rfl, rfl, rfl, rfl, rfl, rfl, rfl, rfl, rfl, rfl, rfl, rfl, rfl, rfl, rfl, rfl⟩

@[simp] theorem State.updScr_frame (r : Nat) (f : Scrub → Scrub) :
    (s.updScr r f).pending = s.pending ∧ (s.updScr r f).held = s.held ∧ (s.updScr r f).clk = s.clk ∧
    (s.updScr r f).out = s.out ∧ (s.updScr r f).rsp = s.rsp ∧ (s.updScr r f).cfg = s.cfg ∧ (s.updScr r f).mode = s.mode ∧
    (s.updScr r f).tt = s.tt ∧ (s.updScr r f).bursts = s.bursts ∧ (s.updScr r f).granted = s.granted ∧
    (s.updScr r f).txns = s.txns ∧ (s.updScr r f).quar = s.quar ∧ (s.updScr r f).holds = s.holds ∧
    (s.updScr r f).nextId = s.nextId ∧ (s.updScr r f).wins = s.wins ∧ (s.updScr r f).tenants = s.tenants ∧
    (s.updScr r f).queues = s.queues ∧ (s.updScr r f).rings = s.rings ∧ (s.updScr r f).jobs = s.jobs ∧
    (s.updScr r f).works = s.works ∧ (s.updScr r f).ports = s.ports ∧ (s.updScr r f).vecs = s.vecs ∧
    (s.updScr r f).journal = s.journal ∧ (s.updScr r f).tap = s.tap ∧ (s.updScr r f).sbx = s.sbx ∧
    (s.updScr r f).pwr = s.pwr ∧ (s.updScr r f).stn = s.stn ∧ (s.updScr r f).trn = s.trn ∧ (s.updScr r f).chn = s.chn ∧
    (s.updScr r f).dct = s.dct ∧ (s.updScr r f).wbg = s.wbg ∧ (s.updScr r f).freeCtr = s.freeCtr :=
  ⟨rfl, rfl, rfl, rfl, rfl, rfl, rfl, rfl, rfl, rfl, rfl, rfl, rfl, rfl, rfl, rfl, rfl, rfl, rfl, rfl, rfl, rfl, rfl, rfl, rfl, rfl, rfl, rfl, rfl, rfl, rfl, rfl⟩

@[simp] theorem State.updTel_frame (g : Nat) (f : Tel → Tel) :
    (s.updTel g f).pending = s.pending ∧ (s.updTel g f).held = s.held ∧ (s.updTel g f).clk = s.clk ∧
    (s.updTel g f).out = s.out ∧ (s.updTel g f).rsp = s.rsp ∧ (s.updTel g f).cfg = s.cfg ∧ (s.updTel g f).mode = s.mode ∧
    (s.updTel g f).tt = s.tt ∧ (s.updTel g f).bursts = s.bursts ∧ (s.updTel g f).granted = s.granted ∧
    (s.updTel g f).txns = s.txns ∧ (s.updTel g f).quar = s.quar ∧ (s.updTel g f).holds = s.holds ∧
    (s.updTel g f).nextId = s.nextId ∧ (s.updTel g f).wins = s.wins ∧ (s.updTel g f).tenants = s.tenants ∧
    (s.updTel g f).queues = s.queues ∧ (s.updTel g f).rings = s.rings ∧ (s.updTel g f).jobs = s.jobs ∧
    (s.updTel g f).works = s.works ∧ (s.updTel g f).ports = s.ports ∧ (s.updTel g f).vecs = s.vecs ∧
    (s.updTel g f).journal = s.journal ∧ (s.updTel g f).tap = s.tap ∧ (s.updTel g f).sbx = s.sbx ∧
    (s.updTel g f).pwr = s.pwr ∧ (s.updTel g f).stn = s.stn ∧ (s.updTel g f).trn = s.trn ∧ (s.updTel g f).chn = s.chn ∧
    (s.updTel g f).dct = s.dct ∧ (s.updTel g f).wbg = s.wbg ∧ (s.updTel g f).freeCtr = s.freeCtr :=
  ⟨rfl, rfl, rfl, rfl, rfl, rfl, rfl, rfl, rfl, rfl, rfl, rfl, rfl, rfl, rfl, rfl, rfl, rfl, rfl, rfl, rfl, rfl, rfl, rfl, rfl, rfl, rfl, rfl, rfl, rfl, rfl, rfl⟩

@[simp] theorem State.updWear_frame (f : Wear → Wear) :
    (s.updWear f).pending = s.pending ∧ (s.updWear f).held = s.held ∧ (s.updWear f).clk = s.clk ∧
    (s.updWear f).out = s.out ∧ (s.updWear f).rsp = s.rsp ∧ (s.updWear f).cfg = s.cfg ∧ (s.updWear f).mode = s.mode ∧
    (s.updWear f).tt = s.tt ∧ (s.updWear f).bursts = s.bursts ∧ (s.updWear f).granted = s.granted ∧
    (s.updWear f).txns = s.txns ∧ (s.updWear f).quar = s.quar ∧ (s.updWear f).holds = s.holds ∧
    (s.updWear f).nextId = s.nextId ∧ (s.updWear f).wins = s.wins ∧ (s.updWear f).tenants = s.tenants ∧
    (s.updWear f).queues = s.queues ∧ (s.updWear f).rings = s.rings ∧ (s.updWear f).jobs = s.jobs ∧
    (s.updWear f).works = s.works ∧ (s.updWear f).ports = s.ports ∧ (s.updWear f).vecs = s.vecs ∧
    (s.updWear f).journal = s.journal ∧ (s.updWear f).tap = s.tap ∧ (s.updWear f).sbx = s.sbx ∧ (s.updWear f).pwr = s.pwr ∧
    (s.updWear f).stn = s.stn ∧ (s.updWear f).trn = s.trn ∧ (s.updWear f).chn = s.chn ∧ (s.updWear f).dct = s.dct ∧
    (s.updWear f).wbg = s.wbg ∧ (s.updWear f).freeCtr = s.freeCtr :=
  ⟨rfl, rfl, rfl, rfl, rfl, rfl, rfl, rfl, rfl, rfl, rfl, rfl, rfl, rfl, rfl, rfl, rfl, rfl, rfl, rfl, rfl, rfl, rfl, rfl, rfl, rfl, rfl, rfl, rfl, rfl, rfl, rfl⟩

@[simp] theorem State.updWbg_frame (f : Wbg → Wbg) :
    (s.updWbg f).pending = s.pending ∧ (s.updWbg f).held = s.held ∧ (s.updWbg f).clk = s.clk ∧ (s.updWbg f).out = s.out ∧
    (s.updWbg f).rsp = s.rsp ∧ (s.updWbg f).cfg = s.cfg ∧ (s.updWbg f).mode = s.mode ∧ (s.updWbg f).tt = s.tt ∧
    (s.updWbg f).bursts = s.bursts ∧ (s.updWbg f).granted = s.granted ∧ (s.updWbg f).txns = s.txns ∧
    (s.updWbg f).quar = s.quar ∧ (s.updWbg f).holds = s.holds ∧ (s.updWbg f).nextId = s.nextId ∧
    (s.updWbg f).wins = s.wins ∧ (s.updWbg f).tenants = s.tenants ∧ (s.updWbg f).queues = s.queues ∧
    (s.updWbg f).rings = s.rings ∧ (s.updWbg f).jobs = s.jobs ∧ (s.updWbg f).works = s.works ∧
    (s.updWbg f).ports = s.ports ∧ (s.updWbg f).vecs = s.vecs ∧ (s.updWbg f).journal = s.journal ∧
    (s.updWbg f).tap = s.tap ∧ (s.updWbg f).sbx = s.sbx ∧ (s.updWbg f).pwr = s.pwr ∧ (s.updWbg f).stn = s.stn ∧
    (s.updWbg f).trn = s.trn ∧ (s.updWbg f).chn = s.chn ∧ (s.updWbg f).bgs = s.bgs ∧ (s.updWbg f).dct = s.dct ∧
    (s.updWbg f).freeCtr = s.freeCtr :=
  ⟨rfl, rfl, rfl, rfl, rfl, rfl, rfl, rfl, rfl, rfl, rfl, rfl, rfl, rfl, rfl, rfl, rfl, rfl, rfl, rfl, rfl, rfl, rfl, rfl, rfl, rfl, rfl, rfl, rfl, rfl, rfl, rfl⟩

@[simp] theorem State.updStn_frame (f : Stn → Stn) :
    (s.updStn f).pending = s.pending ∧ (s.updStn f).held = s.held ∧ (s.updStn f).clk = s.clk ∧ (s.updStn f).out = s.out ∧
    (s.updStn f).rsp = s.rsp ∧ (s.updStn f).cfg = s.cfg ∧ (s.updStn f).mode = s.mode ∧ (s.updStn f).tt = s.tt ∧
    (s.updStn f).bursts = s.bursts ∧ (s.updStn f).granted = s.granted ∧ (s.updStn f).txns = s.txns ∧
    (s.updStn f).quar = s.quar ∧ (s.updStn f).holds = s.holds ∧ (s.updStn f).nextId = s.nextId ∧
    (s.updStn f).wins = s.wins ∧ (s.updStn f).tenants = s.tenants ∧ (s.updStn f).queues = s.queues ∧
    (s.updStn f).rings = s.rings ∧ (s.updStn f).jobs = s.jobs ∧ (s.updStn f).works = s.works ∧
    (s.updStn f).ports = s.ports ∧ (s.updStn f).vecs = s.vecs ∧ (s.updStn f).journal = s.journal ∧
    (s.updStn f).tap = s.tap ∧ (s.updStn f).sbx = s.sbx ∧ (s.updStn f).pwr = s.pwr ∧ (s.updStn f).trn = s.trn ∧
    (s.updStn f).chn = s.chn ∧ (s.updStn f).bgs = s.bgs ∧ (s.updStn f).dct = s.dct ∧ (s.updStn f).wbg = s.wbg ∧
    (s.updStn f).freeCtr = s.freeCtr :=
  ⟨rfl, rfl, rfl, rfl, rfl, rfl, rfl, rfl, rfl, rfl, rfl, rfl, rfl, rfl, rfl, rfl, rfl, rfl, rfl, rfl, rfl, rfl, rfl, rfl, rfl, rfl, rfl, rfl, rfl, rfl, rfl, rfl⟩

@[simp] theorem State.updGate_frame (c : Nat) (f : Gate → Gate) :
    (s.updGate c f).pending = s.pending ∧ (s.updGate c f).held = s.held ∧ (s.updGate c f).clk = s.clk ∧
    (s.updGate c f).out = s.out ∧ (s.updGate c f).rsp = s.rsp ∧ (s.updGate c f).cfg = s.cfg ∧
    (s.updGate c f).mode = s.mode ∧ (s.updGate c f).bursts = s.bursts ∧ (s.updGate c f).granted = s.granted ∧
    (s.updGate c f).txns = s.txns ∧ (s.updGate c f).quar = s.quar ∧ (s.updGate c f).holds = s.holds ∧
    (s.updGate c f).nextId = s.nextId ∧ (s.updGate c f).wins = s.wins ∧ (s.updGate c f).tenants = s.tenants ∧
    (s.updGate c f).queues = s.queues ∧ (s.updGate c f).rings = s.rings ∧ (s.updGate c f).jobs = s.jobs ∧
    (s.updGate c f).works = s.works ∧ (s.updGate c f).ports = s.ports ∧ (s.updGate c f).vecs = s.vecs ∧
    (s.updGate c f).journal = s.journal ∧ (s.updGate c f).tap = s.tap ∧ (s.updGate c f).sbx = s.sbx ∧
    (s.updGate c f).pwr = s.pwr ∧ (s.updGate c f).stn = s.stn ∧ (s.updGate c f).trn = s.trn ∧ (s.updGate c f).chn = s.chn ∧
    (s.updGate c f).bgs = s.bgs ∧ (s.updGate c f).dct = s.dct ∧ (s.updGate c f).wbg = s.wbg ∧
    (s.updGate c f).freeCtr = s.freeCtr :=
  ⟨rfl, rfl, rfl, rfl, rfl, rfl, rfl, rfl, rfl, rfl, rfl, rfl, rfl, rfl, rfl, rfl, rfl, rfl, rfl, rfl, rfl, rfl, rfl, rfl, rfl, rfl, rfl, rfl, rfl, rfl, rfl, rfl⟩

@[simp] theorem State.setLimiter_frame (i : Nat) (l : Limiter) :
    (s.setLimiter i l).pending = s.pending ∧ (s.setLimiter i l).held = s.held ∧ (s.setLimiter i l).clk = s.clk ∧
    (s.setLimiter i l).out = s.out ∧ (s.setLimiter i l).rsp = s.rsp ∧ (s.setLimiter i l).cfg = s.cfg ∧
    (s.setLimiter i l).mode = s.mode ∧ (s.setLimiter i l).bursts = s.bursts ∧ (s.setLimiter i l).granted = s.granted ∧
    (s.setLimiter i l).txns = s.txns ∧ (s.setLimiter i l).quar = s.quar ∧ (s.setLimiter i l).holds = s.holds ∧
    (s.setLimiter i l).nextId = s.nextId ∧ (s.setLimiter i l).wins = s.wins ∧ (s.setLimiter i l).tenants = s.tenants ∧
    (s.setLimiter i l).queues = s.queues ∧ (s.setLimiter i l).rings = s.rings ∧ (s.setLimiter i l).jobs = s.jobs ∧
    (s.setLimiter i l).works = s.works ∧ (s.setLimiter i l).ports = s.ports ∧ (s.setLimiter i l).vecs = s.vecs ∧
    (s.setLimiter i l).journal = s.journal ∧ (s.setLimiter i l).tap = s.tap ∧ (s.setLimiter i l).sbx = s.sbx ∧
    (s.setLimiter i l).pwr = s.pwr ∧ (s.setLimiter i l).stn = s.stn ∧ (s.setLimiter i l).trn = s.trn ∧
    (s.setLimiter i l).chn = s.chn ∧ (s.setLimiter i l).bgs = s.bgs ∧ (s.setLimiter i l).dct = s.dct ∧
    (s.setLimiter i l).wbg = s.wbg ∧ (s.setLimiter i l).freeCtr = s.freeCtr :=
  ⟨rfl, rfl, rfl, rfl, rfl, rfl, rfl, rfl, rfl, rfl, rfl, rfl, rfl, rfl, rfl, rfl, rfl, rfl, rfl, rfl, rfl, rfl, rfl, rfl, rfl, rfl, rfl, rfl, rfl, rfl, rfl, rfl⟩

@[simp] theorem State.meter_frame (a b c d : Nat) :
    (s.meter a b c d).pending = s.pending ∧ (s.meter a b c d).held = s.held ∧ (s.meter a b c d).clk = s.clk ∧
    (s.meter a b c d).out = s.out ∧ (s.meter a b c d).rsp = s.rsp ∧ (s.meter a b c d).cfg = s.cfg ∧
    (s.meter a b c d).mode = s.mode ∧ (s.meter a b c d).tt = s.tt ∧ (s.meter a b c d).bursts = s.bursts ∧
    (s.meter a b c d).granted = s.granted ∧ (s.meter a b c d).txns = s.txns ∧ (s.meter a b c d).quar = s.quar ∧
    (s.meter a b c d).holds = s.holds ∧ (s.meter a b c d).nextId = s.nextId ∧ (s.meter a b c d).wins = s.wins ∧
    (s.meter a b c d).tenants = s.tenants ∧ (s.meter a b c d).queues = s.queues ∧ (s.meter a b c d).rings = s.rings ∧
    (s.meter a b c d).jobs = s.jobs ∧ (s.meter a b c d).works = s.works ∧ (s.meter a b c d).ports = s.ports ∧
    (s.meter a b c d).vecs = s.vecs ∧ (s.meter a b c d).journal = s.journal ∧ (s.meter a b c d).sbx = s.sbx ∧
    (s.meter a b c d).pwr = s.pwr ∧ (s.meter a b c d).stn = s.stn ∧ (s.meter a b c d).trn = s.trn ∧
    (s.meter a b c d).chn = s.chn ∧ (s.meter a b c d).bgs = s.bgs ∧ (s.meter a b c d).dct = s.dct ∧
    (s.meter a b c d).wbg = s.wbg ∧ (s.meter a b c d).freeCtr = s.freeCtr :=
  ⟨rfl, rfl, rfl, rfl, rfl, rfl, rfl, rfl, rfl, rfl, rfl, rfl, rfl, rfl, rfl, rfl, rfl, rfl, rfl, rfl, rfl, rfl, rfl, rfl, rfl, rfl, rfl, rfl, rfl, rfl, rfl, rfl⟩

@[simp] theorem State.present_frame (b : Burst) :
    (s.present b).pending = s.pending ∧ (s.present b).held = s.held ∧ (s.present b).clk = s.clk ∧
    (s.present b).out = s.out ∧ (s.present b).rsp = s.rsp ∧ (s.present b).cfg = s.cfg ∧ (s.present b).mode = s.mode ∧
    (s.present b).tt = s.tt ∧ (s.present b).granted = s.granted ∧ (s.present b).txns = s.txns ∧
    (s.present b).quar = s.quar ∧ (s.present b).holds = s.holds ∧ (s.present b).wins = s.wins ∧
    (s.present b).tenants = s.tenants ∧ (s.present b).queues = s.queues ∧ (s.present b).rings = s.rings ∧
    (s.present b).jobs = s.jobs ∧ (s.present b).works = s.works ∧ (s.present b).ports = s.ports ∧
    (s.present b).vecs = s.vecs ∧ (s.present b).journal = s.journal ∧ (s.present b).tap = s.tap ∧
    (s.present b).sbx = s.sbx ∧ (s.present b).pwr = s.pwr ∧ (s.present b).stn = s.stn ∧ (s.present b).trn = s.trn ∧
    (s.present b).chn = s.chn ∧ (s.present b).bgs = s.bgs ∧ (s.present b).dct = s.dct ∧ (s.present b).wbg = s.wbg ∧
    (s.present b).freeCtr = s.freeCtr :=
  ⟨rfl, rfl, rfl, rfl, rfl, rfl, rfl, rfl, rfl, rfl, rfl, rfl, rfl, rfl, rfl, rfl, rfl, rfl, rfl, rfl, rfl, rfl, rfl, rfl, rfl, rfl, rfl, rfl, rfl, rfl, rfl⟩

@[simp] theorem State.answer_frame (d : Word) (e : Bool) :
    (s.answer d e).pending = s.pending ∧ (s.answer d e).held = s.held ∧ (s.answer d e).clk = s.clk ∧
    (s.answer d e).out = s.out ∧ (s.answer d e).cfg = s.cfg ∧ (s.answer d e).mode = s.mode ∧ (s.answer d e).tt = s.tt ∧
    (s.answer d e).bursts = s.bursts ∧ (s.answer d e).granted = s.granted ∧ (s.answer d e).txns = s.txns ∧
    (s.answer d e).quar = s.quar ∧ (s.answer d e).holds = s.holds ∧ (s.answer d e).nextId = s.nextId ∧
    (s.answer d e).wins = s.wins ∧ (s.answer d e).tenants = s.tenants ∧ (s.answer d e).queues = s.queues ∧
    (s.answer d e).rings = s.rings ∧ (s.answer d e).jobs = s.jobs ∧ (s.answer d e).works = s.works ∧
    (s.answer d e).ports = s.ports ∧ (s.answer d e).vecs = s.vecs ∧ (s.answer d e).journal = s.journal ∧
    (s.answer d e).tap = s.tap ∧ (s.answer d e).sbx = s.sbx ∧ (s.answer d e).pwr = s.pwr ∧ (s.answer d e).stn = s.stn ∧
    (s.answer d e).trn = s.trn ∧ (s.answer d e).chn = s.chn ∧ (s.answer d e).bgs = s.bgs ∧ (s.answer d e).dct = s.dct ∧
    (s.answer d e).wbg = s.wbg ∧ (s.answer d e).freeCtr = s.freeCtr :=
  ⟨rfl, rfl, rfl, rfl, rfl, rfl, rfl, rfl, rfl, rfl, rfl, rfl, rfl, rfl, rfl, rfl, rfl, rfl, rfl, rfl, rfl, rfl, rfl, rfl, rfl, rfl, rfl, rfl, rfl, rfl, rfl, rfl⟩

@[simp] theorem State.touch_frame (p : Path) :
    (s.touch p).pending = s.pending ∧ (s.touch p).held = s.held ∧ (s.touch p).clk = s.clk ∧ (s.touch p).out = s.out ∧
    (s.touch p).rsp = s.rsp ∧ (s.touch p).cfg = s.cfg ∧ (s.touch p).mode = s.mode ∧ (s.touch p).tt = s.tt ∧
    (s.touch p).bursts = s.bursts ∧ (s.touch p).granted = s.granted ∧ (s.touch p).txns = s.txns ∧
    (s.touch p).quar = s.quar ∧ (s.touch p).holds = s.holds ∧ (s.touch p).nextId = s.nextId ∧ (s.touch p).wins = s.wins ∧
    (s.touch p).tenants = s.tenants ∧ (s.touch p).queues = s.queues ∧ (s.touch p).rings = s.rings ∧
    (s.touch p).jobs = s.jobs ∧ (s.touch p).works = s.works ∧ (s.touch p).ports = s.ports ∧ (s.touch p).vecs = s.vecs ∧
    (s.touch p).journal = s.journal ∧ (s.touch p).tap = s.tap ∧ (s.touch p).sbx = s.sbx ∧ (s.touch p).pwr = s.pwr ∧
    (s.touch p).stn = s.stn ∧ (s.touch p).trn = s.trn ∧ (s.touch p).chn = s.chn ∧ (s.touch p).bgs = s.bgs ∧
    (s.touch p).wbg = s.wbg ∧ (s.touch p).freeCtr = s.freeCtr :=
  ⟨rfl, rfl, rfl, rfl, rfl, rfl, rfl, rfl, rfl, rfl, rfl, rfl, rfl, rfl, rfl, rfl, rfl, rfl, rfl, rfl, rfl, rfl, rfl, rfl, rfl, rfl, rfl, rfl, rfl, rfl, rfl, rfl⟩

@[simp] theorem State.setEnt_frame (q u : Nat) (f : Ent → Ent) :
    (s.setEnt q u f).pending = s.pending ∧ (s.setEnt q u f).held = s.held ∧ (s.setEnt q u f).clk = s.clk ∧
    (s.setEnt q u f).out = s.out ∧ (s.setEnt q u f).rsp = s.rsp ∧ (s.setEnt q u f).cfg = s.cfg ∧
    (s.setEnt q u f).mode = s.mode ∧ (s.setEnt q u f).tt = s.tt ∧ (s.setEnt q u f).bursts = s.bursts ∧
    (s.setEnt q u f).granted = s.granted ∧ (s.setEnt q u f).txns = s.txns ∧ (s.setEnt q u f).quar = s.quar ∧
    (s.setEnt q u f).holds = s.holds ∧ (s.setEnt q u f).nextId = s.nextId ∧ (s.setEnt q u f).wins = s.wins ∧
    (s.setEnt q u f).tenants = s.tenants ∧ (s.setEnt q u f).rings = s.rings ∧ (s.setEnt q u f).jobs = s.jobs ∧
    (s.setEnt q u f).works = s.works ∧ (s.setEnt q u f).ports = s.ports ∧ (s.setEnt q u f).vecs = s.vecs ∧
    (s.setEnt q u f).journal = s.journal ∧ (s.setEnt q u f).tap = s.tap ∧ (s.setEnt q u f).sbx = s.sbx ∧
    (s.setEnt q u f).pwr = s.pwr ∧ (s.setEnt q u f).stn = s.stn ∧ (s.setEnt q u f).trn = s.trn ∧
    (s.setEnt q u f).chn = s.chn ∧ (s.setEnt q u f).bgs = s.bgs ∧ (s.setEnt q u f).dct = s.dct ∧
    (s.setEnt q u f).wbg = s.wbg ∧ (s.setEnt q u f).freeCtr = s.freeCtr := by
  simp [State.setEnt]

@[simp] theorem State.finish_frame (q u st info : Nat) (res c : Word) :
    (s.finish q u st info res c).pending = s.pending ∧ (s.finish q u st info res c).held = s.held ∧
    (s.finish q u st info res c).clk = s.clk ∧ (s.finish q u st info res c).out = s.out ∧
    (s.finish q u st info res c).rsp = s.rsp ∧ (s.finish q u st info res c).cfg = s.cfg ∧
    (s.finish q u st info res c).mode = s.mode ∧ (s.finish q u st info res c).tt = s.tt ∧
    (s.finish q u st info res c).bursts = s.bursts ∧ (s.finish q u st info res c).granted = s.granted ∧
    (s.finish q u st info res c).txns = s.txns ∧ (s.finish q u st info res c).quar = s.quar ∧
    (s.finish q u st info res c).holds = s.holds ∧ (s.finish q u st info res c).nextId = s.nextId ∧
    (s.finish q u st info res c).wins = s.wins ∧ (s.finish q u st info res c).tenants = s.tenants ∧
    (s.finish q u st info res c).rings = s.rings ∧ (s.finish q u st info res c).jobs = s.jobs ∧
    (s.finish q u st info res c).works = s.works ∧ (s.finish q u st info res c).ports = s.ports ∧
    (s.finish q u st info res c).vecs = s.vecs ∧ (s.finish q u st info res c).journal = s.journal ∧
    (s.finish q u st info res c).tap = s.tap ∧ (s.finish q u st info res c).sbx = s.sbx ∧
    (s.finish q u st info res c).pwr = s.pwr ∧ (s.finish q u st info res c).stn = s.stn ∧
    (s.finish q u st info res c).trn = s.trn ∧ (s.finish q u st info res c).chn = s.chn ∧
    (s.finish q u st info res c).bgs = s.bgs ∧ (s.finish q u st info res c).dct = s.dct ∧
    (s.finish q u st info res c).wbg = s.wbg ∧ (s.finish q u st info res c).freeCtr = s.freeCtr := by
  simp [State.finish]

@[simp] theorem State.addWait_frame (c : CmdWait) :
    (s.addWait c).pending = s.pending ∧ (s.addWait c).held = s.held ∧ (s.addWait c).clk = s.clk ∧
    (s.addWait c).out = s.out ∧ (s.addWait c).rsp = s.rsp ∧ (s.addWait c).cfg = s.cfg ∧ (s.addWait c).mode = s.mode ∧
    (s.addWait c).tt = s.tt ∧ (s.addWait c).bursts = s.bursts ∧ (s.addWait c).granted = s.granted ∧
    (s.addWait c).txns = s.txns ∧ (s.addWait c).quar = s.quar ∧ (s.addWait c).holds = s.holds ∧
    (s.addWait c).nextId = s.nextId ∧ (s.addWait c).wins = s.wins ∧ (s.addWait c).tenants = s.tenants ∧
    (s.addWait c).queues = s.queues ∧ (s.addWait c).rings = s.rings ∧ (s.addWait c).jobs = s.jobs ∧
    (s.addWait c).works = s.works ∧ (s.addWait c).ports = s.ports ∧ (s.addWait c).vecs = s.vecs ∧
    (s.addWait c).journal = s.journal ∧ (s.addWait c).tap = s.tap ∧ (s.addWait c).sbx = s.sbx ∧ (s.addWait c).pwr = s.pwr ∧
    (s.addWait c).stn = s.stn ∧ (s.addWait c).trn = s.trn ∧ (s.addWait c).chn = s.chn ∧ (s.addWait c).bgs = s.bgs ∧
    (s.addWait c).wbg = s.wbg ∧ (s.addWait c).freeCtr = s.freeCtr :=
  ⟨rfl, rfl, rfl, rfl, rfl, rfl, rfl, rfl, rfl, rfl, rfl, rfl, rfl, rfl, rfl, rfl, rfl, rfl, rfl, rfl, rfl, rfl, rfl, rfl, rfl, rfl, rfl, rfl, rfl, rfl, rfl, rfl⟩

/-- The part of a register file that a write does not name. -/
@[simp] theorem State.reg_setReg (off off' rst : Nat) (v : Word) :
    (s.setReg off v).reg off' rst = if off' = off then v else s.reg off' rst := by
  simp only [State.reg, State.setReg, Tbl.getD, Tbl.get_put]; split <;> rfl

end Sys2Proof.Machine
end

