-- ==== Sys2Proof/Laws/Bus.lean ====
section
/-! SUPPORT. What a register write does, said once for every register: the gates it passes, its journal entry, its answer. -/

namespace Sys2Proof.Machine

open Sys2Proof.Safety

/-- A command outside reset ends with its effect on emptied ports. -/
theorem State.act_of_free {s : State} (h : s.held = false) (f : State → State) :
    s.act f = ended s (f (bare s)) := by
  unfold State.act; rw [if_neg (by simp [h])]; rfl

theorem State.run_of_free {s : State} (h : s.held = false) (f : State → State) :
    s.run f = ran s (f (bare s)) := by
  unfold State.run; rw [State.act_of_free h]

/-- An access holds the session open and leaves its role alone (R349). -/
@[simp] theorem State.sessRole_touch (s : State) (p : Path) (k : Nat) : (s.touch p).sessRole k = s.sessRole k := by
  simp only [State.sessRole, State.touch, Tbl.get_upd]
  split <;> simp [Option.map_map, Function.comp_def]

@[simp] theorem State.bare_frame (s : State) :
    (bare s).pending = s.pending ∧ (bare s).held = s.held ∧ (bare s).clk = s.clk ∧ (bare s).out = [] ∧
    (bare s).rsp = s.rsp ∧ (bare s).cfg = s.cfg ∧ (bare s).mode = s.mode ∧ (bare s).tt = s.tt ∧
    (bare s).bursts = s.bursts ∧ (bare s).granted = s.granted ∧ (bare s).txns = s.txns ∧ (bare s).quar = s.quar ∧
    (bare s).holds = s.holds ∧ (bare s).nextId = s.nextId ∧ (bare s).wins = s.wins ∧ (bare s).tenants = s.tenants ∧
    (bare s).queues = s.queues ∧ (bare s).rings = s.rings ∧ (bare s).jobs = s.jobs ∧ (bare s).works = s.works ∧
    (bare s).ports = s.ports ∧ (bare s).vecs = s.vecs ∧ (bare s).journal = s.journal ∧ (bare s).tap = s.tap ∧
    (bare s).sbx = s.sbx ∧ (bare s).pwr = s.pwr ∧ (bare s).stn = s.stn ∧ (bare s).trn = s.trn ∧ (bare s).chn = s.chn ∧
    (bare s).bgs = s.bgs ∧ (bare s).dct = s.dct ∧ (bare s).wbg = s.wbg ∧ (bare s).freeCtr = s.freeCtr := by
  simp [bare]

@[simp] theorem State.sessRole_bare (s : State) (k : Nat) : (bare s).sessRole k = s.sessRole k := rfl
@[simp] theorem State.sessRole_touched (s : State) (k : Nat) : (touched s).sessRole k = s.sessRole k := by
  simp [touched]

@[simp] theorem State.touched_frame (s : State) :
    (touched s).pending = s.pending ∧ (touched s).held = s.held ∧ (touched s).clk = s.clk ∧ (touched s).out = [] ∧
    (touched s).cfg = s.cfg ∧ (touched s).mode = s.mode ∧ (touched s).tt = s.tt ∧ (touched s).sbx = s.sbx ∧
    (touched s).pwr = s.pwr ∧ (touched s).stn = s.stn ∧ (touched s).journal = s.journal ∧ (touched s).queues = s.queues ∧
    (touched s).rings = s.rings ∧ (touched s).vecs = s.vecs ∧ (touched s).tenants = s.tenants ∧ (touched s).wins = s.wins ∧
    (touched s).bgs = s.bgs ∧ (touched s).chn = s.chn ∧ (touched s).wbg = s.wbg ∧ (touched s).trn = s.trn ∧
    (touched s).txns = s.txns ∧ (touched s).granted = s.granted ∧ (touched s).bursts = s.bursts := by
  simp [touched]

/-- A write outside SAFE and OFF, to a register of a powered domain, other than GLB_MODE and those of the ODW page. -/
theorem State.bus_gated {s : State} {off : Nat} (h : Reached s off) (hm : off ≠ 0x20)
    (ho : ¬(0x30000 ≤ off ∧ off < 0x40000)) (data : Word) (strb : BitVec 8) :
    s.bus off data strb =
      ran s (((if off < 0x80000 then touched s else bare s).gatedWrite off data strb).1.answer 0
        (decide (((if off < 0x80000 then touched s else bare s).gatedWrite off data strb).2 ≠ 0))) := by
  obtain ⟨⟨h0, h1, h2⟩, h3⟩ := h
  have h3' : (bare s).regOff off = false := h3
  simp only [State.bus, State.run_of_free h0, State.busWrite]
  rw [if_neg (by simp [h1, h2]), h3']
  simp only [Bool.false_eq_true, if_false]
  rw [if_neg hm, if_neg ho]
  rfl

/-- A write to the ODW page. -/
theorem State.bus_odw {s : State} {off : Nat} (h : Reached s off) (ho : 0x30000 ≤ off ∧ off < 0x40000)
    (data : Word) (strb : BitVec 8) :
    s.bus off data strb =
      ran s (((touched s).odwRegWrite (off % 65536) data strb).1.answer 0
        (!((touched s).odwRegWrite (off % 65536) data strb).2)) := by
  obtain ⟨⟨h0, h1, h2⟩, h3⟩ := h
  have h3' : (bare s).regOff off = false := h3
  simp only [State.bus, State.run_of_free h0, State.busWrite]
  rw [if_neg (by simp [h1, h2]), h3']
  simp only [Bool.false_eq_true, if_false]
  rw [if_neg (by omega), if_pos ho, if_pos (by omega)]
  simp only [refusal, touched]
  generalize ((bare s).touch Path.reg).odwRegWrite (off % 65536) data strb = r
  obtain ⟨r1, r2⟩ := r
  cases r2 <;> simp

/-- With a session of Installer or Maker, a write to a register that is not journalled has its page's effect. -/
theorem State.gatedWrite_plain {s : State} {off : Nat} (hj : journalled off = false)
    (hr : 2 ≤ s.sessRole 0 ∨ 0x70000 ≤ off) (data : Word) (strb : BitVec 8) :
    s.gatedWrite off data strb = s.pageWrite off data strb .reg := by
  unfold State.gatedWrite
  dsimp only
  rw [if_neg (by
    rcases hr with h | h
    · simp; omega
    · simp; omega), hj]
  simp

/-- A journalled register: the change and its entry together (R350, R351). -/
theorem State.gatedWrite_noted {s : State} {off : Nat} (hj : journalled off = true) (hr : 2 ≤ s.sessRole 0)
    (hf : s.jFull = false) (hl : off ≠ 0x10218) (data : Word) (strb : BitVec 8) :
    s.gatedWrite off data strb =
      ((s.pageWrite off data strb .reg).1.jrn 1 .reg (s.pageWrite off data strb .reg).2 off (s.pageRead off)
        (strobe (s.pageRead off) data strb), (s.pageWrite off data strb .reg).2) := by
  unfold State.gatedWrite
  dsimp only
  rw [if_neg (by simp; omega), if_pos hj, if_neg (by simp [hf]), if_neg hl]

/-- The end of a register write whose effect and reason are r. -/
def answered (s : State) (r : State × Nat) : Safety.Result := ran s (r.1.answer 0 (decide (r.2 ≠ 0)))

theorem answered_ok (s t : State) : answered s (t, 0) = accepted s t := rfl
theorem answered_bad (s t : State) (n : Nat) : answered s (t, n + 1) = errored s t := rfl

/-- A register that is not journalled, on a page below 0x70000 other than ODW, written by an Installer or Maker session. -/
theorem State.bus_plain {s : State} {off : Nat} (h : Open s off) (hl : off < 0x80000) (hm : off ≠ 0x20)
    (ho : ¬(0x30000 ≤ off ∧ off < 0x40000)) (hj : journalled off = false) (data : Word) (strb : BitVec 8) :
    s.bus off data strb = answered s ((touched s).pageWrite off data strb .reg) := by
  rw [State.bus_gated h.1 hm ho, if_pos hl, State.gatedWrite_plain hj (Or.inl (by simpa using h.2))]; rfl

/-- A journalled register, likewise. -/
theorem State.bus_noted {s : State} {off : Nat} (h : Open s off) (hl : off < 0x80000) (hm : off ≠ 0x20)
    (ho : ¬(0x30000 ≤ off ∧ off < 0x40000)) (hj : journalled off = true) (hf : s.jFull = false) (hn : off ≠ 0x10218)
    (data : Word) (strb : BitVec 8) {t : State} {n : Nat} (ht : (touched s).pageWrite off data strb .reg = (t, n)) :
    s.bus off data strb = answered s
      (t.jrn 1 .reg n off (s.pageRead off) (strobe (s.pageRead off) data strb), n) := by
  have hf' : (touched s).jFull = false := hf
  have hp : (touched s).pageRead off = s.pageRead off := rfl
  rw [State.bus_gated h.1 hm ho, if_pos hl, State.gatedWrite_noted hj (by simpa using h.2) hf' hn, ht, hp]; rfl

/-- A page beyond the global ones: channel pages and tenant pages need no session and write no journal. -/
theorem State.bus_page {s : State} {off : Nat} (h : Reached s off) (hl : 0x80000 ≤ off) (data : Word) (strb : BitVec 8) :
    s.bus off data strb = answered s ((bare s).pageWrite off data strb .reg) := by
  rw [State.bus_gated h (by omega) (by omega), if_neg (by omega),
    State.gatedWrite_plain (by simp [journalled]; omega) (Or.inr (by omega))]; rfl

/-- The Weighbridge page answers in every mode (R291). -/
theorem State.bus_wbg {s : State} {off : Nat} (h : s.held = false) (hl : 0x400000 ≤ off ∧ off < 0x410000)
    (data : Word) (strb : BitVec 8) :
    s.bus off data strb = answered s ((bare s).pageWrite off data strb .reg) := by
  simp only [State.bus, State.run_of_free h, State.busWrite]
  have hd : (bare s).regOff off = false := by
    simp only [State.regOff, regDom]
    repeat rw [if_neg (by omega)]
  by_cases hm : (bare s).mode = .safe ∨ (bare s).mode = .off
  · have e : (bare s).safeWrite off data strb = (bare s).pageWrite off data strb .reg := by
      unfold State.safeWrite; rw [if_pos hl]
    rw [if_pos hm, if_neg (by omega)]
    rw [show ∀ r : State × Nat, ran s (r.1.answer 0 (decide (r.2 ≠ 0))) = answered s r from fun _ => rfl, e]
  · rw [if_neg hm, hd]
    simp only [Bool.false_eq_true, if_false]
    rw [if_neg (by omega), if_neg (by omega), if_neg (by omega),
      State.gatedWrite_plain (by simp [journalled]; omega) (Or.inr (by omega))]; rfl

/-- The journal entry of the register path names the session's role. -/
theorem State.jrn_reg (s : State) (kind result target : Nat) (old new : Word) :
    s.jrn kind .reg result target old new = s.journalE kind 0 (s.sessRole 0) 0 result target old new := rfl

end Sys2Proof.Machine
end

