-- ==== Sys2Proof/Laws/Ops.lean ====
section
/-! SUPPORT. What the shared operations do, each said once: the frames commands run in, journal entries, fault messages,
interrupts, entry into SAFE, and the sampling of the high-water marks. -/

namespace Sys2Proof.Machine

open Sys2Proof.Safety

/-! ### Commands that need the block live, or out of OFF -/

theorem State.live_of_live {s : State} (h : Live s) (f : State → State) : s.live f = ran s (f (bare s)) := by
  have hm : ¬(s.mode = .safe ∨ s.mode = .off) := by simp [h.2.1, h.2.2]
  unfold State.live
  rw [State.run_of_free h.1]
  exact congrArg (ran s) (if_neg hm)

theorem State.mctp_of_free {s : State} (h : s.held = false) (hm : s.mode ≠ .off) (f : State → State) :
    s.mctp f = ran s (f (bare s)) := by
  unfold State.mctp
  rw [State.run_of_free h]
  exact congrArg (ran s) (if_neg hm)

theorem State.act_of_held {s : State} (h : s.held = true) (f : State → State) : s.act f = .next s := by
  simp [State.act, h]

/-! ### Shared operations -/

/-- A fault message waits in the inbox; nothing else changes (R275). -/
theorem State.raise0_eq (s : State) (source ctx : Nat) : s.raise0 source ctx = s.raise source 0 0 ctx := rfl

/-- With room, an entry joins the journal; on a full store it takes the place of the oldest (R350, R351). -/
theorem State.journalE_room {s : State} (h : s.jHeld < 1024) (kind path role origin result target : Nat) (old new : Word) :
    s.journalE kind path role origin result target old new =
      { s with journal := s.journal ++ [⟨s.ns, kind, path, role, origin, result, target, old, new⟩] } := by
  unfold State.journalE; rw [if_pos h]

theorem State.journalE_full {s : State} (h : ¬s.jHeld < 1024) (kind path role origin result target : Nat) (old new : Word) :
    s.journalE kind path role origin result target old new =
      { s with journal := s.journal.drop 1 ++ [⟨s.ns, kind, path, role, origin, result, target, old, new⟩],
               dct := { s.dct with lost := min 65535 (s.dct.lost + 1) } } := by
  unfold State.journalE; rw [if_neg h]

/-- A due message stays due and keeps its HOLDOFF (R102). -/
theorem State.irqDue_due (s : State) (v : Nat) : ((s.irqDue (some v)).vec v).due = true := by
  show (Tbl.getD v ({} : Vec) (Tbl.put v (if (s.vec v).due then s.vec v else _) s.vecs)).due = true
  rw [Tbl.getD_put_self]
  split
  · assumption
  · rfl

/-- SAFE is entered from a mode other than SAFE and OFF (R285 to R288). -/
theorem State.enterSafe_live {s : State} (h1 : s.mode ≠ .safe) (h2 : s.mode ≠ .off) (cause source : Nat) (term : Bool) :
    s.enterSafe cause source term = entering s cause source term := by
  unfold State.enterSafe
  rw [if_neg h2, if_neg h1]
  rfl

/-- A free value moves the counter on and changes nothing else. -/
theorem State.freeVal_eq (s : State) :
    s.freeVal = ((Config.freeWord s.freeCtr).toNat, { s with freeCtr := s.freeCtr + 1 }) := rfl

/-! ### High-water marks (R66) -/

/-- One mark is sampled: only the marks and the inbox may change, and the mark covers its quantity. -/
theorem State.sample1_eq (s : State) (i : Nat) : ∃ (h : Tbl Hwm) (l : List Msg),
    s.sample1 i = { s with tt := { s.tt with hwm := h }, sbx := { s.sbx with inbox := s.sbx.inbox ++ l } } ∧
    (∀ m ∈ l, m.source = 0x082) ∧ l.length ≤ 1 ∧ s.hwmVal i ≤ (Tbl.getD i ({} : Hwm) h).peak ∧
    ∀ j, (Tbl.getD j ({} : Hwm) s.tt.hwm).peak ≤ (Tbl.getD j ({} : Hwm) h).peak := by
  unfold State.sample1
  dsimp only
  split
  · have hk : ∀ (c : Bool) (j : Nat), (Tbl.getD j ({} : Hwm) s.tt.hwm).peak ≤
        (Tbl.getD j ({} : Hwm) (Tbl.put i { Tbl.getD i ({} : Hwm) s.tt.hwm with
          peak := max (Tbl.getD i ({} : Hwm) s.tt.hwm).peak (s.hwmVal i), crossed := c } s.tt.hwm)).peak := by
      intro c j
      by_cases hj : j = i
      · subst hj; simp
      · simp [Tbl.getD, Tbl.get_put_of_ne hj]
    split
    · exact ⟨_, [⟨0x082, 0, 0, 0, _⟩], rfl, by simp, by simp, by simp, hk _⟩
    · refine ⟨_, [], by simp; rfl, by simp, by simp, by simp, hk _⟩
  · rename_i h
    refine ⟨s.tt.hwm, [], by simp, by simp, by simp, ?_, fun _ => le_rfl⟩
    simp only [not_or] at h
    omega

/-- The marks of a quantity depend on nothing that sampling changes. -/
theorem State.hwmVal_sampled (s : State) (h : Tbl Hwm) (l : List Msg) (i : Nat) :
    ({ s with tt := { s.tt with hwm := h }, sbx := { s.sbx with inbox := l } } : State).hwmVal i = s.hwmVal i := rfl

end Sys2Proof.Machine
end

