-- ==== Sys2Proof/WellFormed.lean ====
section
/-! DEFINITION. Well-formed commands: what an operand must meet beyond its type to be one the surroundings can present.
Ranges of index operands stand in their types; exec takes every command, well formed or not. -/

namespace Sys2Proof

/-- A queue number an entry can come from: a submission queue (R70), or one of the 257 Dispatch Queues (R321). -/
def entryQueue (q : Nat) : Bool := decide (q ≤ 0x2000) || (decide (0x2100 ≤ q) && decide (q < 0x2200))

/-- Read tags number 8,192, write tags 4,096, in an attachment (R41). -/
def tagOk (rd : Bool) (tag : Nat) : Bool := rd || decide (tag < 4096)

/-- Tags of a burst: one for each of 1 to 64 lines, no two alike (R18, R41). -/
def tagsOk (tags : List Nat) : Bool :=
  !tags.isEmpty && decide (tags.length ≤ 64) && tags.all (fun t => decide (t < 8192)) && decide tags.Nodup

/-- A path that can hold a session, a nonce or a lockout: a Dispatch Queue has none (R348). -/
def sessionPath : Path → Bool
  | .dq _ => false
  | _ => true

/-- TYPE of a Peer Link frame (R355). -/
def frameType (f : BitVec 64) : Nat := f.toNat % 16

/-- KIND of a NOTIFY frame (R355): 1 a forward doorbell, 2 a return doorbell. -/
def notifyKind (f : BitVec 64) : Nat := f.toNat / 2 ^ 16 % 16

/-- A Kalmet message fits the assembly buffer (R345, R346). -/
def messageOk (msg : List Byte) : Bool := decide (msg.length ≤ 320)

/-- A source whose trip the hardwired path carries (R290): the self-checks, and the monitors of 0x166, 0x169, 0x16E and
0x16F. -/
def tripSource (s : Nat) : Bool :=
  s == 0x166 || s == 0x169 || s == 0x16E || s == 0x16F || (decide (0x17C ≤ s) && decide (s ≤ 0x17F))

/-- A command the surroundings, or the block's own sequencers, can present. -/
def Instr.wf : Instr → Bool
  | .bypassAnswer wr addr _ => if wr then addr == 4 else addr == 5 || (decide (0x4000 ≤ addr.toNat) && decide (addr.toNat < 0x6000))
  | .fence q | .nop q | .link q => entryQueue q.val
  | .burstIssue _ tags => tagsOk tags
  | .readResponse _ info _ => !info.getLsbD 17
  | .writeCompletion _ info => info.getLsbD 17 || !info.getLsbD 12
  | .holdAnswer _ info => info.getLsbD 17
  | .transactionLost _ rd tag | .quarantineEnd _ rd tag => tagOk rd tag.val
  | .odwWrite len => decide (len.toNat ≤ 256)
  | .sessionEnd p | .sessionIdleEnd p | .nonceExpiry p | .authLockoutEnd p => sessionPath p
  | .mctpRead _ msg | .mctpWrite _ msg | .setEndpointId _ msg | .getEndpointId _ msg | .getMctpVersionSupport _ msg
  | .getMessageTypeSupport _ msg | .getVendorDefinedMessageSupport _ msg => messageOk msg
  | .decAnswer _ op _ => decide (1 ≤ op.toNat) && decide (op.toNat ≤ 5)
  | .calibrationPeriod fMeas temps _ => fMeas.length == 8 && temps.length == 4
  | .selfCheckTrip source _ => tripSource source.val
  | .presence f => frameType f == 1
  | .tickFrame f _ => frameType f == 2
  | .forwardDoorbell f => frameType f == 3 && notifyKind f == 1
  | .returnDoorbell f => frameType f == 3 && notifyKind f == 2
  | .notifyRelay f => frameType f == 3
  | .peerEvent f => frameType f == 4
  | .clockMonitorWindow dom _ | .clockAbsent dom => dom.val != 19
  | _ => true

/-- The queue whose entry or command this is, where it is one: a submission queue, or a Dispatch Queue by its number
(R321). -/
def Instr.queueOf : Instr → Option Nat
  | .copy q | .fill q | .zero q | .compare q | .check q | .mcopy q | .gather q | .scatter q | .greduce q
  | .waitEvent q | .waitEventTimeout q => some q.val
  | .fence q | .nop q | .link q => some q.val
  | .sqCreate d | .sqDelete d | .crCreate d | .crDelete d | .sqModify d | .sqDisable d | .sqDisableAbort d | .sqEnable d
  | .sqDrain d | .winSet d | .winClear d | .tenantSet d | .gateLoad d | .gateActivate d | .limiterSet d | .transitOpen d
  | .proceed d | .recallConfirmed d | .toMirror d | .transitConjoin d | .transitAbort d | .odRead d | .odWrite d
  | .bgScheduleStart d | .bgScheduleStop d | .query d | .dqEnable d _ _ | .dqStop d | .dqDoorbell d =>
    some (match d with | .installer => 0x2000 | .tenant t => 0x2100 + t.val)
  | _ => none

end Sys2Proof
end

