-- ==== Sys2Proof/Laws/PerInstr.lean ====
section
/-! SUPPORT. Statements made of every command: a well-formed command that is an entry or an admin command names a queue
that the block has, a submission queue (R70) or one of the 257 Dispatch Queues (R321). -/

namespace Sys2Proof.Laws.QueueNumber

/-- The queue a well-formed command names, where it names one, is one the block has. -/
def Statement (i : Instr) : Prop := i.wf = true → ∀ q, i.queueOf = some q → entryQueue q = true

theorem of_dq {d : DqRef} {q : Nat} (h : some (match d with | .installer => 0x2000 | .tenant t => 0x2100 + t.val) = some q) :
    entryQueue q = true := by
  cases d with
  | installer => cases h; rfl
  | tenant t => cases h; simp [entryQueue]; omega

theorem of_sq {n : Nat} {q : Fin n} (hn : n ≤ 0x2001) {k : Nat} (h : some q.val = some k) : entryQueue k = true := by
  cases h; simp [entryQueue]; omega

theorem registerWrite (addr : BitVec 22) (data : Word) (strb : BitVec 8) (wbSel : Bool) : Statement (.registerWrite addr data strb wbSel) := fun _ _ h => nomatch h
theorem regAccessTimeout (wr : Bool) (addr : BitVec 22) : Statement (.regAccessTimeout wr addr) := fun _ _ h => nomatch h
theorem bypassAnswer (wr : Bool) (addr : BitVec 22) (data : Word) : Statement (.bypassAnswer wr addr data) := fun _ _ h => nomatch h
theorem doorbell (t : Fin 256) (d : Fin 512) : Statement (.doorbell t d) := fun _ _ h => nomatch h
theorem copy (q : Fin 8192) : Statement (.copy q) := fun _ _ h => of_sq (by decide) h
theorem fill (q : Fin 8192) : Statement (.fill q) := fun _ _ h => of_sq (by decide) h
theorem zero (q : Fin 8192) : Statement (.zero q) := fun _ _ h => of_sq (by decide) h
theorem compare (q : Fin 8192) : Statement (.compare q) := fun _ _ h => of_sq (by decide) h
theorem check (q : Fin 8192) : Statement (.check q) := fun _ _ h => of_sq (by decide) h
theorem mcopy (q : Fin 8192) : Statement (.mcopy q) := fun _ _ h => of_sq (by decide) h
theorem gather (q : Fin 8192) : Statement (.gather q) := fun _ _ h => of_sq (by decide) h
theorem scatter (q : Fin 8192) : Statement (.scatter q) := fun _ _ h => of_sq (by decide) h
theorem greduce (q : Fin 8192) : Statement (.greduce q) := fun _ _ h => of_sq (by decide) h
theorem fence (q : Fin 8704) : Statement (.fence q) := fun w k h => by cases h; exact w
theorem nop (q : Fin 8704) : Statement (.nop q) := fun w k h => by cases h; exact w
theorem link (q : Fin 8704) : Statement (.link q) := fun w k h => by cases h; exact w
theorem waitEvent (q : Fin 8192) : Statement (.waitEvent q) := fun _ _ h => of_sq (by decide) h
theorem waitEventTimeout (q : Fin 8192) : Statement (.waitEventTimeout q) := fun _ _ h => of_sq (by decide) h
theorem burstGrant (b : Nat) : Statement (.burstGrant b) := fun _ _ h => nomatch h
theorem burstIssue (b : Nat) (tags : List Nat) : Statement (.burstIssue b tags) := fun _ _ h => nomatch h
theorem readResponse (xa : Fin 8) (info : BitVec 18) (line : Line) : Statement (.readResponse xa info line) := fun _ _ h => nomatch h
theorem writeCompletion (xa : Fin 8) (info : BitVec 18) : Statement (.writeCompletion xa info) := fun _ _ h => nomatch h
theorem holdAnswer (xa : Fin 8) (info : BitVec 18) : Statement (.holdAnswer xa info) := fun _ _ h => nomatch h
theorem transactionLost (xa : Fin 8) (rd : Bool) (tag : Fin 8192) : Statement (.transactionLost xa rd tag) := fun _ _ h => nomatch h
theorem quarantineEnd (xa : Fin 8) (rd : Bool) (tag : Fin 8192) : Statement (.quarantineEnd xa rd tag) := fun _ _ h => nomatch h
theorem interruptSend (v : Fin 2048) : Statement (.interruptSend v) := fun _ _ h => nomatch h
theorem ringArm (t : Fin 256) (c : Fin 256) (rdIndex : BitVec 16) (rdWrap : Bool) : Statement (.ringArm t c rdIndex rdWrap) := fun _ _ h => nomatch h
theorem ringDisarm (t : Fin 256) (c : Fin 256) (rdIndex : BitVec 16) (rdWrap : Bool) : Statement (.ringDisarm t c rdIndex rdWrap) := fun _ _ h => nomatch h
theorem resultSlotRelease (t : Fin 256) (slot : Fin 16) (word : Fin 2) : Statement (.resultSlotRelease t slot word) := fun _ _ h => nomatch h
theorem tickBoundary : Statement (.tickBoundary) := fun _ _ h => nomatch h
theorem reclaimPoint : Statement (.reclaimPoint) := fun _ _ h => nomatch h
theorem timeValidFall : Statement (.timeValidFall) := fun _ _ h => nomatch h
theorem timeValidRise (timeNs : BitVec 64) : Statement (.timeValidRise timeNs) := fun _ _ h => nomatch h
theorem tickConfigWrite (data : Word) (strb : BitVec 8) : Statement (.tickConfigWrite data strb) := fun _ _ h => nomatch h
theorem admitLimitWrite (data : Word) (strb : BitVec 8) : Statement (.admitLimitWrite data strb) := fun _ _ h => nomatch h
theorem limcfgWrite (data : Word) (strb : BitVec 8) : Statement (.limcfgWrite data strb) := fun _ _ h => nomatch h
theorem limiterZero : Statement (.limiterZero) := fun _ _ h => nomatch h
theorem limiterFill : Statement (.limiterFill) := fun _ _ h => nomatch h
theorem resetAdapt : Statement (.resetAdapt) := fun _ _ h => nomatch h
theorem hwmClear : Statement (.hwmClear) := fun _ _ h => nomatch h
theorem dqEnable (dq : DqRef) (data : Word) (strb : BitVec 8) : Statement (.dqEnable dq data strb) := fun _ _ h => of_dq h
theorem dqStop (dq : DqRef) : Statement (.dqStop dq) := fun _ _ h => of_dq h
theorem dqDoorbell (dq : DqRef) : Statement (.dqDoorbell dq) := fun _ _ h => of_dq h
theorem sqCreate (dq : DqRef) : Statement (.sqCreate dq) := fun _ _ h => of_dq h
theorem sqDelete (dq : DqRef) : Statement (.sqDelete dq) := fun _ _ h => of_dq h
theorem crCreate (dq : DqRef) : Statement (.crCreate dq) := fun _ _ h => of_dq h
theorem crDelete (dq : DqRef) : Statement (.crDelete dq) := fun _ _ h => of_dq h
theorem sqModify (dq : DqRef) : Statement (.sqModify dq) := fun _ _ h => of_dq h
theorem sqDisable (dq : DqRef) : Statement (.sqDisable dq) := fun _ _ h => of_dq h
theorem sqDisableAbort (dq : DqRef) : Statement (.sqDisableAbort dq) := fun _ _ h => of_dq h
theorem sqEnable (dq : DqRef) : Statement (.sqEnable dq) := fun _ _ h => of_dq h
theorem sqDrain (dq : DqRef) : Statement (.sqDrain dq) := fun _ _ h => of_dq h
theorem winSet (dq : DqRef) : Statement (.winSet dq) := fun _ _ h => of_dq h
theorem winClear (dq : DqRef) : Statement (.winClear dq) := fun _ _ h => of_dq h
theorem tenantSet (dq : DqRef) : Statement (.tenantSet dq) := fun _ _ h => of_dq h
theorem gateLoad (dq : DqRef) : Statement (.gateLoad dq) := fun _ _ h => of_dq h
theorem gateActivate (dq : DqRef) : Statement (.gateActivate dq) := fun _ _ h => of_dq h
theorem limiterSet (dq : DqRef) : Statement (.limiterSet dq) := fun _ _ h => of_dq h
theorem transitOpen (dq : DqRef) : Statement (.transitOpen dq) := fun _ _ h => of_dq h
theorem proceed (dq : DqRef) : Statement (.proceed dq) := fun _ _ h => of_dq h
theorem recallConfirmed (dq : DqRef) : Statement (.recallConfirmed dq) := fun _ _ h => of_dq h
theorem toMirror (dq : DqRef) : Statement (.toMirror dq) := fun _ _ h => of_dq h
theorem transitConjoin (dq : DqRef) : Statement (.transitConjoin dq) := fun _ _ h => of_dq h
theorem transitAbort (dq : DqRef) : Statement (.transitAbort dq) := fun _ _ h => of_dq h
theorem odRead (dq : DqRef) : Statement (.odRead dq) := fun _ _ h => of_dq h
theorem odWrite (dq : DqRef) : Statement (.odWrite dq) := fun _ _ h => of_dq h
theorem bgScheduleStart (dq : DqRef) : Statement (.bgScheduleStart dq) := fun _ _ h => of_dq h
theorem bgScheduleStop (dq : DqRef) : Statement (.bgScheduleStop dq) := fun _ _ h => of_dq h
theorem query (dq : DqRef) : Statement (.query dq) := fun _ _ h => of_dq h
theorem odwRead : Statement (.odwRead) := fun _ _ h => nomatch h
theorem odwWrite (len : BitVec 9) : Statement (.odwWrite len) := fun _ _ h => nomatch h
theorem odwStatusRelease : Statement (.odwStatusRelease) := fun _ _ h => nomatch h
theorem sessionEnd (p : Path) : Statement (.sessionEnd p) := fun _ _ h => nomatch h
theorem sessionIdleEnd (p : Path) : Statement (.sessionIdleEnd p) := fun _ _ h => nomatch h
theorem nonceExpiry (p : Path) : Statement (.nonceExpiry p) := fun _ _ h => nomatch h
theorem authLockoutEnd (p : Path) : Statement (.authLockoutEnd p) := fun _ _ h => nomatch h
theorem mctpRead (h : MctpHdr) (msg : List Byte) : Statement (.mctpRead h msg) := fun _ _ h => nomatch h
theorem mctpWrite (h : MctpHdr) (msg : List Byte) : Statement (.mctpWrite h msg) := fun _ _ h => nomatch h
theorem setEndpointId (h : MctpHdr) (msg : List Byte) : Statement (.setEndpointId h msg) := fun _ _ h => nomatch h
theorem getEndpointId (h : MctpHdr) (msg : List Byte) : Statement (.getEndpointId h msg) := fun _ _ h => nomatch h
theorem getMctpVersionSupport (h : MctpHdr) (msg : List Byte) : Statement (.getMctpVersionSupport h msg) := fun _ _ h => nomatch h
theorem getMessageTypeSupport (h : MctpHdr) (msg : List Byte) : Statement (.getMessageTypeSupport h msg) := fun _ _ h => nomatch h
theorem getVendorDefinedMessageSupport (h : MctpHdr) (msg : List Byte) : Statement (.getVendorDefinedMessageSupport h msg) := fun _ _ h => nomatch h
theorem mctpPacketDiscard (pkt : List Byte) : Statement (.mctpPacketDiscard pkt) := fun _ _ h => nomatch h
theorem journalSpill : Statement (.journalSpill) := fun _ _ h => nomatch h
theorem glbVecWrite (v : Fin 2048) (data : Word) (strb : BitVec 8) : Statement (.glbVecWrite v data strb) := fun _ _ h => nomatch h
theorem glbModeOff (p : Path) : Statement (.glbModeOff p) := fun _ _ h => nomatch h
theorem glbModeColdInit (p : Path) : Statement (.glbModeColdInit p) := fun _ _ h => nomatch h
theorem glbModeFactoryTest (p : Path) : Statement (.glbModeFactoryTest p) := fun _ _ h => nomatch h
theorem glbModeConfigure (p : Path) : Statement (.glbModeConfigure p) := fun _ _ h => nomatch h
theorem glbModeRun (p : Path) : Statement (.glbModeRun p) := fun _ _ h => nomatch h
theorem glbModeQuiesce (p : Path) : Statement (.glbModeQuiesce p) := fun _ _ h => nomatch h
theorem glbModeSafe (p : Path) : Statement (.glbModeSafe p) := fun _ _ h => nomatch h
theorem rqlAssertion (line : Fin 256) : Statement (.rqlAssertion line) := fun _ _ h => nomatch h
theorem levelBurstDecision (ch : Fin 512) (high : Bool) : Statement (.levelBurstDecision ch high) := fun _ _ h => nomatch h
theorem requestPresent (ch : Fin 512) : Statement (.requestPresent ch) := fun _ _ h => nomatch h
theorem eventPulse (line : Fin 256) : Statement (.eventPulse line) := fun _ _ h => nomatch h
theorem chEnable (ch : Fin 512) : Statement (.chEnable ch) := fun _ _ h => nomatch h
theorem chDisable (ch : Fin 512) : Statement (.chDisable ch) := fun _ _ h => nomatch h
theorem chStop (ch : Fin 512) : Statement (.chStop ch) := fun _ _ h => nomatch h
theorem chPause (ch : Fin 512) : Statement (.chPause ch) := fun _ _ h => nomatch h
theorem chResume (ch : Fin 512) : Statement (.chResume ch) := fun _ _ h => nomatch h
theorem chKick (ch : Fin 512) : Statement (.chKick ch) := fun _ _ h => nomatch h
theorem chShadowWrite (ch : Fin 512) (reg : ShadowReg) (data : Word) (strb : BitVec 8) : Statement (.chShadowWrite ch reg data strb) := fun _ _ h => nomatch h
theorem chShcommitArm (ch : Fin 512) (tick : Bool) : Statement (.chShcommitArm ch tick) := fun _ _ h => nomatch h
theorem chShcommitDisarm (ch : Fin 512) : Statement (.chShcommitDisarm ch) := fun _ _ h => nomatch h
theorem handover (ch : Fin 512) : Statement (.handover ch) := fun _ _ h => nomatch h
theorem dtrNotification (w : Fin 8) (page : BitVec 30) : Statement (.dtrNotification w page) := fun _ _ h => nomatch h
theorem decAnswer (w : Fin 8) (op : BitVec 3) (code : BitVec 2) : Statement (.decAnswer w op code) := fun _ _ h => nomatch h
theorem decAnswerTimeout (w : Fin 8) : Statement (.decAnswerTimeout w) := fun _ _ h => nomatch h
theorem rebindAnswerTimeout (w : Fin 8) : Statement (.rebindAnswerTimeout w) := fun _ _ h => nomatch h
theorem holdAckTimeout (w : Fin 8) : Statement (.holdAckTimeout w) := fun _ _ h => nomatch h
theorem cleanIntervalEnd (w : Fin 8) (page : BitVec 30) : Statement (.cleanIntervalEnd w page) := fun _ _ h => nomatch h
theorem pstReport (port : BitVec 8) (up : Bool) (epoch : BitVec 16) : Statement (.pstReport port up epoch) := fun _ _ h => nomatch h
theorem rewriteHoldTimeout (r : Fin 64) : Statement (.rewriteHoldTimeout r) := fun _ _ h => nomatch h
theorem calibrationPeriod (fMeas : List Nat) (temps : List Int) (vcore : Nat) : Statement (.calibrationPeriod fMeas temps vcore) := fun _ _ h => nomatch h
theorem tickPhaseTrim (err : Int) : Statement (.tickPhaseTrim err) := fun _ _ h => nomatch h
theorem wearIntervalEnd : Statement (.wearIntervalEnd) := fun _ _ h => nomatch h
theorem wearStepStart : Statement (.wearStepStart) := fun _ _ h => nomatch h
theorem mirrorFeedRecord (session : BitVec 8) (feed : BitVec 384) : Statement (.mirrorFeedRecord session feed) := fun _ _ h => nomatch h
theorem telemetryRdWrite (data : Word) (strb : BitVec 8) : Statement (.telemetryRdWrite data strb) := fun _ _ h => nomatch h
theorem faultMessage (det : Option Detection) : Statement (.faultMessage det) := fun _ _ h => nomatch h
theorem fltForceSafe : Statement (.fltForceSafe) := fun _ _ h => nomatch h
theorem selfCheckTrip (source : Fin 384) (context : Nat) : Statement (.selfCheckTrip source context) := fun _ _ h => nomatch h
theorem safeAbsorbEnd : Statement (.safeAbsorbEnd) := fun _ _ h => nomatch h
theorem fltMsgTransfer : Statement (.fltMsgTransfer) := fun _ _ h => nomatch h
theorem sbxForce (k : Fin 6) (data : Word) (strb : BitVec 8) : Statement (.sbxForce k data strb) := fun _ _ h => nomatch h
theorem sbxTestkey (data : Word) (strb : BitVec 8) : Statement (.sbxTestkey data strb) := fun _ _ h => nomatch h
theorem testkeyExpiry : Statement (.testkeyExpiry) := fun _ _ h => nomatch h
theorem sbxInj (data : Word) (strb : BitVec 8) : Statement (.sbxInj data strb) := fun _ _ h => nomatch h
theorem firstValidClear : Statement (.firstValidClear) := fun _ _ h => nomatch h
theorem sbxSevWrite (k : Fin 24) (data : Word) (strb : BitVec 8) : Statement (.sbxSevWrite k data strb) := fun _ _ h => nomatch h
theorem warmReset : Statement (.warmReset) := fun _ _ h => nomatch h
theorem rstWarmNFall : Statement (.rstWarmNFall) := fun _ _ h => nomatch h
theorem tapEvent (seen : Option (BitVec 72)) (clocked : Bool) : Statement (.tapEvent seen clocked) := fun _ _ h => nomatch h
theorem tapDrain (mismatch : Option (Fin 256)) : Statement (.tapDrain mismatch) := fun _ _ h => nomatch h
theorem intervalEnd : Statement (.intervalEnd) := fun _ _ h => nomatch h
theorem recordReady (snap : Bool) : Statement (.recordReady snap) := fun _ _ h => nomatch h
theorem wbgSnap : Statement (.wbgSnap) := fun _ _ h => nomatch h
theorem wbgRecack : Statement (.wbgRecack) := fun _ _ h => nomatch h
theorem wbgSealctl (data : Word) (strb : BitVec 8) : Statement (.wbgSealctl data strb) := fun _ _ h => nomatch h
theorem wbgConfigWrite (interval : Bool) (data : Word) (strb : BitVec 8) : Statement (.wbgConfigWrite interval data strb) := fun _ _ h => nomatch h
theorem keyTransfer (bytes : List Byte) : Statement (.keyTransfer bytes) := fun _ _ h => nomatch h
theorem keyTransferGap : Statement (.keyTransferGap) := fun _ _ h => nomatch h
theorem keyArrivalTimeout : Statement (.keyArrivalTimeout) := fun _ _ h => nomatch h
theorem vltCalibration (khz : Nat) : Statement (.vltCalibration khz) := fun _ _ h => nomatch h
theorem presence (frame : BitVec 64) : Statement (.presence frame) := fun _ _ h => nomatch h
theorem presenceSend : Statement (.presenceSend) := fun _ _ h => nomatch h
theorem presenceExpiry (n : Fin 16) : Statement (.presenceExpiry n) := fun _ _ h => nomatch h
theorem tickFrame (frame : BitVec 64) (arrival : Nat) : Statement (.tickFrame frame arrival) := fun _ _ h => nomatch h
theorem forwardDoorbell (frame : BitVec 64) : Statement (.forwardDoorbell frame) := fun _ _ h => nomatch h
theorem returnDoorbell (frame : BitVec 64) : Statement (.returnDoorbell frame) := fun _ _ h => nomatch h
theorem peerEvent (frame : BitVec 64) : Statement (.peerEvent frame) := fun _ _ h => nomatch h
theorem frameDiscard (frame : BitVec 64) : Statement (.frameDiscard frame) := fun _ _ h => nomatch h
theorem stnEvsend (num : BitVec 8) : Statement (.stnEvsend num) := fun _ _ h => nomatch h
theorem peerLinkBroken : Statement (.peerLinkBroken) := fun _ _ h => nomatch h
theorem forwardTimeLimit (w : Fin 16) (seq : BitVec 16) : Statement (.forwardTimeLimit w seq) := fun _ _ h => nomatch h
theorem forwardSlotQuarantineEnd (w : Fin 16) (seq : BitVec 16) : Statement (.forwardSlotQuarantineEnd w seq) := fun _ _ h => nomatch h
theorem powerAck (d : Fin 98) (retained : Bool) : Statement (.powerAck d retained) := fun _ _ h => nomatch h
theorem powerDeny (d : Fin 98) : Statement (.powerDeny d) := fun _ _ h => nomatch h
theorem powerRequestTimeout (d : Fin 98) : Statement (.powerRequestTimeout d) := fun _ _ h => nomatch h
theorem moverIdle (m : Fin 64) : Statement (.moverIdle m) := fun _ _ h => nomatch h
theorem quadrantIdle (q : Fin 4) : Statement (.quadrantIdle q) := fun _ _ h => nomatch h
theorem coldReset : Statement (.coldReset) := fun _ _ h => nomatch h
theorem coldResetRelease (stnId : BitVec 4) : Statement (.coldResetRelease stnId) := fun _ _ h => nomatch h
theorem dftTestMode (high : Bool) : Statement (.dftTestMode high) := fun _ _ h => nomatch h
theorem dftMbistGo : Statement (.dftMbistGo) := fun _ _ h => nomatch h
theorem mbistDone (failed : Bool) : Statement (.mbistDone failed) := fun _ _ h => nomatch h
theorem stagingClearDone : Statement (.stagingClearDone) := fun _ _ h => nomatch h
theorem supplyFault (source : Fin 6) : Statement (.supplyFault source) := fun _ _ h => nomatch h
theorem aonPowerLoss : Statement (.aonPowerLoss) := fun _ _ h => nomatch h
theorem clockMonitorWindow (dom : Fin 20) (khz : Nat) : Statement (.clockMonitorWindow dom khz) := fun _ _ h => nomatch h
theorem clockAbsent (dom : Fin 20) : Statement (.clockAbsent dom) := fun _ _ h => nomatch h
theorem conjunctionDeadline (w : Fin 8) : Statement (.conjunctionDeadline w) := fun _ _ h => nomatch h
theorem fltForceSafeFall : Statement (.fltForceSafeFall) := fun _ _ h => nomatch h
theorem offRequestRetry : Statement (.offRequestRetry) := fun _ _ h => nomatch h
theorem mbistWaitEnd : Statement (.mbistWaitEnd) := fun _ _ h => nomatch h
theorem aonPowerOnRelease (misordered : Bool) : Statement (.aonPowerOnRelease misordered) := fun _ _ h => nomatch h
theorem timeNsJump (timeNs : BitVec 64) : Statement (.timeNsJump timeNs) := fun _ _ h => nomatch h
theorem notifyRelay (frame : BitVec 64) : Statement (.notifyRelay frame) := fun _ _ h => nomatch h
theorem peerFrameSend : Statement (.peerFrameSend) := fun _ _ h => nomatch h

end Sys2Proof.Laws.QueueNumber
end

