-- ==== Sys2Proof/Tests/Slice0.lean ====
section
/-! SUPPORT. Tests: an ill-formed command for each check, figures the spec works out, and for each obligation with
hypotheses a state and operands that meet them. -/

namespace Sys2Proof.Tests

open Sys2Proof Sys2Proof.Machine

-- One kernel evaluation at a time: each that waits for the ones before it would hold a thread of its own.
set_option Elab.async false

/-! ### Well-formed and ill-formed commands -/

/-- Every check of Instr.wf refuses a command. -/
theorem test_wf_refuses :
    [Instr.bypassAnswer false 4 0, .bypassAnswer true 5 0, .fence 0x2001, .nop 0x2050, .link 0x20FF, .burstIssue 3 [],
     .burstIssue 3 [7, 7], .readResponse 0 0x20000 0, .writeCompletion 0 0x1000, .holdAnswer 0 5, .transactionLost 0 false 4096,
     .quarantineEnd 0 false 8191, .odwWrite 257, .sessionEnd (.dq .installer), .sessionIdleEnd (.dq .installer),
     .nonceExpiry (.dq .installer), .authLockoutEnd (.dq .installer), .mctpRead ⟨0, 0, 0⟩ (List.replicate 321 0),
     .decAnswer 0 0 0, .decAnswer 0 6 0, .calibrationPeriod [1] [1, 2, 3, 4] 0, .selfCheckTrip 0x100 0, .presence 2,
     .tickFrame 1 0, .forwardDoorbell 0x20003, .returnDoorbell 0x10003, .notifyRelay 4, .peerEvent 3,
     .clockMonitorWindow 19 0, .clockAbsent 19].all (fun c => !c.wf) = true := by decide +kernel

/-- Commands at the ends of their ranges are well formed. -/
theorem test_wf_accepts :
    [Instr.bypassAnswer true 4 0, .bypassAnswer false 5 0, .bypassAnswer false 0x4000 0, .bypassAnswer false 0x5FFF 0,
     .fence 0x2000, .nop 0x21FF, .link 0x2100, .burstIssue 3 [8191], .readResponse 0 0x1FFFF 0, .writeCompletion 0 0x20000,
     .holdAnswer 0 0x20000, .transactionLost 0 false 4095, .transactionLost 0 true 8191, .odwWrite 256, .sessionEnd .reg,
     .nonceExpiry (.mctp 255), .decAnswer 7 5 3, .selfCheckTrip 0x17F 0, .selfCheckTrip 0x166 0, .presence 1,
     .forwardDoorbell 0x10003, .returnDoorbell 0x20003, .clockAbsent 18].all Instr.wf = true := by decide +kernel

/-- No row has bits: no word spells a command (log entry 1). -/
theorem test_no_word (n w : Nat) : decodeTableWord n w = none := rfl

/-! ### Figures of the spec -/

/-- The text 123456789. -/
def digits : List Nat := [49, 50, 51, 52, 53, 54, 55, 56, 57]

/-- The check values of R123. -/
theorem test_crc32c : crc32c 0 digits = 0xE3069283 := by decide +kernel

theorem test_crc64 : crc64 0 digits = 0xAE8B14860A799888 := by decide +kernel

theorem test_add64 : add64 0 digits = 0x383736353433326A := by decide +kernel

/-- R36, R40, R50 and the example of admission: 1 µs, 3,200 lines, shares of 469. -/
theorem test_budget : tickPs 2 = 1000000 ∧ budgetB 1600 1000000 = 3200 ∧ (mkResv 60000 60000 3).rRd = 469 := by
  decide +kernel

/-- The examples of R59 and R64: 6,400 share units refill 20,000 B a tick, and marks take 6,400 to 5,600 to 4,900. -/
theorem test_limiter : refillOf (6400 * 256) 1000000 = 20000 * 256 ∧
    6400 * 256 * (2 ^ 3 - 1) / 2 ^ 3 = 5600 * 256 ∧ 5600 * 256 * (2 ^ 3 - 1) / 2 ^ 3 = 4900 * 256 := by decide +kernel

/-- The example of R158: 2^24 + 1.0 rounds to 2^24, and the sum of the three rows is +0. -/
theorem test_fixed_order :
    let v := fun (bits : Nat) => Fv.decode fp32 (bits * 2 ^ 16)
    let a := Fv.fma (v 0x3F80) (v 0x3F80) (v 0x4B80)
    (Fv.encode fp32 false a).1 = 0x4B800000 ∧
    (Fv.encode fp32 false (Fv.fma (v 0x3F80) (v 0xCB80) a)).1 = 0 := by decide +kernel

/-! ### States -/

/-- A block out of reset in a mode, every domain on, a Maker session on the register path, fabric time 5 µs. -/
def live (m : Mode) : State :=
  { State.reset with
    held := false, mode := m, clk := 5000000, nextId := 100, pwr := { State.reset.pwr with up := 2 ^ 98 - 1, init := 5 },
    dct := { sess := [(0, { role := 3, last := 0 })] },
    tt := { running := true, everValid := true, timeValid := true, tickStart := 4000000, tickEnd := 6000000, time := 5000000 } }

/-- Window 7: tenant 3's first TiB on port 2, at an offset of 64. -/
def win : Window :=
  { station := 0, tenant := 3, port := 2, mem := false, rd := true, wr := true, base := 0, size := 2 ^ 40, offset := 64 }

/-- An entry of 16·n bytes with an opcode, its words from 1 on. -/
def ent (op n : Nat) (ws : List Word) : Ent :=
  let h := 1 + n * 2 + op * 256
  { uid := 77, unit := 4, wrap := false, hdr := h,
    words := (List.range (ws.length + 1)).map (fun i => (i, if i = 0 then BitVec.ofNat 64 (h + 0x1234 * 2 ^ 32) else ws.getD (i - 1) 0)) }

/-- Tenant 3 with queue 9, rings 4 and 5, vector 3, and both Dispatch Queues; entries of queue 9, and of both Dispatch
Queues. -/
def busy (m : Mode) (g : Queue) (es ds : List Ent) : State :=
  let q : Queue := { g with tenant := 3, db := 5, base := 0x10000, head := 0x5000, port := some 2, ring := 4, ents := es }
  let d0 : Queue := { dq := true, ring := 0x2000, cls := 3, ents := ds, base := 0x100000, head := 0x90000 }
  let d3 : Queue := { d0 with tenant := 3, ring := 0x2103, base := 0x200000, head := 0x90008 }
  let r : Ring := { tenant := 3, c := 2, base := 0x20000, free := 9, vec := some 3 }
  { live m with
    wins := [(7, win)], tenants := [(3, { enabled := true, maxSq := 9, maxCr := 9, classes := 5 })],
    queues := [(9, q), (0x2000, d0), (0x2103, d3)],
    rings := [(4, r), (5, { r with c := 6, base := 0x70000 }), (0x2000, { dq := true, free := 9, base := 0x300000 }),
              (0x2103, { dq := true, free := 9, tenant := 3, base := 0x400000 })],
    vecs := [(3, { assigned := true, tenant := 3 })] }

/-- The command at the head of Dispatch Queue 0, and of tenant 3's. -/
def cmd0 (e : Ent) : Cmd := ⟨.installer, e⟩
def cmd3 (e : Ent) : Cmd := ⟨.tenant 3, e⟩

/-- The next state of an outcome. -/
def next (r : Safety.Result) : State := match r with | .next s => s | _ => {}

/-! ### States that meet the hypotheses of each obligation, clause by clause -/

theorem witness_StepRunsFrontCommand : ({ live .run with pending := [.nop 9, .tickBoundary] } : State).pending = .nop 9 :: [.tickBoundary] :=
  rfl

theorem witness_IdleStepPassesOneTimCycle : State.reset.pending = [] ∧ State.reset.held = true ∧ (live .run).pending = [] := by
  decide +kernel

theorem witness_MarksHoldIsKeptByEveryStep : Safety.MarksHold State.reset ∧
    step State.reset = .next (next (step State.reset)) := ⟨by decide +kernel, rfl⟩

theorem witness_StillMachineStaysStill : Safety.Still (live .factoryTest) ∧
    Safety.Still { live .configure with pwr := { (live .configure).pwr with req := 2 ^ 98 - 1 } } ∧ (live .run).works = [] := by
  refine ⟨⟨rfl, rfl, rfl, .inl rfl⟩, ⟨rfl, rfl, rfl, .inr ⟨.inl rfl, ⟨0, ?_⟩, ?_⟩⟩, rfl⟩ <;> decide +kernel

theorem witness_HeldBlockIgnoresCommands : State.reset.held = true := rfl

theorem witness_CollectorQueueFavoursUrgent :
    let u := List.replicate 3 (3 * 65536)
    let r := List.replicate 13 (2 * 65536)
    (∀ x ∈ u, 3 ≤ msgSev x) ∧ (∀ x ∈ r, msgSev x < 3) ∧ (u ++ r).length = 16 ∧ r = List.replicate 12 (2 * 65536) ++ [2 * 65536] ∧
    msgSev (2 * 65536) < 3 ∧ 3 ≤ msgSev (4 * 65536) ∧ (∀ x ∈ List.replicate 16 (3 * 65536), 3 ≤ msgSev x) := by decide +kernel

theorem witness_SeverityFieldsKeepTheirFloors : haltFloor 0x160 = true ∧ haltFloor 0x170 = false ∧ hasUnit 0x170 = false ∧
    haltFloor 0x045 = false ∧ hasUnit 0x045 = true ∧ hasUnit 0x063 = false ∧ haltFloor 0x063 = false := by decide +kernel

theorem witness_JournalHolds1024Entries : let e : JEnt := ⟨0, 0, 0, 0, 0, 0, 0, 0, 0⟩
    State.reset.jHeld ≤ 1024 ∧ ({ State.reset with journal := List.replicate 1024 e } : State).jHeld = 1024 ∧
    State.reset.dct.spill.length ≤ 64 := by decide +kernel

theorem witness_FramesCarryTheirFields : frameOk (mkFrame 4 15 3 15 (2 ^ 40 - 1)) = true := by decide +kernel

theorem witness_WritesChangeOnlyStrobedBytes : (7 : Nat) < 8 ∧ strobe 0x1122334455667788 0xAABBCCDDEEFF0011 0x81 = 0xAA22334455667711 := by
  decide +kernel

/-- A GREDUCE entry with types, operation, DIM and per-sample address. -/
def reduceEnt (it ot op dim : Nat) (sp : Word) : Ent :=
  ent 10 6 [0, 0, 0, 0, 0, sp, 0, 0, 1, BitVec.ofNat 64 (dim + it * 65536 + ot * 2 ^ 20 + op * 2 ^ 24), 0]

theorem witness_ReduceInvalidIsJudgedFirst :
    [reduceEnt 7 0 0 8 0, reduceEnt 6 1 0 8 0, reduceEnt 5 4 0 6 0, reduceEnt 5 0 0 16388 0, reduceEnt 5 0 3 16384 0,
     reduceEnt 0 0 2 1 9].all (fun e => e.opc == 10 && e.bad == none && !bodyBad e &&
       decide (Safety.Due (busy .run {} [e] []) 9 10 e)) = true := by decide +kernel

theorem witness_MakerTestRange : (live .factoryTest).held = false ∧ 0x1000000 ≤ (0x3FFFFF : BitVec 22).toNat * 8 ∧
    (live .factoryTest).sessRole 0 = 3 ∧ (live .run).mode ≠ .factoryTest ∧ 0x200000 * 8 = 0x1000000 := by decide +kernel

theorem witness_RegisterAccessesAreAnswered : Safety.Open (live .run) 0x9000 ∧ (live .safe).held = false := by decide +kernel

/-- The dictionary's register path with an index and a sub-index. -/
def odw (i sub : Nat) (v : Nat) : State :=
  let s := (live .run).setReg 0x30000 (BitVec.ofNat 64 (i + sub * 65536))
  { s with dct := { s.dct with buf := v } }

theorem witness_DictionaryRegisterPath : Safety.Reached (odw 0x1000 1 0) 0x30010 ∧ (odw 0x1000 1 0).dspUp = true ∧
    fld ((odw 0x1000 1 0).reg 0x30000 0) 0 16 = 0x1000 ∧ fld ((odw 0x1010 4 3600).reg 0x30000 0) 16 8 = 4 ∧
    2 ≤ (odw 0x1010 4 3600).sessRole 0 ∧ (odw 0x1010 4 3600).sessRole 0 ≤ 3 ∧ (odw 0x1010 4 3600).jFull = false ∧
    (odw 0x1010 4 3600).dct.buf % 2 ^ 16 = 3600 ∧ (odw 0x1010 4 10).dct.buf % 2 ^ 16 = 10 := by decide +kernel

theorem witness_DoorbellsAndResultSlots : let s := busy .run {} [] []
    let t : State := { s with tenants := [(3, { enabled := true, slots := List.replicate 16 { valid := true } })] }
    Safety.Reached s (tenOff 3 (0x1000 + 8 * 5)) ∧ (s.tenant 3).enabled = true ∧ s.queueAt 3 5 = some 9 ∧ s.queueAt 3 511 = none ∧
    Safety.Reached s (tenOff 3 (0x1000 + 8 * 511)) ∧ Safety.Open s 0x50 ∧ s.dqState 0x2000 = 1 ∧ Safety.Reached s (tenOff 3 0x20) ∧
    s.dqState 0x2103 = 1 ∧ Safety.Reached t (tenOff 3 (0x100 + 16 * 15 + 8)) ∧ ((t.tenant 3).slots.getD 15 {}).valid = true := by
  decide +kernel

theorem witness_RescanPending : let s := busy .run { scanning := true, rescan := true } [] []
    (s.queue 9).st = .active ∧ s.scanMode (s.queue 9) = true ∧ (s.queue 9).scanning = true ∧ (s.queue 9).rescan = true ∧
    (s.queue 9).reading = false ∧ (s.queue 9).ents = [] ∧ Tbl.has 9 s.queues = true := by decide +kernel

theorem witness_RingArmBit : let s := busy .run {} [] []
    Safety.Reached s (tenOff 3 (0x800 + 8 * 2)) ∧ (s.tenant 3).enabled = true ∧ s.ringAt 3 2 = some 4 ∧ (s.ring 4).vec = some 3 ∧
    (s.ring 4).wr ≠ (5 : BitVec 16).toNat := by decide +kernel

theorem witness_TimetableRegisters : let s := live .configure
    Safety.Open s 0x10000 ∧ s.tt.resv = [] ∧ s.jFull = false ∧ fld (Safety.wrote s 0x10000 6 0xFF) 0 3 ≠ 7 ∧
    fld (Safety.wrote s 0x10000 6 0xFF) 16 14 * 1000 < tickPs 6 ∧ ¬(6 = s.tt.cfgLen) ∧ Safety.Open s 0x10100 ∧
    fld (Safety.wrote s 0x10100 50 0xFF) 0 7 = 50 ∧ fld (Safety.wrote s 0x10100 90 0xFF) 0 7 = 90 ∧ Safety.Open s 0x10308 ∧
    s.hwmSel < 22 := by decide +kernel

theorem witness_LimiterRegisters : let s := live .configure
    s.limSel = 0 ∧ s.jFull = false ∧ Safety.Open s 0x10208 ∧ Safety.Open s 0x10218 ∧
    limCfgOk (mkWord [(0, 60, fld (Safety.wrote s 0x10208 6400 0xFF) 0 60)]) = true := by decide +kernel

theorem witness_DispatchQueueRegisters : let s := busy .run {} [] []
    let t : State := { s with queues := [], rings := [] }
    Safety.Open t 0x48 ∧ t.dqState 0x2000 = 0 ∧ t.dqEnabling 0x2000 = false ∧ fbit (0x12345641 : Word) 0 = true ∧
    s.dqState 0x2000 = 1 ∧ Safety.Reached t (tenOff 3 0x18) ∧ t.dqState 0x2103 = 0 ∧ t.dqEnabling 0x2103 = false ∧
    findWin t.wins 3 (64 * fld (0x12345641 : Word) 6 46) 64 = some (7, win) ∧ s.dqState 0x2103 = 1 := by decide +kernel

theorem witness_VectorAndSeverityWrites : let s := live .configure
    let t := live .factoryTest
    Safety.Open s 0x1000 ∧ s.vecNamed 2047 = false ∧ s.jFull = false ∧ Safety.Open s 0x20100 ∧ fbit (s.reg 0x20000 0) 16 = false ∧
    (sevWord 0 (s.sbx.sev.getD 0 0) (strobe (s.sbx.sev.getD 0 0) 0x3333333333333333 0xFF) false).2 = true ∧
    (sevWord 23 (t.sbx.sev.getD 23 0) (strobe (t.sbx.sev.getD 23 0) 0x4444440000001114 1) true).2 = true := by decide +kernel

theorem witness_ModeRequests : let s := live .configure
    let t : State := { s with dct := { s.dct with sess := [(0, { role := 3, last := 0 }), (6, { role := 3, last := 0 })] } }
    Safety.Live s ∧ s.modeReason 0 true true = 0 ∧ s.modeReason 4 true true = 0 ∧ s.modeReason 7 true true = 0 ∧
    (live .coldInit).modeReason 2 true true = 0 ∧ (live .coldInit).modeReason 3 true true = 0 ∧
    (live .factoryTest).modeReason 1 true true = 0 ∧ (live .run).modeReason 6 true true = 0 ∧
    (t.dspUp = true ∧ t.role (.mctp 5) = 3 ∧ t.modeReason 4 true true = 0) ∧ s.jFull = false ∧
    (2 ≤ s.sessRole 0 ∧ s.pwr.trans = none ∧ (live .coldInit).pwr.init = 5 ∧ (live .coldInit).pwr.mbistFail = false) ∧
    ((live .off).held = false ∧ (live .off).sbx.terminal = false ∧ (live .off).pwr.supply.getD 1 0 = 0) := by decide +kernel

/-- The items of R406 hold in CONFIGURE, and every domain of each target has been asked for and is on. -/
theorem witness_ModeRequests_targets :
    let s : State := { live .configure with pwr := { (live .configure).pwr with req := 2 ^ 98 - 1 } }
    Safety.Runnable s ∧ [2, 3, 4].all (fun r => decide (Safety.Powered s r)) = true ∧ s.runOk = true := by
  refine ⟨⟨?_, ?_, ?_, ⟨0, ?_⟩, ⟨0, ?_⟩, ?_, ?_, ?_⟩, ?_, ?_⟩
  case refine_7 => intro khz h; cases h
  all_goals decide +kernel

/-- A live block with the test key in a state. -/
def keyed (m : Mode) (k : Nat) : State := { live m with sbx := { (live m).sbx with key := k } }

theorem witness_TestKeyArming : Safety.Open (keyed .run 0) 0x20500 ∧ fld (0x5AFE : Word) 0 16 = 0x5AFE ∧
    fld (0xA501 : Word) 0 16 = 0xA501 ∧ (keyed .run 0).sbx.key = 0 ∧ Safety.Open (keyed .run 1) 0x20500 ∧
    (keyed .run 1).sbx.key = 1 ∧ Safety.Open (keyed .run 2) 0x20500 ∧ (keyed .run 2).sbx.key = 2 := by decide +kernel

theorem witness_ForceAndInjection : let s := keyed .factoryTest 2
    Safety.Open s 0x20200 ∧ s.sevOf (64 * 5 + 63) < 3 ∨ s.sbx.key = 2 ∧ Safety.Open s 0x20508 ∧ s.injWindow = true ∧
    Safety.Open s 0x20008 := by decide +kernel

/-- SAFE in a sub-state, with a warm reset asked for and the pin. -/
def safe (sub : Nat) (force : Bool) : State := { live .safe with sbx := { (live .safe).sbx with sub := sub, forceSafe := force } }

theorem witness_WarmResetAndPins : Safety.Live (live .run) ∧ (live .run).sbx.terminal = false ∧ (live .run).pwr.trans = none ∧
    ((safe 1 false).held = false ∧ (safe 1 false).mode = .safe ∧ (safe 1 false).sbx.sub = 1 ∧ (safe 1 false).sbx.forceSafe = false) ∧
    ((safe 2 false).sbx.sub = 2 ∧ (safe 2 false).sbx.offHeld = false) ∧
    ((safe 2 true).sbx.forceSafe = true ∧ (safe 2 true).sbx.warmHeld = false) := by decide +kernel

/-- Channel 9 of tenant 3, granted. -/
def chan : Chan := { granted := true, tenant := 3, act := [0x100000, 4, 0, 0x2004, 0] }
def chanState (c : Chan) : State := { busy .run {} [] [] with chn := { chans := [(9, c)] } }

theorem witness_ChannelControls : let s := chanState chan
    Safety.Reached s (chOff 9 0) ∧ (s.chan 9).granted = true ∧ (s.chan 9).alg ≤ 3 ∧ (s.chan 9).st = .disabled ∧
    (s.chan 9).enable = false ∧ s.chStarted 9 = 0 ∧ s.chEnableOk 9 (s.chan 9) = true ∧
    (let t := chanState { chan with act := [0x100000, 1, 0, 0x2004, 0] }; t.chEnableOk 9 (t.chan 9) = false) ∧
    ((chanState { chan with st := .active, enable := true }).chan 9).st = .active ∧
    ((chanState { chan with st := .parked, enable := true }).chan 9).st = .parked ∧
    ((chanState { chan with st := .stopped, enable := true }).chan 9).st = .stopped := by decide +kernel

theorem witness_ChannelShadows : let s := chanState chan
    let t := chanState { chan with st := .active, enable := true, arm := 1, pend := 16, sh := [0x100000, 4, 0, 0x2004, 7] }
    let h : State := t.updChan 9 (fun x => { x with
      act := [x.act.getD 0 0, x.act.getD 1 0, ptrWord x.ptr, x.act.getD 3 0, x.sh.getD 4 0], pend := 0, arm := 0,
      armDue := false, hcount := (x.hcount + 1) % 65536, htick := t.tt.tickNum % 2 ^ 32 })
    Safety.Reached s (chOff 9 (shadowOff .ringcfg)) ∧ [ShadowReg.ringbase, .ringcfg, .ptr, .reqcfg, .evtcfg][1]? = some .ringcfg ∧
    chLegal 1 16 (strobe ((s.chan 9).sh.getD 1 0) 16 0xFF) = true ∧ Safety.Reached s (chOff 9 0x180) ∧ Safety.Live t ∧
    ((t.chan 9).arm = 1 ∧ (t.chan 9).atBoundary = true) ∧ (t.chan 9).pend = 16 ∧ h.chEnableOk 9 (h.chan 9) = true := by decide +kernel

theorem witness_TelemetryAndFeed : let s := live .run
    let tl : Tel := { active := true, feed := true, lo := 3, hi := 3 }
    let t : State := { s with bgs := { tel := [(2, tl)] } }
    let takes := fun (p : Nat × Tel) =>
      p.2.active && p.2.stopCmd.isNone && p.2.feed && decide (p.2.lo ≤ (3 : BitVec 8).toNat ∧ (3 : BitVec 8).toNat ≤ p.2.hi)
    Safety.Open s 0x40610 ∧ fld (Safety.wrote s 0x40610 63 0xFF) 0 20 < 2 ^ (s.tel 0).log2n ∧ Safety.Live s ∧
    s.isOn domBGS = true ∧ s.dataNow = true ∧ s.mode ≠ .quiesce ∧ t.bgs.tel.find? takes = some (2, tl) ∧ t.staged < 1024 ∧
    ({ s with bgs := { tel := [(2, { tl with staged := List.replicate 1024 (1, 1, 1) })] } } : State).staged = 1024 ∧
    s.bgs.tel.find? takes = none := by decide +kernel

/-- A Weighbridge in FACTORY_TEST. -/
def scale (w : Wbg) : State := { live .factoryTest with wbg := w }

theorem witness_WeighbridgeRegisters : let s := scale { sealing := true, key := some 6 }
    s.held = false ∧ ¬(s.wbg.snap.rec_.isSome = true ∧ s.wbg.snap.ready = false) ∧ s.wbg.st = 0 ∧ s.sessRole 0 = 3 ∧
    fld (0x5EA1 : Word) 0 16 = 0x5EA1 ∧ fld (0x0D1E : Word) 0 16 = 0x0D1E ∧ fld (86400 : Word) 0 17 = 86400 ∧
    fld (1 : Word) 0 17 = 1 ∧ (scale { st := 2 }).wbg.st ≠ 0 ∧ (live .run).wbg.st = 0 ∧ (live .run).mode ≠ .factoryTest := by
  decide +kernel

/-- A Station with its Peer Link enabled. -/
def station (x : Stn) : State := { (live .run).setReg 0x60000 0x47 with stn := x }

theorem witness_PeerSends : Safety.Open (station { id := 3 }) 0x60038 ∧ (station { id := 3 }).peerOpen = true ∧
    (station { id := 3 }).isOn domDSP = true ∧ ((live .run).setReg 0x60000 0x46).linkEn = false ∧
    (station { id := 3 }).linkEn = true ∧ Safety.Live (station { tick := some 4000000 }) ∧
    (station { tick := some 4000000 }).stn.tick = some 4000000 ∧ (station { relay := [6, 7] }).stn.relay = 6 :: [7] ∧
    fType (3 : Word) ≠ 4 ∧ fType (4 : Word) = 4 ∧ (station {}).sbx.fpeer = false := by decide +kernel

/-- Data entries of each opcode; the last two end by their checks. -/
def entCopy : Ent := ent 1 2 [0x1000, 0x40000, 0x80000]
def entZero0 : Ent := ent 3 2 [0, 0x40000, 0]

/-- What admission says of an entry: a job with a place, or an end. -/
def admits (s : State) (e : Ent) : Nat × Bool :=
  match judgeEntry s 9 (s.queue 9) e with
  | .run j => (0, s.hasPlace j)
  | .done st _ _ => (1 + st, false)
  | _ => (9, false)

/-- The ranges of an entry as window 7 translates them. -/
def ranges (e : Ent) : List (Chk × Rng × Nat) :=
  e.ranges.map (fun c => (c, { fa := addOff c.a win.offset, len := c.len, ta := c.a, win := 7, port := some 2, code := c.code }, 0))

/-- Queue 9 with one entry, its window's port UP. -/
def due (e : Ent) : State := { busy .run {} [e] [] with ports := [(2, { up := true })] }

/-- An entry's header with the flags CSUM and an algorithm. -/
def flagged (e : Ent) : Ent :=
  { e with hdr := e.hdr + 2 ^ 16 + 2 ^ 24, words := e.words.map (fun w => if w.1 = 0 then (0, w.2 + 0x1010000) else w) }

/-- One entry of each opcode, with its opcode. -/
def entsOf : List (Nat × Ent) :=
  [(1, entCopy), (2, ent 2 2 [0x1000, 0x40000, 0x1122334455667788]), (3, ent 3 2 [0x1000, 0x40000, 0]),
   (4, ent 4 2 [0x1000, 0x40000, 0x80000]), (5, flagged (ent 5 2 [0x20000, 0x40000, 0x1000])),
   (6, ent 6 3 [0, 0x40000, 0x2000000001000, 0x80000, 0x90000]),
   (8, ent 8 5 [0, 0x1000, 0x40000, 0x80000, 16, 64, 100, 64, 0]), (9, ent 9 5 [0, 0x1000, 0x40000, 0x80000, 16, 64, 100, 64, 0]),
   (10, ent 10 6 [0, 0x1000, 0x2000, 0x40000, 0x80000, 0, 0x800000002, 64, 100, 16, 0])]

/-- All of Safety.Runs but its ranges. -/
def startable (x : Nat × Ent) : Bool :=
  let s := due x.2
  let e := x.2
  let j := mkJob s 9 (s.queue 9) e (ranges e)
  decide (Safety.Due s 9 x.1 e) && !bodyBad e && (x.1 != 10 || reduceBad e == none) && alignBad e == none && !rangesBad e &&
  !e.isZero && decide (s.moverLoad 0 < 12) && s.isOn (domMv 0) && !s.mvFenced 0 && decide (s.unitsUsed + j.unitsFor ≤ 44) &&
  s.idxFits j && decide (s.groups < s.allocMax) && s.quadFor.isSome && !s.allocWaits s.nextId

/-- The ranges of an entry are placed by window 7. -/
def placed (x : Nat × Ent) : Bool :=
  let s := due x.2
  x.2.ranges.all (fun c => findWin s.wins 3 c.a c.len == some (7, win)) && s.portUp (some 2) && win.station == s.stn.id && !fCoh x.2.hdr

theorem runs_of_placed (x : Nat × Ent) (h : (startable x && placed x) = true) : Safety.Runs (due x.2) 9 x.1 x.2 (ranges x.2) := by
  simp only [startable, placed, Bool.and_eq_true, Bool.or_eq_true, Bool.not_eq_true', decide_eq_true_eq, beq_iff_eq, bne_iff_ne,
    List.all_eq_true] at h
  obtain ⟨⟨⟨⟨⟨⟨⟨⟨⟨⟨⟨⟨⟨⟨h1, h2⟩, h3⟩, h4⟩, h5⟩, h6⟩, h7⟩, h8⟩, h9⟩, h10⟩, h11⟩, h12⟩, h13⟩, h14⟩, ⟨⟨k1, k2⟩, k3⟩, k4⟩ := h
  refine ⟨h1, h2, fun h => h3.resolve_left (fun n => n h), h4, h5, h6, ?_, ⟨0, by decide, h9, h8, by omega, .inr ?_⟩, h10, h11,
    fun _ => ⟨h12, h13, h14⟩⟩
  · refine List.forall₂_map_right_iff.mpr (List.forall₂_same.mpr fun c hc => ⟨7, win, k1 c hc, fun _ => rfl, fun _ => rfl, ?_, k3, k2, rfl⟩)
    intro hcoh; rw [k4] at hcoh; cases hcoh
  · exact lt_of_le_of_lt (List.Sublist.length_le (List.monotone_filter_right _ fun w hw => (Bool.and_eq_true _ _ ▸ hw).1)) h7

/-- An entry of each opcode meets Safety.Runs. -/
theorem witness_DataAdmission_runs : ∀ x ∈ entsOf, Safety.Runs (due x.2) 9 x.1 x.2 (ranges x.2) := by
  have h : entsOf.all (fun x => startable x && placed x) = true := by decide +kernel
  exact fun x hx => runs_of_placed x (List.all_eq_true.mp h x hx)

theorem witness_DataAdmission :
    Safety.Due (busy .run {} [entCopy] []) 9 1 entCopy ∧ admits (busy .run {} [entCopy] []) entCopy = (0, true) ∧
    Safety.Due (busy .run {} [entZero0] []) 9 3 entZero0 ∧ admits (busy .run {} [entZero0] []) entZero0 = (1, false) ∧
    bodyBad entZero0 = false ∧ alignBad entZero0 = none ∧ entZero0.length = 0 := by decide +kernel

/-- A NOP, LINK, FENCE or WAIT_EVENT entry at the head of queue 9 is due. -/
def plainDue (op : Nat) (a b : Word) : Bool :=
  let e := ent op 2 [a, b, 0]
  decide (Safety.DuePlain (busy .run {} [e] []) 9 op e)

theorem witness_PlainAdmission :
    plainDue 0x11 0 0 = true ∧ plainDue 0x12 0 20 = true ∧ plainDue 0x10 0 20 = true ∧ plainDue 0x10 0x9000 20 = true ∧
    plainDue 0x14 0 0x0000000500000301 = true ∧ (ent 0x10 2 [0, 20, 0]).aux = 0 ∧
    findWin [(7, win)] 3 (ent 0x10 2 [0x9000, 20, 0]).aux 8 = some (7, win) ∧
    (let t : State := { busy .run { wait := some (77, 1, 3, 0, 0, 5) } [] [] with tt := { ticks := 5 } }
     (t.queue 9).wait = some (77, 1, 3, 0, 0, 5) ∧ 0 + 5 ≤ t.tt.ticks) := by decide +kernel

/-- An admin command at the head of both Dispatch Queues is ready on one of them, and passes the checks of every command. -/
def ready (s : State) (c : Cmd) (moves : Bool) : Bool :=
  decide (Safety.Ready s c c.e.opc) && decide (Safety.Passes s c moves)
def ok (e : Ent) (moves : Bool) : Bool := ready (busy .run {} [] [e]) (cmd0 e) moves
def ok3 (e : Ent) : Bool := ready (busy .run {} [] [e]) (cmd3 e) false

/-- The hypotheses of SQ_CREATE in CreateCommands, for Freight, PRIO 0, every attachment, ring 4, port 2. -/
def sqMeets (c : Cmd) (fa fh q : Nat) : Bool :=
  let s := busy .run {} [] [c.e]
  let b := Safety.begun s c
  let w := c.w 2
  let base := (c.w 0).toNat
  let head := (c.w 1).toNat
  let len := 16 * 2 ^ fld w 40 5
  let t := c.ten.getD (fld w 48 8)
  let x := b.tenant t
  cmdSched (c.w 3) == some (2, 0, 255, 0, false) && fld w 14 2 == 0 && fld w 25 7 == 0 && fld w 45 3 == 0 && fld w 56 8 == 0 &&
  c.w 5 == 0 && decide (base < 2 ^ 52) && base % 4096 == 0 && decide (head < 2 ^ 52) && head % 8 == 0 && decide (8 ≤ fld w 40 5) &&
  decide (fld w 40 5 ≤ 20) && (!fbit w 13 || fld w 0 13 == 0) && cmdQOk 2 (fld (c.w 4) 0 32) (fld (c.w 4) 32 32) && x.enabled &&
  (c.ten.isNone || (fbit w 13 && fld w 48 8 == 0 && c.w 4 == 0 &&
    decide (((b.tenantQs t).filter (fun g => !isFwdQ g.ring)).length < x.maxSq) && classBound x 2 0 == 0)) &&
  b.queueAt t (fld w 16 9) == none && b.ringAt t (fld w 32 8) == some 4 &&
  (if fbit w 13 then Tbl.free 8192 b.queues == some q else fld w 0 13 == q && !Tbl.has q b.queues) &&
  b.place t base len true false == some (fa, some 2, false) && b.place t head 8 false true == some (fh, some 2, false) &&
  !inSpans ((fa, len) :: b.ringSpans) fh && !b.heads.any (inSpans [(fa, len)])

/-- The hypotheses of CR_CREATE in CreateCommands, on port 2. -/
def crMeets (c : Cmd) (fa r : Nat) : Bool :=
  let s := busy .run {} [] [c.e]
  let b := Safety.begun s c
  let base := (c.w 0).toNat
  let w := c.w 1
  let n := (if fbit w 29 then 32 else 16) * 2 ^ fld w 24 5
  let t := c.ten.getD (fld w 48 8)
  fld w 12 4 == 0 && fld w 30 2 == 0 && fld w 43 5 == 0 && fld w 56 8 == 0 && fld (c.w 2) 13 51 == 0 && c.w 3 == 0 &&
  decide (base < 2 ^ 52) && base % 4096 == 0 && decide (4 ≤ fld w 24 5) && decide (fld w 24 5 ≤ 16) &&
  decide (fld (c.w 2) 0 13 ≤ 4096) && (!fbit w 11 || fld w 0 11 == 0) && (b.tenant t).enabled &&
  (c.ten.isNone || (fbit w 11 && fld w 48 8 == 0 && decide ((b.tenantRings t).length < (b.tenant t).maxCr))) &&
  b.ringAt t (fld w 16 8) == none && (b.vec (fld w 32 11)).assigned && (b.vec (fld w 32 11)).tenant == t &&
  (if fbit w 11 then Tbl.free 2048 b.rings == some r else fld w 0 11 == r && !Tbl.has r b.rings) &&
  b.place t base n true true == some (fa, some 2, false) && !b.heads.any (inSpans [(fa, n)])

def entSq (auto : Bool) (ten : Nat) : Ent :=
  ent 0x80 4 [0, 0x600000, 0x95000, BitVec.ofNat 64 ((if auto then 2 ^ 13 else 17) + 8 * 2 ^ 16 + 2 * 2 ^ 32 + 10 * 2 ^ 40 + ten * 2 ^ 48), 2, 0, 0]
def entCr (auto : Bool) (ten : Nat) : Ent :=
  ent 0x82 3 [0, 0x600000, BitVec.ofNat 64 ((if auto then 2 ^ 11 else 17) + 8 * 2 ^ 16 + 5 * 2 ^ 24 + 2 ^ 29 + 3 * 2 ^ 32 + ten * 2 ^ 48), 0, 0]

theorem witness_CreateCommands :
    ok (entSq false 3) false = true ∧ sqMeets (cmd0 (entSq false 3)) 0x600040 0x95040 17 = true ∧
    ok3 (entSq true 0) = true ∧ sqMeets (cmd3 (entSq true 0)) 0x600040 0x95040 0 = true ∧
    ok (entCr false 3) false = true ∧ crMeets (cmd0 (entCr false 3)) 0x600040 17 = true ∧
    ok3 (entCr true 0) = true ∧ crMeets (cmd3 (entCr true 0)) 0x600040 0 = true := by decide +kernel

/-- A short command on an ID, with more in its word. -/
def short (op id more : Nat) : Ent := ent op 2 [0, BitVec.ofNat 64 (id + more * 2 ^ 16), 0]

/-- A short command of Dispatch Queue 0 meets queue 9 in a state of its own. -/
def onQueue (st : QSt) (e : Ent) : Bool :=
  let s := busy .run { st := st } [] [e]
  ready s (cmd0 e) false && (Safety.begun s (cmd0 e)).cmdQueue (cmd0 e) 9 == some 9

theorem witness_QueueCommands :
    onQueue .disabled (short 0x81 9 0) = true ∧ onQueue .active (short 0x85 9 0) = true ∧ onQueue .active (short 0x85 9 1) = true ∧
    onQueue .active (short 0x87 9 0) = true ∧ onQueue .active (short 0x86 9 0) = true ∧ onQueue .error (short 0x86 9 0) = true ∧
    (let e := short 0x86 9 2
     let s : State := { busy .run { st := .held, heldSet := [2] } [] [e] with ports := [(2, { up := true })] }
     ready s (cmd0 e) false = true ∧ (s.queue 9).heldSet.contains 2 = true ∧ (s.port 2).up = true ∧ (s.port 2).epoch = 0) ∧
    (let e := short 0x83 5 0
     let s := busy .run {} [] [e]
     ready s (cmd0 e) false = true ∧ s.cmdRing (cmd0 e) 5 = some 5 ∧ s.boundQ 5 = [] ∧ (s.ring 5).siding = []) ∧
    (let e := ent 0x84 4 [0, BitVec.ofNat 64 (9 + 0x13 * 2 ^ 16), 0, 0x0000000600000000, 0x800, 0, 0]
     let s := busy .run { st := .disabled } [] [e]
     ready s (cmd0 e) false = true ∧ cmdSched ((cmd0 e).w 3) = some (0, 0, 8, 0, false) ∧ cmdQOk 0 0 0 = true ∧
       s.cmdQueue (cmd0 e) 9 = some 9 ∧ s.ringAt 3 6 = some 5 ∧ (s.queue 9).st = .disabled) := by decide +kernel

theorem witness_WindowAndTenantCommands :
    (let e := ent 0x88 4 [0, BitVec.ofNat 64 (8 + 3 * 2 ^ 16 + 3 * 2 ^ 33), 2 ^ 41, 2 ^ 20, 0, 0, 0]
     ok e false = true ∧ (cmd0 e).w 1 = 2 ^ 41 ∧
       (busy .run {} [] [e]).wins.any (fun p => p.1 != 8 && p.2.tenant == 3 && overlap p.2.base p.2.size (2 ^ 41) (2 ^ 20)) = false) ∧
    (let e := ent 0x89 2 [0, 7, 0]; ok e false = true ∧ Tbl.has 7 (busy .run {} [] [e]).wins = true) ∧
    (let e := ent 0x8A 2 [0, BitVec.ofNat 64 (3 + 2 ^ 8 + 9 * 2 ^ 9 + 9 * 2 ^ 19), 0]; ok e false = true) ∧
    (let e := ent 0x8A 2 [0, BitVec.ofNat 64 (6 + 2 ^ 8 + 512 * 2 ^ 9 + 256 * 2 ^ 19 + 2 ^ 56), 0]
     ok e false = true ∧ (busy .run {} [] [e]).tenants.any
       (fun p => p.1 != 6 && p.2.enabled && fbit p.2.set0 56 && fld p.2.set0 48 8 == 0) = false) ∧
    (let e := ent 0x8A 2 [0, 6, 0]
     ok e false = true ∧ (busy .run {} [] [e]).tenantQs 6 = [] ∧ (busy .run {} [] [e]).tenantRings 6 = []) := by decide +kernel

/-- Gate bank 0 of class 2 holds one entry of 5 ticks. -/
def gated (strict : Bool) (e : Ent) : State :=
  let s := busy .run {} [] [e]
  { s with tt := { s.tt with tickStart := 5000000, gates := [{}, {}, { banks := [[(0, (0x0000000500000000, 1))], []], strict := strict }, {}] } }

theorem witness_GateAndLimiterCommands :
    (let e := ent 0x90 3 [0, BitVec.ofNat 64 (2 + 1021 * 2 ^ 16 + 3 * 2 ^ 26), 0x4000, 0, 0]
     ok e false = true ∧ ¬(((busy .run {} [] [e]).gate 2).inForce = true ∧ ((busy .run {} [] [e]).gate 2).active = 0)) ∧
    (let e := ent 0x91 2 [0, 2, 9000]
     let s := gated true e
     ready s (cmd0 e) false = true ∧ (s.gate 2).pend = none ∧ gateCycle ((s.gate 2).banks.getD 0 []) 1024 0 = some 5 ∧
       s.tt.tickEnd + tickPs s.tt.cfgLen ≤ bndFrom s.tt.cfgLen (s.phasePs s.tt.cfgPhase) 9000000) ∧
    (let e := ent 0x91 2 [0, 2, 0]
     let s := gated false e
     ready s (cmd0 e) false = true ∧ bndFrom s.tt.cfgLen (s.phasePs s.tt.cfgPhase) 0 < s.tt.tickEnd + tickPs s.tt.cfgLen ∧
       (s.gate 2).strict = false) ∧
    (let e := ent 0x92 2 [0, BitVec.ofNat 64 (4095 + 2 ^ 12), 6400]
     ok e false = true ∧ limCfgOk (mkWord [(0, 60, fld ((cmd0 e).w 1) 0 60)]) = true) := by decide +kernel

/-- Every Transit window in a phase. -/
def transit (ph : TPh) (e : Ent) : State :=
  { busy .run {} [] [e] with trn := { wins := List.replicate 8 { ph := ph, p := { mem := true, size := 4096, bitmap := 0x800000 } } } }
def entOpen : Ent := ent 0x98 5 [0, 0x100000, 0x1000, 0x200000, 0, 0x800000, 0, 0x21, 0]

theorem witness_TransitCommands :
    ok entOpen true = true ∧ entOpen.aux = 0 ∧ (busy .run {} [] [entOpen]).isOn domTRN = true ∧
    (match tParse ((List.range 8).map (cmd0 entOpen).w) with
      | some (k, p) => (Safety.begun (busy .run {} [] [entOpen]) (cmd0 entOpen)).tParamOk p && k == 1
      | none => false) = true ∧
    (let e := short 0x99 (1 + 256) 0; ready (transit .sweep e) (cmd0 e) true = true ∧ ((transit .sweep e).tw 1).ph = .sweep) ∧
    (let e := short 0x99 (7 + 768) 0; ready (transit .orbit e) (cmd0 e) true = true ∧ ((transit .orbit e).tw 7).ph = .orbit) ∧
    (let e := short 0x99 (1 + 512) 0; ready (transit .mirror e) (cmd0 e) true = true ∧ ((transit .mirror e).tw 1).p.mem = true) ∧
    (let e := short 0x9A 1 0; ready (transit .mirror e) (cmd0 e) true = true ∧ ((transit .mirror e).tw 1).conjoin = none) ∧
    (let e := short 0x9B 1 0; ready (transit .mirror e) (cmd0 e) false = true ∧ ((transit .mirror e).tw 1).abortCmd = none) := by
  decide +kernel

/-- OD_READ and OD_WRITE. -/
def entOd (op ix sub len more : Nat) (v b : Word) : Ent :=
  ent op 3 [0, BitVec.ofNat 64 (ix + sub * 2 ^ 16 + len * 2 ^ 24 + more), v, b, 0]

theorem witness_ServiceCommands :
    (let e := entOd 0xA0 0x1000 1 0 0 0 0
     let r := (Safety.begun (busy .run {} [] [e]) (cmd0 e)).odRead (.dq .installer) 0x1000 1
     ok e false = true ∧ odHeadBad (cmd0 e) = false ∧ Safety.SlotIs (busy .run {} [] [e]) (cmd0 e) none ∧ r.2.1 = 0 ∧ r.2.2.2 ≤ 8) ∧
    (let e := entOd 0xA0 0x1000 1 0 (2 ^ 40 + 15 * 2 ^ 36) 0 0
     ok3 e = true ∧ Safety.SlotIs (busy .run {} [] [e]) (cmd3 e) (some (3, 15))) ∧
    (let e := entOd 0xA1 0x1010 4 2 0 600 0
     ok e false = true ∧ ((Safety.begun (busy .run {} [] [e]) (cmd0 e)).odWrite (.dq .installer) 0x1010 4 600 2).2.1 = 0) ∧
    (let e := entOd 0xA1 0x1010 4 256 0 0 0x4000
     ok e false = true ∧ (match (Safety.begun (busy .run {} [] [e]) (cmd0 e)).cmdBuf (cmd0 e) 0x4000 256 true false with
       | .ok (fa, _, _) => fa == 0x4000 | _ => false) = true) ∧
    (ok (short 0xB0 1 9) false = true ∧ ok (short 0xB0 2 4) false = true ∧ ok (short 0xB0 3 3) false = true ∧
      ok (short 0xB0 4 0) false = true) ∧
    (let e := ent 0xA8 5 [0, BitVec.ofNat 64 (1 + 16), 0x100000, 0x10000, 3600, 0, 0, 0, 0]
     let b := Safety.begun (busy .run {} [] [e]) (cmd0 e)
     ok e true = true ∧ b.mode.grants = true ∧ b.isOn domBGS = true ∧ (b.bgStart ((List.range 8).map (cmd0 e).w)).isSome = true ∧
       (let f := ent 0xA8 5 [0, BitVec.ofNat 64 (1 + 32), 0, 0, 0, 0, 0, 0, 0]
        let u : State := { busy .run {} [] [f] with bgs := { scr := [(0, { active := true })] } }
        ready u (cmd0 f) false = true ∧
          ((Safety.begun u (cmd0 f)).bgStop ((List.range 8).map (cmd0 f).w) (0x2000, 77)).isSome = true)) := by
  refine ⟨⟨?_, ?_, .inl ⟨rfl, rfl⟩, ?_, ?_⟩, ⟨?_, .inr ⟨15, 3, rfl, rfl, ?_, rfl⟩⟩, ?_, ?_, ?_, ?_⟩ <;> decide +kernel

/-- A COPY entry admitted in RUN: its bursts wait for grants. -/
def admitted : State := next (exec (.copy 9) { busy .run {} [entCopy] [] with ports := [(2, { up := true })] })
/-- The same after a boundary has dealt out credits, with its first burst granted, and issued. -/
def dealt : State := next (exec .tickBoundary admitted)
def firstBurst (l : List Burst) : Burst := l.headD { id := 0, rd := true, lines := [], own := ⟨.spill, 0, 0⟩, cls := 0 }
def granted : State := next (exec (.burstGrant (firstBurst dealt.bursts).id) dealt)
def tags : List Nat := List.range (firstBurst granted.granted).lines.length

theorem witness_GrantAndIssue :
    (let x := firstBurst dealt.bursts
     dealt.held = false ∧ dealt.mayStart x = true ∧ dealt.portUp x.port = true ∧ dealt.bursts ≠ [] ∧ dealt.dstLater x = false ∧
     (match dealt.grantable x with | some (n, _) => (dealt.pick n x.rd).map (fun y => y.1.id) == some x.id | none => false) = true) ∧
    (let x := firstBurst granted.granted
     granted.granted ≠ [] ∧ granted.mayStart x = true ∧ granted.canIssue x tags = true ∧ granted.isOn (domXa x.xa) = true ∧
     granted.burstMode x = true ∧ granted.turn x = true) := by decide +kernel

/-- One read outstanding on XA1 under tag 8191, one write under tag 4095, a quarantined tag and a Hold of scrub region 5. -/
def traffic : State :=
  let t : Txn := { xa := 1, rd := true, tag := 8191, op := { line := 4, key := 0 }, own := ⟨.work, 9, 0⟩, issued := 4000000, tmo := 7,
                   port := none, lim := none, ctx := 9, cls := 2 }
  { live .run with
    txns := [t, { t with rd := false, tag := 4095 }], quar := [{ xa := 1, rd := true, tag := 0, ends := 9000000, line := 4, ctx := 9 }],
    holds := [{ hid := 0x45, line := 0, lines := 64, xa := 1, at_ := 0 }] }

theorem witness_ResponsesAndLosses : Safety.Live traffic ∧
    (traffic.txns.find? (fun t => t.xa == 1 && t.rd == true && t.tag == bits (8191 : BitVec 18).toNat 0 13)).isSome = true ∧
    (traffic.txns.find? (fun t => t.xa == 1 && t.rd == false && t.tag == bits (4095 : BitVec 18).toNat 0 12)).isSome = true ∧
    bit (4095 : BitVec 18).toNat 17 = false ∧ bits (0 : BitVec 18).toNat 0 13 = 0 ∧
    (traffic.txns.find? (fun t => t.xa == 1 && t.rd == true && t.tag == 0)) = none ∧
    (traffic.quar.find? (fun x => x.xa == 1 && x.rd == true && x.tag == 0)).isSome = true ∧
    (traffic.txns.find? (fun t => t.xa == 1 && t.rd == true && t.tag == 5)) = none ∧
    (traffic.quar.find? (fun x => x.xa == 1 && x.rd == true && x.tag == 5)) = none ∧
    bit (0x20045 : BitVec 18).toNat 17 = true ∧
    traffic.holds.any (fun h => h.hid == bits (0x20045 : BitVec 18).toNat 0 7 && h.xa == 1 && !h.acked) = true := by decide +kernel

theorem witness_PortsAndInterrupts :
    let s : State := { busy .run {} [] [] with vecs := [(2047, { assigned := true, tenant := 3, due := true, last := some 4000000, hold := 9000000 })] }
    s.held = false ∧ ¬((s.port 2).up = false ∧ (s.port 2).epoch = (5 : BitVec 16).toNat) ∧ s.mode ≠ .safe ∧ s.mode ≠ .off ∧
    s.isOn domQM = true ∧ Safety.Live s ∧ (s.vec 2047).due = true ∧ (s.vec 2047).mask = false ∧
    s.vecs.all (fun y => decide (y.2.due = true → y.2.mask = false → (s.vec 2047).sendAt ≤ y.2.sendAt)) = true := by decide +kernel

theorem witness_TickBoundaries : let s := live .run
    s.held = false ∧ s.isOn domTT = true ∧ s.tt.everValid = true ∧ s.mode ≠ .off ∧ s.tt.running = true ∧ s.tt.slew = 0 ∧
    s.tt.stepTo = none ∧ s.stn.step = none ∧ s.stn.slew = 0 ∧ s.tt.transitional = false ∧ s.tt.cfgLen = s.tt.len ∧
    s.tt.cfgPhase = s.tt.phase ∧ s.tt.time ≤ s.tt.tickEnd ∧ s.stn.id = 0 ∧ 2 * s.stn.corr ≤ (tickPs s.tt.len : Int) ∧
    -(tickPs s.tt.len : Int) < 2 * s.stn.corr ∧ s.tt.reclaimed = false ∧ s.mode ≠ .safe ∧
    ({ s with tt := { everValid := true } } : State).tt.running = false := by decide +kernel

theorem witness_TimeInput : let s := live .run
    let t : State := { s with tt := { s.tt with timeValid := false } }
    s.held = false ∧ s.tt.timeValid = true ∧ t.tt.timeValid = false ∧ ({ s with tt := {} } : State).tt.everValid = false ∧
    t.tt.everValid = true ∧ t.tt.running = true ∧
    4 * ((((5250 : BitVec 64).toNat * 1000 : Nat) : Int) - (t.tt.time : Int)).natAbs = t.T ∧
    t.T < 4 * ((((5251 : BitVec 64).toNat * 1000 : Nat) : Int) - (t.tt.time : Int)).natAbs := by decide +kernel

theorem witness_SessionsAndJournal :
    let s : State := { live .run with dct := {
      sess := [(0, { role := 3, last := 70 }), (6, { role := 2, last := 80 })], nonces := [(6, ⟨4, 5⟩)], lock := [(6, 10 ^ 12)] } }
    let j : State := { (live .run).setReg 0x30200 (BitVec.ofNat 64 (1 + 8 * 4 + 5 * 4096)) with
      journal := List.replicate 64 ⟨1, 1, 2, 3, 4, 5, 6, 7, 8⟩ }
    s.held = false ∧ Tbl.get (pathKey .reg) s.dct.sess = some { role := 3, last := 70 } ∧ Safety.Reached s 0x30108 ∧
    Tbl.get (pathKey (.mctp 5)) s.dct.sess = some { role := 2, last := 80 } ∧ s.dspUp = true ∧ s.jFull = false ∧
    Tbl.get (pathKey (.mctp 5)) s.dct.nonces = some ⟨4, 5⟩ ∧ Tbl.get (pathKey (.mctp 5)) s.dct.lock = some (10 ^ 12) ∧
    fbit j.jCfg 0 = true ∧ j.dct.spill = [] ∧ j.spillMin = 64 ∧ 64 ≤ j.journal.length ∧ j.mode.grants = true ∧ j.dspUp = true ∧
    64 ≤ j.jRoom ∧
    (let o : State := { j with journal := j.journal.take 1, pwr := { j.pwr with trans := some { target := 0 } } }
     o.spillMin = o.journal.length ∧ 64 ≤ o.jRoom) ∧
    Tbl.get 0 s.dct.sess = some { role := 3, last := 70 } ∧ Tbl.get (1 + (5 : BitVec 8).toNat) s.dct.sess = some { role := 2, last := 80 } := by
  decide +kernel

/-- A Maker session of endpoint 5, the block's own endpoint ID 9; messages in bytes. -/
def mctp : State := { live .run with dct := { sess := [(6, { role := 3, last := 0 })], eid := 9 } }
def hdr : MctpHdr := ⟨9, 5, 3⟩
def kalmet (cmd ixl ixh sub len : Nat) (data : List Nat) : List Nat :=
  [0x7F, 0, 0, 0xD1, 0xA4, 0x85, cmd, 0, ixl, ixh, sub, 0, len, 0, 0, 0] ++ data

theorem witness_MctpRequests : mctp.held = false ∧ mctp.mode ≠ .off ∧ mctp.dspUp = true ∧ mctp.jFull = false ∧
    mctp.kalmetOk hdr (kalmet 1 1 0x60 3 0 []) = true ∧ mctp.odObj 0x6001 200 = none ∧
    (match mctp.odObj 0x6001 3 with | some ob => mctp.odRight (.mctp 5) 0x6001 3 ob != 0 && !objDown mctp ob | none => false) = true ∧
    (match mctp.odObj 0x1010 2 with
      | some ob => ({ mctp with dct := { mctp.dct with sess := [] } } : State).odRight (.mctp 5) 0x1010 2 ob == 2 | none => false) = true ∧
    mctp.kalmetOk hdr (kalmet 2 0 0xA0 2 1 [64]) = true ∧
    (match mctp.odObj 0xA000 2 with
      | some ob => mctp.odRight (.mctp 5) 0xA000 2 ob == 2 && ob.i == 2 && ob.size == 1 && !objDown mctp ob | none => false) = true ∧
    hdr.dst.toNat = mctp.dct.eid ∧ 3 ≤ [0, 0x83, 2].length ∧ bit 0x83 7 = true ∧ 68 < (List.replicate 69 0).length := by
  decide +kernel

/-- Channel 3 on request line 7 in a pacing mode, with descriptors of 4 KiB; its pulses. -/
def onLine (src n : Nat) (ds : List ChDesc) : Chan :=
  { st := .active, enable := true, act := [0, 4, 0, BitVec.ofNat 64 (7 + src * 256 + 4096 * 3), 0], granted := true, reqcnt := n, descs := ds }
def paced (x : Chan) : State :=
  { live .run with chn := { chans := [(3, x)], evo := [(7, 1)], evoLast := [(7, 4999000)] } }
def desc : ChDesc := { uid := 50, slot := 0, wrap := false, ring := 4096, port := none, w := [0x200 + 4096 * 2 ^ 32, 8192, 16384, 0] }

theorem witness_ChannelEvents :
    (let s := paced (onLine 1 1022 [])
     Safety.Live s ∧ s.isOn domCHN = true ∧ s.sbx.fchn = false ∧
     s.chn.chans.filter (fun p => p.2.src != 0 && p.2.line == 7) = [(3, onLine 1 1022 [])] ∧
     (onLine 1 1022 []).src = 1 ∧ (onLine 1 1022 []).st ≠ .disabled ∧ (onLine 1 1022 []).wake = false ∧ Tbl.getD 7 0 s.chn.evo = 0 + 1) ∧
    (paced (onLine 1 1023 [])).chn.chans.filter (fun p => p.2.src != 0 && p.2.line == 7) = [(3, onLine 1 1023 [])] ∧
    (paced (onLine 2 0 [])).chn.chans.filter (fun p => p.2.src != 0 && p.2.line == 7) = [(3, onLine 2 0 [])] ∧
    ({ paced (onLine 1 0 []) with sbx := { fchn := true } } : State).sbx.fchn = true ∧
    (let x := (paced (onLine 2 0 [])).chan 3
     x.src = 2 ∧ x.st ≠ .disabled ∧ x.lvl = false ∧ x.reqs.all (·.acked) = true) ∧
    (let s := paced (onLine 0 0 [desc])
     let x := s.chan 3
     x.st = .active ∧ x.hasReq = true ∧ s.mode.dataIssue = true ∧ x.target = some desc ∧ desc.wid = none ∧
     (s.moverFor x.cls).isSome = true) ∧
    (let d : ChDesc := { desc with wid := some 60, pos := 512 }
     ((paced (onLine 0 0 [d])).chan 3).target = some d) := by decide +kernel

/-- Every Transit window of one kind. -/
def windows (t : TWin) : State := { live .run with trn := { wins := List.replicate 8 t } }
def mirrored : TWin :=
  { ph := .mirror, p := { mem := true, size := 40960, bitmap := 0x8000 }, copies := [{ page := 3, wid := 9, doneAt := some 4000000 }] }

theorem witness_TransitEvents : Safety.Live (windows mirrored) ∧ ((windows mirrored).tw 7).ph = .mirror ∧
    (9 : BitVec 30).toNat < ((windows mirrored).tw 7).pages ∧ (windows mirrored).trn.nq.length < 4096 ∧
    ((windows mirrored).tw 7).dec = none ∧
    ((windows { mirrored with ph := .orbit, cache := [(0, 5)] }).tw 7).bitOf 9 = some false ∧
    ((windows { mirrored with mirrored := true }).tw 7).mirrored = true ∧
    ((windows { mirrored with ph := .conjunction, conj := some { tH := 4000000, acked := true } }).tw 7).conj =
      some { tH := 4000000, acked := true } ∧
    ((windows { mirrored with dec := some (1, 500), ending := some .abort }).tw 7).ending = some .abort ∧
    ({ windows mirrored with trn := { nq := List.replicate 4096 (7, 9) } } : State).trn.nq.length = 4096 ∧
    ([(1, 500), (2, 500), (3, 500), (4, 500), (5, 500)] : List (Nat × Nat)).all
      (fun d => ((windows { mirrored with dec := some d, conj := some { tH := 4000000 } }).tw 7).dec == some d) = true ∧
    ((windows { mirrored with conj := some { tH := 4000000 } }).tw 0).conj = some { tH := 4000000 } ∧
    ((windows { mirrored with conj := some { tH := 4000000, rebind := some 4500000 } }).tw 0).conj =
      some { tH := 4000000, rebind := some 4500000 } ∧
    ((windows mirrored).tw 7).copies.find? (fun c => c.page == (3 : BitVec 30).toNat && c.doneAt.isSome) =
      some { page := 3, wid := 9, doneAt := some 4000000 } := by decide +kernel

def wearState (w : Wear) : State := { live .run with bgs := { (live .run).bgs with wear := w } }
def wearRec : List Word := [0x100000, 0x1000, 0x200000, 0, 0x800000, 0, 0x38, 0]

theorem witness_EngineeringEvents :
    (let s : State := { live .run with bgs := { scr := [(63, { rw_ := some (5, .hold, 4000000) })] } }
     Safety.Live s ∧ (s.scr 63).rw_ = some (5, .hold, 4000000)) ∧
    (let s := wearState { waiting := some 400000, interval := 3, nsteps := 2, active := true }
     s.bgs.wear.waiting = some 400000 ∧ s.dataNow = true) ∧
    (let s := wearState { active := true, rec_ := some wearRec }
     s.bgs.wear.rec_ = some wearRec ∧ s.isOn domTRN = true ∧ (List.range 8).find? (fun i => (s.tw i).ph == .idle) = some 0 ∧
     (match tParse wearRec with | some (_, p) => p.cls == 3 && s.tParamOk p | none => false) = true) ∧
    (let s := live .run
     fbit s.bgsCtl 0 = true ∧ s.isOn domBGS = true ∧ s.bgs.calOff = false ∧ s.tt.holdover = false ∧
     -512 ≤ s.bgs.trim - 1 ∧ ({ s.bgs with trim := -512 } : Bgs).trim - 1 < -512) ∧
    (let s : State := { live .run with bgs := { lat := List.replicate 16 { avg := 600 } } }
     (s.bgs.lat.getD (2 * 7) {}).avg ≠ 0 ∧ (s.bgs.lat.getD (2 * 7 + 1) {}).avg ≠ 0) := by decide +kernel

/-- A message of each class on its way, and two words for the collector. -/
def faulty (m : Mode) (src : Nat) : State := { live m with sbx := { inbox := [{ source := src }], fltq := [5, 6] } }

theorem witness_FaultEvents :
    ([0x059, 0x040, 0x000, 0x050, 0x17A].map (fun n => (live .run).applied { source := n })) = [0, 1, 2, 3, 4] ∧
    (faulty .run 0x045).held = false ∧ (faulty .run 0x045).nextMsg = some { source := 0x045 } ∧ (faulty .run 0x045).sbx.stuck = none ∧
    (faulty .safe 0x045).mode = .safe ∧ (faulty .off 0x045).mode = .off ∧ hardwired (0x17F : Fin 384).val = true ∧
    (faulty .run 0x045).sbx.fltq = 5 :: [6] := by decide +kernel

/-- A Tap event of one quantity with even parity. -/
def tap (bad : Nat) : BitVec 72 :=
  let n := 5 * 16 + 3 * 2 ^ 12 + 1000 * 2 ^ 28 + bad
  BitVec.ofNat 72 ((List.range 8).foldl (fun a i => a + b2n (Machine.parity 8 (bits n (8 * i) 8)) * 2 ^ (64 + i)) n)
def keyBytes (n : Nat) : List Nat := List.range n ++ leBytes 4 (crc32c 0 (List.range n))

theorem witness_MeteringEvents :
    (let s : State := { scale { ovh := 4 } with tap := [tap 0] }
     s.held = false ∧ s.tap = tap 0 :: [] ∧ s.wbg.st ≠ 2 ∧ tapOk (tap 0) = true ∧ tapOk (tap 0 ^^^ 1) = false) ∧
    (scale { chain := true }).wbg.chain = true ∧ (scale { iv := { rec_ := some {} } }).wbg.iv.rec_.isSome = true ∧
    (scale { snap := { rec_ := some {} } }).wbg.snap.rec_.isSome = true ∧
    ((keyBytes 32).length = 36 ∧ crc32c 0 ((keyBytes 32).take 32) = leNat ((keyBytes 32).drop 32)) ∧ (keyBytes 31).length ≠ 36 ∧
    (scale {}).wbg.keyStat ≠ 1 ∧ (scale { keyStat := 3 }).wbg.keyStat = 3 ∧
    (scale { st := 1, cells := some (4, 5, 6) }).wbg.cells = some (4, 5, 6) := by decide +kernel

/-- A presence record, and frames to Station 2. -/
def pres : Pres := { at_ := 5, dist := 1, len := 2, phase := 0, log2l := 4, fwdEn := true, modeOk := true }
def line (x : Stn) : State := station { x with id := 2, nonce := 5, seen := [(0, pres), (15, pres)] }

theorem witness_LineEvents : (line {}).held = false ∧ (line {}).peerIn = true ∧
    [mkFrame 1 3 0 0 77, mkFrame 1 2 0 0 77, mkFrame 2 0 0 0 (100 + 2 ^ 14), mkFrame 3 5 6 14 0, mkFrame 4 15 6 14 0].all frameOk = true ∧
    frameOk (mkFrame 1 3 0 0 77 ^^^ 64) = false ∧ Tbl.get 15 (line {}).stn.seen = some pres ∧ Tbl.get 0 (line {}).stn.seen = some pres ∧
    pres.len = (line {}).tt.cfgLen ∧ pres.phase = (line {}).tt.cfgPhase ∧ (line {}).tt.running = true ∧ (line {}).alignEn = true ∧
    fbit (mkFrame 2 0 0 0 (100 + 2 ^ 14)) 30 = true ∧ fbit (mkFrame 2 0 0 0 100) 30 = false ∧ fHops (mkFrame 4 15 6 14 0) < 15 ∧
    (line { relay := List.replicate 15 0 }).stn.relay.length < 16 ∧ (line {}).peerOpen = true ∧ (line {}).isOn domDSP = true ∧
    fDest (mkFrame 3 5 6 14 0) ≠ (line {}).stn.id := by decide +kernel

/-- An entry forwarded to Station 3, outstanding or quarantined. -/
def forwarded (q : Option Nat) : State :=
  let s := ((live .run).setReg 0x60000 0x47).setReg 0x60020 (BitVec.ofNat 64 (4 + 4096 * 5))
  { s with stn := { id := 2, seen := [(3, pres)], fwd := [{ w := 3, seq := 5, q := 9, uid := 77, slot := 5, issued := some 1000, quar := q }] } }

theorem witness_ForwardEvents : Safety.Live (forwarded none) ∧
    (forwarded none).notifyIn (mkFrame 3 3 2 0 (1 + 5 * 16 + 15 * 2 ^ 12)) 1 = true ∧
    (forwarded none).notifyIn (mkFrame 3 3 2 0 (2 + 5 * 16)) 2 = true ∧
    (forwarded none).stn.fwd.any (fun o => o.w == 3 && o.slot == (5 + 0) % 256) = true ∧
    ((forwarded none).fwdOut 3 5).map (·.issued) = some (some 1000) ∧ ((forwarded none).fwdOut 3 5).map (·.quar) = some none ∧
    ((forwarded (some 4000)).fwdOut 3 5).map (·.quar) = some (some 4000) := by decide +kernel

/-- A power state over the live one. -/
def powered (m : Mode) (f : Pwr → Pwr) : State := { live m with pwr := f (live m).pwr }

theorem witness_PowerEvents :
    (let s := powered .run (fun p => { p with wait := [(97, 4000000)], req := 2 ^ 98 - 1 })
     s.held = false ∧ Tbl.get 97 s.pwr.wait = some 4000000 ∧ maskHas s.pwr.req 97 = true ∧ 97 ≠ domQM) ∧
    (let s := powered .quiesce (fun p => { p with wait := [(84, 4000000)], retReq := 2 ^ 84 })
     maskHas s.pwr.req 84 = false ∧ maskHas s.pwr.retReq 84 = true) ∧
    (let s := powered .run (fun p => { p with mvMin := 63 })
     s.gates_ = true ∧ s.isOn (domMv 63) = true ∧ s.mvFenced 63 = false ∧ s.moverLoad 63 = 0 ∧ s.offWanted 63 = false ∧
     s.pwr.mvMin < ((List.range 64).filter (fun k => !s.mvFenced k && s.isOn (domMv k))).length) ∧
    (let s := live .degraded
     s.offWanted (domRq 3) = false ∧ s.isOn (domRq 3) = true ∧ s.rqFenced 3 = false ∧
     (Tbl.vals s.works).all (fun w => w.quad != some 3) = true) := by decide +kernel

theorem witness_ResetsAndStartUp :
    let s := fun (n : Nat) => powered .coldInit (fun p => { p with init := n, mbistGo := true })
    State.reset.pwr.coldLow = true ∧ State.reset.pwr.dark = false ∧ State.reset.pwr.testMode = false ∧
    (powered .coldInit (fun p => { p with testMode := true, coldLow := false })).pwr.testMode = true ∧
    (s 1).held = false ∧ (s 1).mode = .coldInit ∧ [1, 2, 3, 4].all (fun n => (s n).pwr.init == n) = true ∧
    (live .off).mode = .off ∧ State.reset.held = true ∧ (2 : Fin 6).val ∉ State.reset.pwr.early ∧
    (live .run).mode ≠ .off ∧ (live .run).clkArmed 0 = true ∧ (live .run).clkBand 0 = some (1600000, 97, 103) := by decide +kernel

end Sys2Proof.Tests
end

section
/-! PROOFS. The arm bit of a completion ring (R100): what a register write to a tenant page does, the word a TEN_CRARM write
carries, and the message that falls due. -/

namespace Sys2Proof.Machine

open Sys2Proof.Safety

/-! ### Writes to a tenant page (R426) -/

/-- With every strobe on, the write replaces the register whole (R384). -/
theorem strobe_full (old data : Word) : strobe old data 0xFF = data := by
  have hm : BitVec.ofNat 64 ((List.range 8).foldl
      (fun a i => if (0xFF : BitVec 8).toNat.testBit i then a + 255 * 2 ^ (8 * i) else a) 0) = BitVec.allOnes 64 := by
    decide
  unfold strobe
  dsimp only
  rw [hm, BitVec.and_allOnes, BitVec.not_allOnes, BitVec.and_zero, BitVec.or_zero]

theorem State.pageWrite_ten (s : State) (t : Fin 256) {off : Nat} (ho : off < 0x2000) (data : Word) (strb : BitVec 8)
    (p : Path) : s.pageWrite (tenOff t.val off) data strb p = s.tenWrite t.val off data strb := by
  have hlo : 0x100000 ≤ tenOff t.val off := by unfold tenOff; omega
  have hhi : tenOff t.val off < 0x300000 := by unfold tenOff; omega
  have hpage : (tenOff t.val off - 0x100000) / 8192 = t.val := by unfold tenOff; omega
  have hreg : tenOff t.val off % 8192 = off := by unfold tenOff; omega
  unfold State.pageWrite
  iterate 9 rw [if_neg (by omega)]
  rw [if_pos hhi, hpage, hreg]

/-- A tenant page needs no session and writes no journal: the write has the page's effect alone. -/
theorem State.bus_ten {s : State} {t : Fin 256} {off : Nat} (h : Reached s (tenOff t.val off)) (ho : off < 0x2000)
    (data : Word) (strb : BitVec 8) :
    s.bus (tenOff t.val off) data strb = answered s ((bare s).tenWrite t.val off data strb) := by
  rw [State.bus_page h (by unfold tenOff; omega), State.pageWrite_ten _ _ ho]

theorem State.tenWrite_crarm {s : State} {t : Nat} (ht : (s.tenant t).enabled = true) (c : Fin 256) (data : Word)
    (strb : BitVec 8) : s.tenWrite t (0x800 + 8 * c.val) data strb = (s.crArm t c.val data strb, 0) := by
  have hc : (0x800 + 8 * c.val - 0x800) / 8 = c.val := by omega
  unfold State.tenWrite
  rw [if_neg (by simp [ht])]
  iterate 4 rw [if_neg (by omega)]
  rw [if_pos (by omega), hc]

/-! ### The word of a TEN_CRARM write -/

theorem b2n_le_one (b : Bool) : b2n b ≤ 1 := by cases b <;> decide

theorem decide_b2n_eq_one (b : Bool) : decide (b2n b = 1) = b := by cases b <;> rfl

/-- The number that the fields (lo, width, value) of a word add up to. -/
def fieldSum : List (Nat × Nat × Nat) → Nat
  | [] => 0
  | (lo, w, v) :: fs => v % 2 ^ w * 2 ^ lo + fieldSum fs

theorem foldl_fields (fs : List (Nat × Nat × Nat)) (a : Nat) :
    fs.foldl (fun a f => a + (f.2.2 % 2 ^ f.2.1) * 2 ^ f.1) a = a + fieldSum fs := by
  induction fs generalizing a with
  | nil => rfl
  | cons f fs ih => rw [List.foldl_cons, ih, fieldSum, Nat.add_assoc]

theorem toNat_mkWord (fs : List (Nat × Nat × Nat)) : (mkWord fs).toNat = fieldSum fs % 2 ^ 64 := by
  rw [mkWord, BitVec.toNat_ofNat, foldl_fields, Nat.zero_add]

theorem toNat_armData (rd : BitVec 16) (w arm : Bool) :
    (armData rd w arm).toNat = rd.toNat + b2n w * 2 ^ 16 + b2n arm * 2 ^ 31 := by
  have hrd := rd.isLt
  have hw := b2n_le_one w
  have harm := b2n_le_one arm
  rw [armData, toNat_mkWord]
  simp only [fieldSum]
  omega

theorem fld_armData_rdIndex (rd : BitVec 16) (w arm : Bool) : fld (armData rd w arm) 0 16 = rd.toNat := by
  have hrd := rd.isLt
  rw [fld, bits, toNat_armData, Nat.shiftRight_zero]
  omega

theorem fbit_armData_rdWrap (rd : BitVec 16) (w arm : Bool) : fbit (armData rd w arm) 16 = w := by
  have hrd := rd.isLt
  have hw := b2n_le_one w
  have hbit : (rd.toNat + b2n w * 2 ^ 16 + b2n arm * 2 ^ 31) / 2 ^ 16 % 2 = b2n w := by omega
  rw [fbit, toNat_armData, Nat.testBit_eq_decide_div_mod_eq, hbit, decide_b2n_eq_one]

theorem fbit_armData_arm (rd : BitVec 16) (w arm : Bool) : fbit (armData rd w arm) 31 = arm := by
  have hrd := rd.isLt
  have hw := b2n_le_one w
  have harm := b2n_le_one arm
  have hbit : (rd.toNat + b2n w * 2 ^ 16 + b2n arm * 2 ^ 31) / 2 ^ 31 % 2 = b2n arm := by omega
  rw [fbit, toNat_armData, Nat.testBit_eq_decide_div_mod_eq, hbit, decide_b2n_eq_one]

/-! ### Arming and disarming a ring (R97, R100) -/

/-- Ring r with the read index, its wrap bit and the arm bit of a TEN_CRARM write recorded, and read again where it is
full. -/
def State.crArmed (s : State) (r : Nat) (rd : BitVec 16) (w arm : Bool) : State :=
  (s.updRing r (fun g => { g with rdIdx := rd.toNat, rdWrap := w, armed := arm })).armReread r

/-- A message is due at once where the ring is armed and the write index differs from the read index written. -/
theorem State.crArm_armData {s : State} {t c r : Nat} (hr : s.ringAt t c = some r) (rd : BitVec 16) (w arm : Bool) :
    s.crArm t c (armData rd w arm) 0xFF =
      if arm = true ∧ ((s.ring r).wr ≠ rd.toNat ∨ (s.ring r).wrWrap ≠ w) then (s.crArmed r rd w arm).ringDue r
      else s.crArmed r rd w arm := by
  unfold State.crArm State.crArmed
  rw [hr]
  dsimp only
  rw [strobe_full, fld_armData_rdIndex, fbit_armData_rdWrap, fbit_armData_arm]

/-- A TEN_CRARM write of an enabled tenant ends with its effect on the ring, accepted. -/
theorem State.bus_crarm {s : State} {t c : Fin 256} (h : Reached s (tenOff t.val (0x800 + 8 * c.val)))
    (ht : (s.tenant t.val).enabled = true) (data : Word) (strb : BitVec 8) :
    s.bus (tenOff t.val (0x800 + 8 * c.val)) data strb = accepted s ((bare s).crArm t.val c.val data strb) := by
  have ht' : ((bare s).tenant t.val).enabled = true := ht
  rw [State.bus_ten h (by omega), State.tenWrite_crarm ht', answered_ok]

/-- A ring's message is due on the ring's vector (R101, R102). -/
theorem State.ringDue_due {s : State} {r v : Nat} (hv : (s.ring r).vec = some v) : ((s.ringDue r).vec v).due = true := by
  unfold State.ringDue
  dsimp only
  rw [hv]
  exact State.irqDue_due _ v

/-- Settles O23, from the register write of a TEN_CRARM, the word it carries, and the message due on the ring's vector. -/
theorem ringArmBit : Obligations.RingArmBit := by
  intro s t c rd w r hreach hten hring
  have hring' : (bare s).ringAt t.val c.val = some r := hring
  refine ⟨?arm, ?disarm, fun v hv => State.ringDue_due hv⟩
  case arm =>
    calc Sys2Proof.Machine.exec (.ringArm t c rd w) s
        = accepted s ((bare s).crArm t.val c.val (armData rd w true) 0xFF) := State.bus_crarm hreach hten _ _
      _ = _ := by rw [State.crArm_armData hring']; simp only [true_and]; rfl
  case disarm =>
    calc Sys2Proof.Machine.exec (.ringDisarm t c rd w) s
        = accepted s ((bare s).crArm t.val c.val (armData rd w false) 0xFF) := State.bus_crarm hreach hten _ _
      _ = _ := by rw [State.crArm_armData hring', if_neg (by simp)]; rfl

end Sys2Proof.Machine
end

section
/-! PROOFS. Entries that complete with their outcome known at admission (R112 to R116), and the reductions refused before
any range is checked (R151). -/

namespace Sys2Proof.Machine

open Sys2Proof.Safety

/-! ### Admission with the outcome known at once -/

/-- A due entry whose judgement is an outcome is admitted with that outcome. -/
theorem State.admitOp_of_done {s : State} {q op : Nat} {e : Ent} (h : Due s q op e) {st info : Nat} {res : Word}
    (hj : judgeEntry (bare s) q (s.queue q) e = .done st info res) :
    (bare s).admitOp q op = (bare s).admitDone q e.uid st info res := by
  obtain ⟨-, hold, hop, hbad, hdq, hadm, hfail⟩ := h
  have hold' : ((bare s).queue q).oldest = some e := hold
  have hdq' : ((bare s).queue q).dq = false := hdq
  have hadm' : (bare s).admissible q e = true := hadm
  have hj' : judgeEntry (bare s) q ((bare s).queue q) e = .done st info res := hj
  unfold State.admitOp
  simp [hold', hop, hbad, hdq', hadm', hfail, hj']

/-! ### Reductions refused (R151) -/

/-- A well-formed GREDUCE entry that R151 refuses is judged so, whatever its ranges and the queue. -/
theorem judgeEntry_of_reduceBad {e : Ent} (hop : e.opc = 10) (hbad : e.bad = none) (hbody : bodyBad e = false)
    {code : Nat} (hr : reduceBad e = some code) (s : State) (qid : Nat) (g : Queue) :
    judgeEntry s qid g e = .done 0x1B (code * 256) 0 := by
  unfold judgeEntry judgeAt
  simp [hop, hbad, hbody, hr]

/-- A due GREDUCE whose judgement is an outcome ends with its admission under that outcome. -/
theorem exec_greduce_of_done {s : State} {q : Fin 8192} {e : Ent} (h : Due s q.val 10 e) {st info : Nat} {res : Word}
    (hj : judgeEntry (bare s) q.val (s.queue q.val) e = .done st info res) :
    Sys2Proof.Machine.exec (.greduce q) s = ended s ((bare s).admitDone q.val e.uid st info res) := by
  have harm : Sys2Proof.Machine.exec (.greduce q) s = s.act (fun s => s.admitOp q.val 10) := rfl
  rw [harm, State.act_of_free h.1, State.admitOp_of_done h hj]

/-- Settles O16: each row of R151 gives its code, and a reduction with a code is judged and ended with it. -/
theorem reduceInvalidIsJudgedFirst : Obligations.ReduceInvalidIsJudgedFirst := by
  intro s q e hop hbad hbody ends r it ot op dim types
  have hends : ∀ {code : Nat}, reduceBad e = some code → ends code := fun hr =>
    ⟨judgeEntry_of_reduceBad hop hbad hbody hr s q.val,
      fun hdue => exec_greduce_of_done hdue (judgeEntry_of_reduceBad hop hbad hbody hr _ _ _)⟩
  have hrows : reduceBad e =
      if !types then some 1
      else if dim = 0 ∨ 16384 < dim ∨ (it = 5 ∧ dim % 4 ≠ 0) then some 2
      else if (op = 3 ∧ (e.w 6).toNat = 0) ∨ (op ≠ 3 ∧ (e.w 6).toNat ≠ 0) then some 3
      else none := rfl
  refine ⟨fun htypes => hends ?types, fun htypes hdim => hends ?dim, fun htypes hdim hwgt => hends ?weights⟩
  case types => rw [hrows, htypes]; rfl
  case dim => rw [hrows, htypes, if_neg (by decide), if_pos hdim]
  case weights => rw [hrows, htypes, if_neg (by decide), if_neg hdim, if_pos hwgt]

end Sys2Proof.Machine
end

section
/-! PROOFS. The Maker test range (R429): it reads 0, and a write to it is accepted from a Maker session in FACTORY_TEST and
from no other, with no effect of its own either way. -/

namespace Sys2Proof.Machine

open Sys2Proof.Safety

theorem State.regRead_makerTest (s : State) {off : Nat} (h : 0x1000000 ≤ off) : s.regRead off = 0 := by
  unfold State.regRead State.pageRead
  iterate 12 rw [if_neg (by omega)]

/-- No switched domain holds the Maker test range. -/
theorem State.regOff_makerTest (s : State) {off : Nat} (h : 0x1000000 ≤ off) : s.regOff off = false := by
  have hdom : regDom off = none := by
    unfold regDom
    iterate 10 rw [if_neg (by omega)]
  simp only [State.regOff, hdom]

theorem State.safeWrite_makerTest (s : State) {off : Nat} (h : 0x1000000 ≤ off) (data : Word) (strb : BitVec 8) :
    s.safeWrite off data strb = (s, 4) := by
  unfold State.safeWrite
  iterate 3 rw [if_neg (by omega)]

theorem State.pageWrite_makerTest (s : State) {off : Nat} (h : 0x1000000 ≤ off) (data : Word) (strb : BitVec 8)
    (p : Path) : s.pageWrite off data strb p = (s, if s.makerFt then 0 else 4) := by
  unfold State.pageWrite
  iterate 11 rw [if_neg (by omega)]
  rw [if_pos h]

theorem State.makerFt_iff (s : State) : s.makerFt = true ↔ s.mode = .factoryTest ∧ s.sessRole 0 = 3 := by
  simp [State.makerFt]

/-- In SAFE and OFF a page beyond the global ones takes what `safeWrite` serves (R291, R407). -/
theorem State.bus_safe {s : State} (hheld : s.held = false) (hm : s.mode = .safe ∨ s.mode = .off) {off : Nat}
    (hl : 0x80000 ≤ off) (data : Word) (strb : BitVec 8) :
    s.bus off data strb = answered s ((bare s).safeWrite off data strb) := by
  have hm' : (bare s).mode = .safe ∨ (bare s).mode = .off := hm
  simp only [State.bus, State.run_of_free hheld, State.busWrite]
  rw [if_pos hm', if_neg (by omega)]
  rfl

/-- A write to the Maker test range changes nothing, in any mode; SAFE and OFF refuse it as R291 and R407 have it, and in
the others the page decides. -/
theorem State.bus_makerTest {s : State} (hheld : s.held = false) {off : Nat} (h : 0x1000000 ≤ off) (data : Word)
    (strb : BitVec 8) : s.bus off data strb = answered s (bare s, if s.makerFt then 0 else 4) := by
  by_cases hm : s.mode = .safe ∨ s.mode = .off
  case pos =>
    have hft : s.makerFt = false := by rcases hm with hm | hm <;> simp [State.makerFt, hm]
    rw [State.bus_safe hheld hm (by omega), State.safeWrite_makerTest _ h, hft]
    rfl
  case neg =>
    have hreach : Reached s off := ⟨⟨hheld, not_or.mp hm⟩, s.regOff_makerTest h⟩
    rw [State.bus_page hreach (by omega), State.pageWrite_makerTest _ h]
    rfl

/-- Settles O18: the range reads 0, and a write's answer follows the session and the mode. -/
theorem makerTestRange : Obligations.MakerTestRange := by
  intro s addr data strb hheld h
  have hexec : Sys2Proof.Machine.exec (.registerWrite addr data strb false) s =
      answered s (bare s, if s.makerFt then 0 else 4) := State.bus_makerTest hheld h data strb
  refine ⟨fun _ => s.regRead_makerTest h, fun hmode hrole => ⟨bare s, ?maker⟩, fun hnot => ?other⟩
  case maker => rw [hexec, if_pos (s.makerFt_iff.mpr ⟨hmode, hrole⟩), answered_ok]
  case other => rw [hexec, if_neg (fun hft => hnot (s.makerFt_iff.mp hft)), answered_bad]

end Sys2Proof.Machine
end

section
/-! PROOFS. The step (R66, log entries 3, 6, 11): the two frames every command runs in, what the sampling of the marks
changes, and the statements made of every command. -/

namespace Sys2Proof.Machine

open Sys2Proof.Safety

/-! ### The two frames of a command -/

/-- The outcome is that of some effect in the frame of a block out of reset. -/
def State.Acts (s : State) (r : Result) : Prop := ∃ f, r = s.act f

theorem State.acts_act (s : State) (f : State → State) : s.Acts (s.act f) := ⟨f, rfl⟩

theorem State.acts_run (s : State) (f : State → State) : s.Acts (s.run f) := s.acts_act _

theorem State.acts_bus (s : State) (off : Nat) (data : Word) (strb : BitVec 8) : s.Acts (s.bus off data strb) :=
  s.acts_run _

theorem State.acts_live (s : State) (f : State → State) : s.Acts (s.live f) := s.acts_run _

theorem State.acts_mctp (s : State) (f : State → State) : s.Acts (s.mctp f) := s.acts_run _

theorem State.acts_glbMode (s : State) (p : Path) (req : Nat) : s.Acts (s.glbMode p req) := by
  cases p
  case reg => exact s.acts_bus _ _ _
  all_goals exact s.acts_run _

theorem State.acts_sessionEnd (s : State) (p : Path) : s.Acts (execSessionEnd p s) := by
  cases p
  all_goals delta execSessionEnd
  all_goals dsimp only
  case reg => exact s.acts_bus _ _ _
  all_goals exact s.acts_act _

/-- The commands of the pins and supplies that act on a block held in reset. -/
def ofPin (c : Instr) : Prop :=
  c = .coldReset ∨ c = .aonPowerLoss ∨ (∃ id, c = .coldResetRelease id) ∨ (∃ h, c = .dftTestMode h) ∨
  (∃ m, c = .aonPowerOnRelease m) ∨ (∃ k, c = .supplyFault k)

/-- Every command runs in the frame of `State.act`, and those of the pins and supplies in that of `State.pin`. -/
theorem exec_frame (c : Instr) (s : State) : s.Acts (exec c s) ∨ ofPin c ∧ ∃ f, exec c s = s.pin f := by
  delta exec
  cases c
  all_goals dsimp only
  case regAccessTimeout | copy | fill | zero | compare | check | mcopy | gather | scatter | greduce | fence | nop |
      link | waitEvent | waitEventTimeout | interruptSend | timeValidFall | timeValidRise | sqCreate | sqDelete |
      crCreate | crDelete | sqModify | sqDisable | sqDisableAbort | sqEnable | sqDrain | winSet | winClear | tenantSet
      | gateLoad | gateActivate | limiterSet | transitOpen | proceed | recallConfirmed | toMirror | transitConjoin |
      transitAbort | odRead | odWrite | bgScheduleStart | bgScheduleStop | query | sessionIdleEnd | nonceExpiry |
      authLockoutEnd | journalSpill | eventPulse | calibrationPeriod | tickPhaseTrim | fltMsgTransfer | testkeyExpiry
      | tapEvent | tapDrain | intervalEnd | recordReady | keyTransfer | keyTransferGap | keyArrivalTimeout |
      vltCalibration | presence | presenceSend | presenceExpiry | tickFrame | frameDiscard | peerLinkBroken |
      forwardSlotQuarantineEnd | moverIdle | quadrantIdle | dftMbistGo | mbistDone | stagingClearDone | mbistWaitEnd |
      timeNsJump | notifyRelay =>
    exact .inl (s.acts_act _)
  case bypassAnswer | burstGrant | burstIssue | readResponse | writeCompletion | holdAnswer | transactionLost |
      quarantineEnd | tickBoundary | reclaimPoint | rqlAssertion | pstReport | faultMessage | fltForceSafe |
      selfCheckTrip | safeAbsorbEnd | rstWarmNFall | peerEvent | powerAck | powerDeny | powerRequestTimeout |
      clockMonitorWindow | clockAbsent | fltForceSafeFall | offRequestRetry | peerFrameSend =>
    exact .inl (s.acts_run _)
  case levelBurstDecision | requestPresent | handover | dtrNotification | decAnswer | decAnswerTimeout |
      rebindAnswerTimeout | holdAckTimeout | cleanIntervalEnd | rewriteHoldTimeout | wearIntervalEnd | wearStepStart |
      mirrorFeedRecord | forwardDoorbell | returnDoorbell | forwardTimeLimit | conjunctionDeadline =>
    exact .inl (s.acts_live _)
  case mctpRead | mctpWrite | setEndpointId | getEndpointId | getMctpVersionSupport | getMessageTypeSupport |
      getVendorDefinedMessageSupport | mctpPacketDiscard =>
    exact .inl (s.acts_mctp _)
  case registerWrite | doorbell | ringArm | ringDisarm | resultSlotRelease | tickConfigWrite | admitLimitWrite |
      limcfgWrite | limiterZero | limiterFill | resetAdapt | hwmClear | dqEnable | dqStop | dqDoorbell | odwRead |
      odwWrite | odwStatusRelease | glbVecWrite | chEnable | chDisable | chStop | chPause | chResume | chKick |
      chShadowWrite | chShcommitArm | chShcommitDisarm | telemetryRdWrite | sbxForce | sbxTestkey | sbxInj |
      firstValidClear | sbxSevWrite | warmReset | wbgSnap | wbgRecack | wbgSealctl | wbgConfigWrite | stnEvsend =>
    exact .inl (s.acts_bus _ _ _)
  case glbModeOff p | glbModeColdInit p | glbModeFactoryTest p | glbModeConfigure p | glbModeRun p | glbModeQuiesce p |
      glbModeSafe p => exact .inl (s.acts_glbMode p _)
  case sessionEnd p => exact .inl (s.acts_sessionEnd p)
  case coldReset => exact .inr ⟨.inl rfl, _, rfl⟩
  case aonPowerLoss => exact .inr ⟨.inr (.inl rfl), _, rfl⟩
  case coldResetRelease id => exact .inr ⟨.inr (.inr (.inl ⟨id, rfl⟩)), _, rfl⟩
  case dftTestMode h => exact .inr ⟨.inr (.inr (.inr (.inl ⟨h, rfl⟩))), _, rfl⟩
  case aonPowerOnRelease m => exact .inr ⟨.inr (.inr (.inr (.inr (.inl ⟨m, rfl⟩)))), _, rfl⟩
  case supplyFault k => exact .inr ⟨.inr (.inr (.inr (.inr (.inr ⟨k, rfl⟩)))), _, rfl⟩

/-- A command leaves a held block as it was, or ends with the sampling of the marks. -/
theorem exec_ends (c : Instr) (s : State) : exec c s = .next s ∨ ∃ t, exec c s = ended s t := by
  rcases exec_frame c s with ⟨f, hf⟩ | ⟨-, f, hf⟩
  case inl =>
    cases hheld : s.held
    case true => exact .inl (hf.trans (State.act_of_held hheld f))
    case false => exact .inr ⟨_, hf.trans (State.act_of_free hheld f)⟩
  case inr => exact .inr ⟨_, hf⟩

/-! ### The sampling of the marks (R66) -/

/-- What marks h and added messages l make of a state. -/
def State.marked (s : State) (h : Tbl Hwm) (l : List Msg) : State :=
  { s with tt := { s.tt with hwm := h }, sbx := { s.sbx with inbox := s.sbx.inbox ++ l } }

theorem State.hwmVal_marked (s : State) (h : Tbl Hwm) (l : List Msg) (i : Nat) : (s.marked h l).hwmVal i = s.hwmVal i := rfl

/-- Marks sampled one after another: each covers its quantity, and at most one message of source 0x082 is added for each. -/
theorem State.foldl_sample1 (is : List Nat) (s : State) : ∃ (h : Tbl Hwm) (l : List Msg),
    is.foldl State.sample1 s = s.marked h l ∧ (∀ m ∈ l, m.source = 0x082) ∧ l.length ≤ is.length ∧
    (∀ i ∈ is, s.hwmVal i ≤ (Tbl.getD i ({} : Hwm) h).peak) ∧
    ∀ j, (Tbl.getD j ({} : Hwm) s.tt.hwm).peak ≤ (Tbl.getD j ({} : Hwm) h).peak := by
  induction is generalizing s with
  | nil => exact ⟨s.tt.hwm, [], by simp [State.marked], by simp, by simp, by simp, fun _ => le_rfl⟩
  | cons i is ih =>
    obtain ⟨h1, l1, heq1, hsrc1, hlen1, hcov1, hmono1⟩ := State.sample1_eq s i
    obtain ⟨h2, l2, heq2, hsrc2, hlen2, hcov2, hmono2⟩ := ih (s.sample1 i)
    have hs1 : s.sample1 i = s.marked h1 l1 := heq1
    rw [hs1] at hcov2 hmono2
    refine ⟨h2, l1 ++ l2, ?eq, ?src, ?len, ?cov, fun j => (hmono1 j).trans (hmono2 j)⟩
    case eq => rw [List.foldl_cons, heq2, hs1]; simp [State.marked, List.append_assoc]
    case src => intro m hm; exact (List.mem_append.mp hm).elim (hsrc1 m) (hsrc2 m)
    case len => simp only [List.length_append, List.length_cons]; omega
    case cov =>
      intro j hj
      rcases List.mem_cons.mp hj with rfl | hj
      · exact hcov1.trans (hmono2 _)
      · exact hcov2 j hj

/-- After the sampling every mark covers its quantity. -/
theorem State.marksHold_sample (s : State) : MarksHold s.sample := by
  obtain ⟨h, l, heq, -, -, hcov, -⟩ := State.foldl_sample1 (List.range 22) s
  intro i hi
  rw [State.sample, heq]
  exact hcov i (List.mem_range.mpr hi)

theorem State.marksHold_pending {s : State} (h : MarksHold s) (l : List Instr) : MarksHold { s with pending := l } := h

theorem State.marksHold_done (s t : State) : MarksHold (s.done t) := State.marksHold_pending t.marksHold_sample s.pending

/-! ### The statements made of every command -/

/-- Settles O1. -/
theorem stepRunsFrontCommand : Obligations.StepRunsFrontCommand := by
  intro c rest s hpending
  rw [step, hpending]

theorem State.pending_done (s t : State) : (s.done t).pending = s.pending := by
  unfold State.done
  rfl

theorem State.idle_of_held {s : State} (h : s.held = true) :
    s.idle = ({ s with out := [] } : State).advance Config.timCyclePs := by
  unfold State.idle
  dsimp only
  rw [if_pos h]

theorem State.idle_of_free {s : State} (h : s.held = false) : ∃ u, s.idle = s.done u := by
  unfold State.idle
  dsimp only
  rw [if_neg (by simp [h])]
  exact ⟨_, rfl⟩

theorem State.pending_idle (s : State) : s.idle.pending = s.pending := by
  cases h : s.held
  case true => rw [State.idle_of_held h]; rfl
  case false =>
    obtain ⟨u, hu⟩ := State.idle_of_free h
    rw [hu, State.pending_done]

/-- Settles O2, from the idle step of a held block and of one that runs. -/
theorem idleStepPassesOneTimCycle : Obligations.IdleStepPassesOneTimCycle := by
  intro s hpending
  have hstep : step s = .next s.idle := by rw [step, hpending]
  exact ⟨s.idle, hstep, s.pending_idle.trans hpending, State.idle_of_held⟩

/-- Settles O3: both frames put the queue back. -/
theorem commandsLeaveTheQueue : Obligations.CommandsLeaveTheQueue := by
  intro c s
  rcases exec_ends c s with h | ⟨t, h⟩
  · exact ⟨s, h, rfl⟩
  · exact ⟨s.done t, h, s.pending_done t⟩

/-- Settles O4: a command ends with a sample of every mark, or changes nothing, and of the idle step only time passes on
a held block. -/
theorem marksHoldIsKeptByEveryStep : Obligations.MarksHoldIsKeptByEveryStep := by
  intro s t hmarks hstep
  rcases hp : s.pending with _ | ⟨c, rest⟩
  case nil =>
    have ht : t = s.idle := by rw [step, hp] at hstep; injection hstep with h; exact h.symm
    subst ht
    cases hheld : s.held
    case true => rw [State.idle_of_held hheld]; exact hmarks
    case false =>
      obtain ⟨u, hu⟩ := State.idle_of_free hheld
      rw [hu]
      exact s.marksHold_done u
  case cons =>
    rw [stepRunsFrontCommand c rest s hp] at hstep
    rcases exec_ends c { s with pending := rest } with h | ⟨u, h⟩
    · rw [h] at hstep
      injection hstep with ht
      subst ht
      exact hmarks
    · rw [h] at hstep
      injection hstep with ht
      subst ht
      exact State.marksHold_done _ u

/-- Settles O5: at reset every quantity is 0. -/
theorem marksHoldAtReset : Obligations.MarksHoldAtReset := by
  unfold Obligations.MarksHoldAtReset MarksHold
  decide

/-- Settles O6, from the sampling of the 22 marks one after another. -/
theorem samplingChangesOnlyMarks : Obligations.SamplingChangesOnlyMarks := by
  intro s
  obtain ⟨h, l, heq, hsrc, hlen, -, -⟩ := State.foldl_sample1 (List.range 22) s
  exact ⟨h, l, heq, hsrc, by simpa using hlen⟩

/-- Settles O8: every other command runs in the frame that a held block ignores. -/
theorem heldBlockIgnoresCommands : Obligations.HeldBlockIgnoresCommands := by
  intro c s hheld
  rcases exec_frame c s with ⟨f, hf⟩ | ⟨hpin, -⟩
  · exact .inl (hf.trans (State.act_of_held hheld f))
  · exact .inr hpin

end Sys2Proof.Machine
end

section
/-! PROOFS. A still machine (log entry 17): nothing that may follow a command has anything to do. -/

namespace Sys2Proof.Machine

open Sys2Proof.Safety

/-- A fold whose every step leaves the start alone ends where it began. -/
theorem foldl_eq_self {α β : Type} {f : β → α → β} {b : β} {l : List α} (h : ∀ a ∈ l, f b a = b) : l.foldl f b = b := by
  induction l with
  | nil => rfl
  | cons a l ih =>
    rw [List.foldl_cons, h a List.mem_cons_self]
    exact ih fun x hx => h x (List.mem_cons_of_mem a hx)

/-! ### Requests for power -/

theorem maskHas_maskSet (m d e : Nat) : maskHas (maskSet m d) e = (maskHas m e || decide (d = e)) := by
  simp [maskHas, maskSet, Nat.testBit_or, Nat.testBit_two_pow]

theorem maskHas_foldl_maskSet (l : List Nat) (m e : Nat) :
    maskHas (l.foldl (fun a k => maskSet a (domMv k)) m) e = true ↔ maskHas m e = true ∨ e ∈ l := by
  induction l generalizing m with
  | nil => simp
  | cons k l ih =>
    rw [List.foldl_cons, ih, maskHas_maskSet, domMv, List.mem_cons, Bool.or_eq_true, decide_eq_true_eq, or_assoc,
      eq_comm (a := k)]

/-- The Movers that R418 keeps on are Movers. -/
theorem State.lt_of_moversWanted {s : State} {d : Nat} (h : maskHas s.moversWanted d = true) : d < 64 := by
  unfold State.moversWanted at h
  rcases (maskHas_foldl_maskSet _ _ _).mp h with h0 | hd
  · simp [maskHas] at h0
  · have hd := List.mem_of_mem_take hd
    simp only [List.mem_append, List.mem_filter, List.mem_range] at hd
    omega

theorem State.askOn_of_req {s : State} {d : Nat} (h : maskHas s.pwr.req d = true) : s.askOn d = s := by
  unfold State.askOn
  exact if_pos (.inl h)

/-- What has been asked for already is not asked for again. -/
theorem State.askOnMask_of_req {s : State} {m : Nat} (h : ∀ d, d < 98 → maskHas m d = true → maskHas s.pwr.req d = true) :
    s.askOnMask m = s := by
  refine foldl_eq_self fun d hd => ?_
  split
  · exact State.askOn_of_req (h d (List.mem_range.mp hd) ‹_›)
  · rfl

/-! ### What follows a command, part by part -/

theorem State.waitsRun_of_nil {s : State} (h : s.dct.waits = []) : s.waitsRun = s := by
  rw [State.waitsRun, h]
  rfl

theorem State.moverLoad_of_nil {s : State} (h : s.works = []) (m : Nat) : s.moverLoad m = 0 := by
  rw [State.moverLoad, h]
  rfl

theorem State.keepMin_of_req {s : State} (h : s.gates_ = true → ∀ d, d < 64 → maskHas s.moversWanted d = true →
    maskHas s.pwr.req d = true) : s.keepMin = s := by
  unfold State.keepMin
  split
  · exact State.askOnMask_of_req fun d _ hd => h ‹_› d (State.lt_of_moversWanted hd) hd
  · rfl

/-- No Mover is woken where one with no work can take some (R418). -/
theorem State.wakeMover_of_nil {s : State} (hworks : s.works = [])
    (h : s.gates_ = true → ∃ m, m < 64 ∧ s.mvFenced m = false ∧ s.isOn (domMv m) = true) : s.wakeMover = s := by
  unfold State.wakeMover
  dsimp only
  refine if_neg fun hwake => ?_
  simp only [Bool.and_eq_true] at hwake
  obtain ⟨⟨hgates, hall⟩, -⟩ := hwake
  obtain ⟨m, hm, hfence, hon⟩ := h hgates
  have hmem : m ∈ (List.range 64).filter (fun m => !s.mvFenced m && s.isOn (domMv m)) := by
    simp [hm, hfence, hon]
  have hne : ((List.range 64).filter (fun m => !s.mvFenced m && s.isOn (domMv m))).isEmpty = false := by
    rw [List.isEmpty_eq_false_iff]
    exact List.ne_nil_of_mem hmem
  rw [hne] at hall
  have hload := List.all_eq_true.mp hall m hmem
  simp [State.moverLoad_of_nil hworks] at hload

theorem State.wakeQuad_of_mode {s : State} (hrun : s.mode ≠ .run) (hdeg : s.mode ≠ .degraded) (w : Bool) :
    s.wakeQuad w = s := by
  unfold State.wakeQuad
  dsimp only
  exact if_neg (by simp [hrun, hdeg])

theorem State.transRun_of_none {s : State} (htrans : s.pwr.trans = none) (hmode : s.mode ≠ .coldInit) : s.transRun = s := by
  unfold State.transRun
  rw [htrans]
  exact if_neg fun h => hmode h.1

theorem State.fencedOff_of_mode {s : State} (h : s.mode ≠ .degraded) : s.fencedOff = s := by
  unfold State.fencedOff
  exact if_pos h

/-- With no work before, nothing falls idle (R418, R419). -/
theorem State.idleMark_of_nil {b : State} (h : b.works = []) (s : State) : State.idleMark b s = s := by
  simp [State.idleMark, State.moverLoad_of_nil h, h, Tbl.vals]

theorem State.afterSafe_of_mode {s : State} (h : s.mode ≠ .safe) : s.afterSafe = s := by
  unfold State.afterSafe
  exact if_pos (.inl h)

theorem State.safeSettle_of_mode {s : State} (h : s.mode ≠ .safe) : s.safeSettle = s := by
  unfold State.safeSettle
  exact if_neg fun hs => h hs.1

/-- The mode of a still machine. -/
theorem State.mode_of_still {s : State} (h : Still s) : s.mode = .factoryTest ∨ s.mode = .configure ∨ s.mode = .quiesce := by
  obtain ⟨-, -, -, hmode | ⟨hmode, -⟩⟩ := h
  · exact .inl hmode
  · exact .inr hmode

theorem State.gates_of_factoryTest {s : State} (h : s.mode = .factoryTest) : s.gates_ = false := by
  simp [State.gates_, h]

/-- Settles O7: each thing that may follow leaves a still machine as it is. -/
theorem stillMachineStaysStill : Obligations.StillMachineStaysStill := by
  intro b s hstill hb
  obtain ⟨hwaits, htrans, hworks, hmovers⟩ := id hstill
  have hmode := State.mode_of_still hstill
  have hnot : ∀ m : Mode, m ≠ .factoryTest → m ≠ .configure → m ≠ .quiesce → s.mode ≠ m := by
    intro m h1 h2 h3 h
    rcases hmode with h' | h' | h' <;> rw [h'] at h
    exacts [h1 h.symm, h2 h.symm, h3 h.symm]
  have hgated : s.gates_ = true → (∃ m, m < 64 ∧ s.mvFenced m = false ∧ s.isOn (domMv m) = true) ∧
      ∀ d, d < 64 → maskHas s.moversWanted d = true → maskHas s.pwr.req d = true := by
    intro hg
    rcases hmovers with hft | ⟨-, hon, hreq⟩
    · simp [State.gates_of_factoryTest hft] at hg
    · exact ⟨hon, hreq⟩
  have hsafe : s.mode ≠ .safe := hnot .safe (by decide) (by decide) (by decide)
  have hdeg : s.mode ≠ .degraded := hnot .degraded (by decide) (by decide) (by decide)
  unfold State.follow
  dsimp only
  rw [State.waitsRun_of_nil hwaits, State.keepMin_of_req fun hg => (hgated hg).2,
    State.wakeMover_of_nil hworks fun hg => (hgated hg).1,
    State.wakeQuad_of_mode (hnot .run (by decide) (by decide) (by decide)) hdeg,
    State.transRun_of_none htrans (hnot .coldInit (by decide) (by decide) (by decide)), State.fencedOff_of_mode hdeg,
    State.idleMark_of_nil hb, State.afterSafe_of_mode hsafe, State.safeSettle_of_mode hsafe]

end Sys2Proof.Machine
end

section
/-! PROOFS. Rules of single operations: tick boundaries (R36), the collector's queue (R284), severity fields (R278), limiters
(R59), the journal (R351), Peer Link frames (R355), byte strobes (R384), and what the registers read at reset. -/

namespace Sys2Proof.Machine

open Sys2Proof.Safety

/-! ### Tick boundaries (R36, R39) -/

theorem tickPs_pos (len : Nat) : 0 < tickPs len := by
  unfold tickPs
  positivity

/-- How many ticks of T from the phase p reach beyond t, none before the first boundary. -/
def ticksPast (T p t : Int) : Nat := (max 0 ((t - p) / T + 1)).toNat

theorem bndAfter_eq (len p t : Nat) : bndAfter len (p : Int) t = p + ticksPast (tickPs len) p t * tickPs len := by
  unfold bndAfter ticksPast
  dsimp only
  obtain ⟨k, hk⟩ := Int.eq_ofNat_of_zero_le (le_max_left 0 (((t : Int) - p) / (tickPs len : Int) + 1))
  rw [hk, Int.toNat_natCast]
  exact_mod_cast Int.toNat_natCast (p + k * tickPs len)

/-- The ticks that reach beyond t are more than those that do not, and no fewer reach it. -/
theorem ticksPast_le_iff {T : Int} (hT : 0 < T) (p t : Int) (k : Nat) : ticksPast T p t ≤ k ↔ t < p + k * T := by
  have hdiv : (t - p) / T < k ↔ t - p < k * T := Int.ediv_lt_iff_lt_mul hT
  unfold ticksPast
  rw [Int.toNat_le, max_le_iff]
  constructor
  · intro h
    have := hdiv.mp (by omega)
    omega
  · intro h
    have := hdiv.mpr (by omega)
    omega

theorem tickNumIn_boundary (len p k : Nat) : tickNumIn len (p : Int) (p + k * tickPs len) = k := by
  have hT := tickPs_pos len
  have hdiff : ((p + k * tickPs len : Nat) : Int) - (p : Int) = (k : Int) * (tickPs len : Int) := by push_cast; ring
  unfold tickNumIn
  rw [hdiff, Int.mul_ediv_cancel _ (by omega), Int.toNat_natCast]

/-- Settles O9: the boundary is `ticksPast` ticks after the phase, the least number that reaches beyond the moment. -/
theorem nextBoundaryIsTheFirstLater : Obligations.NextBoundaryIsTheFirstLater := by
  intro len phase t p
  have hT : (0 : Int) < tickPs len := by exact_mod_cast tickPs_pos len
  have hpast := ticksPast_le_iff hT p t
  have hbnd := bndAfter_eq len p t
  refine ⟨?later, ⟨_, hbnd⟩, fun k hk => ?first, fun k => tickNumIn_boundary len p k⟩
  case later =>
    have hlt := (hpast _).mp le_rfl
    rw [hbnd]
    exact_mod_cast hlt
  case first =>
    have hle := (hpast k).mpr (by exact_mod_cast hk)
    rw [hbnd]
    gcongr

/-! ### The collector's queue (R284) -/

/-- A queue that keeps urgent messages first splits where they end. -/
theorem splitUrgent {u r : List Nat} (hu : ∀ x ∈ u, 3 ≤ msgSev x) (hr : ∀ x ∈ r, msgSev x < 3) :
    (u ++ r).takeWhile (fun x => decide (3 ≤ msgSev x)) = u ∧ (u ++ r).dropWhile (fun x => decide (3 ≤ msgSev x)) = r := by
  have hu' : ∀ x ∈ u, decide (3 ≤ msgSev x) = true := by simpa using hu
  rw [List.takeWhile_append_of_pos hu', List.dropWhile_append_of_pos hu']
  cases r with
  | nil => simp
  | cons a r =>
    have ha : ¬3 ≤ msgSev a := by have := hr a List.mem_cons_self; omega
    simp [ha]

/-- What a message that is not urgent, and one that is, make of such a queue. -/
theorem fltPush_append {u r : List Nat} (hu : ∀ x ∈ u, 3 ≤ msgSev x) (hr : ∀ x ∈ r, msgSev x < 3) (w : Nat) :
    fltPush (u ++ r) w =
      if msgSev w < 3 then (if (u ++ r).length < 16 then u ++ r ++ [w] else u ++ r)
      else if (u ++ r).length < 16 then u ++ [w] ++ r
      else if r.isEmpty then u ++ r else u ++ [w] ++ r.dropLast := by
  obtain ⟨htake, hdrop⟩ := splitUrgent hu hr
  unfold fltPush
  rw [htake, hdrop]

/-- Settles O10, clause by clause of what `fltPush` does. -/
theorem collectorQueueFavoursUrgent : Obligations.CollectorQueueFavoursUrgent := by
  intro u r w hu hr hlen
  rw [fltPush_append hu hr w]
  refine ⟨fun hw => if_pos hw, fun hw hl => ?room, fun hw hl a r' hra => ?full, fun hw hl => ?urgent, ?length⟩
  case room => rw [if_neg (by omega), if_pos hl, List.append_assoc, List.singleton_append]
  case full =>
    subst hra
    rw [if_neg (by omega), if_neg (by omega), if_neg (by simp), List.dropLast_concat, List.append_assoc,
      List.singleton_append]
  case urgent =>
    have hr0 : r = [] := List.eq_nil_of_length_eq_zero (by simp at hlen; omega)
    subst hr0
    rw [if_neg (by omega), if_neg (by simp [hl]), if_pos (by rfl)]
  case length =>
    split_ifs with h1 h2 h3 h4
    · simp at h2 ⊢; omega
    · exact hlen
    · simp at h3 ⊢; omega
    · exact hlen
    · have hpos : 0 < r.length := List.length_pos_iff.mpr (by simpa using h4)
      simp at hlen ⊢
      omega

/-! ### Severity fields (R278) -/

/-- Settles O11, along the conditions of `sevStore`. -/
theorem severityFieldsKeepTheirFloors : Obligations.SeverityFieldsKeepTheirFloors := by
  intro src old c maker hsrc
  unfold sevStore
  refine ⟨fun hc => if_pos hc, ?maker, ?other, ?floor, ?unit, ?noUnit, ?plain⟩
  case maker => rintro rfl rfl; simp
  case other => rintro rfl rfl hold; simp [hold]
  case floor =>
    intro hc hf
    rw [if_neg (by omega), if_neg (by omega), if_pos hf, if_neg (by omega)]
  case unit => rintro rfl hf hu; simp [hf, hu]
  case noUnit =>
    rintro rfl hf hu
    have hband : (0x170 ≤ src ∧ src ≤ 0x179) = (0x170 ≤ src) := by simp; omega
    simp [hf, hu, hband]
  case plain =>
    intro hc hc2 hf
    rw [if_neg (by omega), if_neg (by omega), if_neg (by simp [hf]), if_neg (by omega)]

/-! ### Limiters (R59) -/

@[simp] theorem Limiter.slot_tok (l : Limiter) (ticks tPs : Nat) : (l.slot ticks tPs).tok = l.tok := by
  unfold Limiter.slot
  split <;> rfl

/-- Settles O12: neither the wheel nor the adaptation touches the tokens. -/
theorem limiterRefillStopsAtTheDepth : Obligations.LimiterRefillStopsAtTheDepth := by
  intro l ticks tPs lenPs
  unfold Limiter.boundary
  dsimp only
  cases l.wheel with
  | none => dsimp only; split <;> simp
  | some w => dsimp only; split <;> simp

/-! ### The journal (R351) -/

/-- Settles O13, from the two cases of `journalE`. -/
theorem journalHolds1024Entries : Obligations.JournalHolds1024Entries := by
  intro s kind path role origin result target old new hheld hspill t e
  have hj : s.jHeld = s.journal.length + s.dct.spill.length := rfl
  by_cases h : s.jHeld < 1024
  case pos =>
    have ht : t = { s with journal := s.journal ++ [e] } := State.journalE_room h ..
    have hlen : t.jHeld = s.jHeld + 1 := by rw [ht, hj]; simp [State.jHeld]; omega
    exact ⟨by omega, by rw [ht], fun _ => by rw [ht]; exact ⟨rfl, rfl⟩, fun hf => absurd hf (by omega)⟩
  case neg =>
    have ht : t = { s with journal := s.journal.drop 1 ++ [e], dct := { s.dct with lost := min 65535 (s.dct.lost + 1) } } :=
      State.journalE_full h ..
    have hlen : t.jHeld = s.jHeld := by rw [ht, hj]; simp [State.jHeld]; omega
    exact ⟨by omega, by rw [ht], fun hf => absurd hf h, fun hf => by rw [hlen, ht]; exact ⟨rfl, rfl, hf⟩⟩

/-! ### Peer Link frames (R355, R356) -/

theorem bits_add_mul {a b lo : Nat} (ha : a < 2 ^ lo) (w : Nat) : bits (a + b * 2 ^ lo) lo w = b % 2 ^ w := by
  unfold bits
  rw [Nat.shiftRight_eq_div_pow, Nat.add_mul_div_right _ _ (by positivity), Nat.div_eq_of_lt ha, Nat.zero_add]

theorem crc8Bit_lt {poly x : Nat} (hp : poly < 256) (hx : x < 256) :
    (if x ≥ 128 then (x * 2 % 256) ^^^ poly else x * 2) < 256 := by
  split
  · exact Nat.xor_lt_two_pow (n := 8) (Nat.mod_lt _ (by decide)) hp
  · omega

theorem iter_lt {f : Nat → Nat} {b : Nat} (hf : ∀ x, x < b → f x < b) (n : Nat) {x : Nat} (hx : x < b) : iter f n x < b := by
  induction n generalizing x with
  | zero => exact hx
  | succ n ih => exact ih (hf x hx)

/-- The CRC of bytes is a byte. -/
theorem crc8_lt {poly init : Nat} (hp : poly < 256) (hi : init < 256) {bs : List Nat} (hbs : ∀ b ∈ bs, b < 256) :
    crc8 poly init bs < 256 := by
  unfold crc8
  induction bs generalizing init with
  | nil => exact hi
  | cons b bs ih =>
    rw [List.foldl_cons]
    refine ih (iter_lt (fun x => crc8Bit_lt hp) 8 ?_) fun x hx => hbs x (List.mem_cons_of_mem b hx)
    exact Nat.xor_lt_two_pow (n := 8) hi (hbs b List.mem_cons_self)

theorem lt_of_mem_leBytes {n v b : Nat} (h : b ∈ leBytes n v) : b < 256 := by
  induction n generalizing v with
  | zero => simp [leBytes] at h
  | succ n ih =>
    rcases List.mem_cons.mp h with rfl | h
    · exact Nat.mod_lt _ (by decide)
    · exact ih h

/-- Settles O14: the CRC stands above the 56 bits it covers, which hold the fields side by side. -/
theorem framesCarryTheirFields : Obligations.FramesCarryTheirFields := by
  intro type origin dest hops payload htype horigin hdest hhops hpayload f
  set lo := type % 16 + (origin % 16) * 16 + (dest % 16) * 256 + (hops % 16) * 4096 + (payload % 2 ^ 40) * 2 ^ 16 with hlo
  set crc := crc8 7 0 (leBytes 7 lo)
  have hcrc : crc < 256 := crc8_lt (by decide) (by decide) fun b hb => lt_of_mem_leBytes hb
  have hlo56 : lo < 2 ^ 56 := by omega
  have hf : f.toNat = lo + crc * 2 ^ 56 := by
    show (BitVec.ofNat 64 (lo + crc * 2 ^ 56)).toNat = _
    rw [BitVec.toNat_ofNat]
    omega
  have hlow : fld f 0 56 = lo := by
    rw [fld, hf, bits, Nat.shiftRight_zero]
    omega
  have htop : fld f 56 8 = crc := by
    rw [fld, hf, bits_add_mul hlo56]
    omega
  have ht : fType f = type := by rw [fType, fld, hf, bits, Nat.shiftRight_zero]; omega
  refine ⟨ht, ?_, ?_, ?_, ?_, ?_⟩
  · rw [fOrigin, fld, hf, bits, Nat.shiftRight_eq_div_pow]; omega
  · rw [fDest, fld, hf, bits, Nat.shiftRight_eq_div_pow]; omega
  · rw [fHops, fld, hf, bits, Nat.shiftRight_eq_div_pow]; omega
  · rw [fld, hf, bits, Nat.shiftRight_eq_div_pow]; omega
  · rw [frameOk, ht, hlow, htop]
    simp [htype, crc]

/-! ### Byte strobes (R384) -/

/-- The bits of a register that strobes let through: all of byte i where strobe i is 1. -/
def strobeMask (b : Nat) (n : Nat) : Nat :=
  (List.range n).foldl (fun a i => if b.testBit i then a + 255 * 2 ^ (8 * i) else a) 0

theorem strobeMask_succ (b n : Nat) : strobeMask b (n + 1) = 2 ^ (8 * n) * (if b.testBit n then 255 else 0) + strobeMask b n := by
  unfold strobeMask
  rw [List.range_succ, List.foldl_append, List.foldl_cons, List.foldl_nil]
  split <;> ring

theorem strobeMask_lt (b n : Nat) : strobeMask b n < 2 ^ (8 * n) := by
  induction n with
  | zero => exact Nat.one_pos
  | succ n ih =>
    have hpow : 2 ^ (8 * (n + 1)) = 2 ^ (8 * n) * 256 := by ring
    rw [strobeMask_succ, hpow]
    split <;> omega

theorem testBit_strobeMask (b : Nat) {n i j : Nat} (hi : i < n) (hj : j < 8) :
    (strobeMask b n).testBit (8 * i + j) = b.testBit i := by
  induction n with
  | zero => omega
  | succ n ih =>
    rw [strobeMask_succ, Nat.testBit_two_pow_mul_add _ (strobeMask_lt b n)]
    split
    · exact ih (by omega)
    · have hin : i = n := by omega
      subst hin
      have h255 : Nat.testBit 255 j = true := by interval_cases j <;> rfl
      rw [Nat.add_sub_cancel_left]
      split
      · rw [h255]; exact (by assumption : b.testBit i = true).symm
      · simp_all

theorem testBit_fld (x : Word) (lo w j : Nat) : (fld x lo w).testBit j = (decide (j < w) && x.getLsbD (lo + j)) := by
  rw [fld, bits, Nat.testBit_mod_two_pow, Nat.testBit_shiftRight]
  rfl

/-- A bit of a strobed write comes from the data where its byte's strobe is 1. -/
theorem getLsbD_strobe (old data : Word) (strb : BitVec 8) {i j : Nat} (hi : i < 8) (hj : j < 8) :
    (strobe old data strb).getLsbD (8 * i + j) =
      if strb.toNat.testBit i then data.getLsbD (8 * i + j) else old.getLsbD (8 * i + j) := by
  have hm : (BitVec.ofNat 64 (strobeMask strb.toNat 8)).getLsbD (8 * i + j) = strb.toNat.testBit i := by
    rw [BitVec.getLsbD_ofNat, testBit_strobeMask _ hi hj, decide_eq_true (by omega), Bool.true_and]
  have hs : strobe old data strb =
    (data &&& BitVec.ofNat 64 (strobeMask strb.toNat 8)) ||| (old &&& ~~~ (BitVec.ofNat 64 (strobeMask strb.toNat 8))) := rfl
  rw [hs, BitVec.getLsbD_or, BitVec.getLsbD_and, BitVec.getLsbD_and, BitVec.getLsbD_not, hm, decide_eq_true (by omega)]
  cases strb.toNat.testBit i <;> simp

/-- Settles O15, bit by bit. -/
theorem writesChangeOnlyStrobedBytes : Obligations.WritesChangeOnlyStrobedBytes := by
  intro old data strb i hi
  refine Nat.eq_of_testBit_eq fun j => ?_
  by_cases hj : j < 8
  · split <;> simp_all [testBit_fld, getLsbD_strobe]
  · split <;> simp [testBit_fld, hj]

/-! ### Reset values -/

/-- Settles O17: each register is read at reset. -/
theorem resetValuesOfRegisters : Obligations.ResetValuesOfRegisters := by
  refine ⟨rfl, rfl, ?_, ?_, ?_, ?_, ?_, ?_, ?_, ?_, ?_, ?_, ?_, ?_, ?_, ?_, ?_, ?_, ?_, ?_⟩
  all_goals decide

end Sys2Proof.Machine
end

section
/-! PROOFS. Register accesses (R384, R386, R291) and the register path of the dictionary (R344). -/

namespace Sys2Proof.Machine

open Sys2Proof.Safety

variable (s : State) (data : Word) (strb : BitVec 8) (p : Path)

/-! ### The pages (R426) -/

theorem State.pageWrite_glb {off : Nat} (h : off < 0x10000) : s.pageWrite off data strb p = s.glbWrite off data strb := by
  unfold State.pageWrite
  rw [if_pos h]

theorem State.pageWrite_ttb {off : Nat} (hlo : 0x10000 ≤ off) (hhi : off < 0x20000) :
    s.pageWrite off data strb p = s.ttbWrite (off % 65536) data strb := by
  unfold State.pageWrite
  rw [if_neg (by omega), if_pos hhi]

theorem State.pageWrite_sbx {off : Nat} (hlo : 0x20000 ≤ off) (hhi : off < 0x30000) :
    s.pageWrite off data strb p = s.sbxPage (off % 65536) data strb p := by
  unfold State.pageWrite
  iterate 2 rw [if_neg (by omega)]
  rw [if_pos hhi]

theorem State.pageWrite_bgs {off : Nat} (hlo : 0x40000 ≤ off) (hhi : off < 0x50000) :
    s.pageWrite off data strb p = refusal (s.bgsWrite (off % 65536) data strb) 1 := by
  unfold State.pageWrite
  iterate 4 rw [if_neg (by omega)]
  rw [if_pos hhi]

theorem State.pageWrite_stn {off : Nat} (hlo : 0x60000 ≤ off) (hhi : off < 0x70000) :
    s.pageWrite off data strb p = s.stnPage (off % 65536) data strb := by
  unfold State.pageWrite
  iterate 6 rw [if_neg (by omega)]
  rw [if_pos hhi]

theorem State.pageWrite_wbg {off : Nat} (hlo : 0x400000 ≤ off) (hhi : off < 0x410000) :
    s.pageWrite off data strb p =
      refusal (s.wbgWrite (off % 65536) data strb (s.mode == .factoryTest && s.role p == 3) (s.who p)) 1 := by
  unfold State.pageWrite
  iterate 10 rw [if_neg (by omega)]
  rw [if_pos ⟨hlo, hhi⟩]

/-- A channel page, where the channel is granted. -/
theorem State.pageWrite_ch {c off : Nat} (hc : c < 512) (ho : off < 0x400) (hg : (s.chan c).granted = true) :
    s.pageWrite (chOff c off) data strb p =
      refusal ((s.chWrite c off data strb).1.chPump c, (s.chWrite c off data strb).2) 1 := by
  have hlo : 0x80000 ≤ chOff c off := by unfold chOff; omega
  have hhi : chOff c off < 0x100000 := by unfold chOff; omega
  have hpage : (chOff c off - 0x80000) / 1024 = c := by unfold chOff; omega
  have hreg : chOff c off % 1024 = off := by unfold chOff; omega
  unfold State.pageWrite
  iterate 8 rw [if_neg (by omega)]
  rw [if_pos hhi, hpage, hreg]
  dsimp only
  rw [if_pos hg]

/-! ### Accesses of the target itself (R291, R384, R386) -/

theorem busOff_wbSel (addr : BitVec 22) :
    busOff addr true = busOff (BitVec.ofNat 22 (0x80000 + addr.toNat % 2 ^ 13)) false := by
  have hmod : addr.toNat % 2 ^ 13 < 2 ^ 13 := Nat.mod_lt _ (by decide)
  simp only [busOff, if_true, Bool.false_eq_true, if_false, BitVec.toNat_ofNat]
  omega

variable {s}

/-- A global register that is not journalled, of a page other than ODW. -/
theorem State.bus_page_plain {off : Nat} (h : Open s off) (hl : off < 0x80000) (hm : off ≠ 0x20)
    (ho : ¬(0x30000 ≤ off ∧ off < 0x40000)) (hj : journalled off = false) {t : State}
    (ht : (touched s).pageWrite off data strb .reg = (t, 0)) : s.bus off data strb = accepted s t := by
  rw [State.bus_plain h hl hm ho hj, ht, answered_ok]

/-- A journalled global register: the change and its entry (R350). -/
theorem State.bus_page_noted {off : Nat} (h : Open s off) (hl : off < 0x80000) (hm : off ≠ 0x20)
    (ho : ¬(0x30000 ≤ off ∧ off < 0x40000)) (hj : journalled off = true) (hf : s.jFull = false) (hn : off ≠ 0x10218)
    {t : State} (ht : (touched s).pageWrite off data strb .reg = (t, 0)) (hrole : t.sessRole 0 = s.sessRole 0) :
    s.bus off data strb = acceptedNoted s t off (s.pageRead off) (Safety.wrote s off data strb) := by
  rw [State.bus_noted h hl hm ho hj hf hn data strb ht, answered_ok, State.jrn_reg, hrole]
  rfl

theorem State.regRead_modestat (s : State) : s.regRead 0x28 = s.modestat := rfl

theorem State.readEff_modestat (s : State) : s.readEff 0x28 = s := rfl

theorem State.bypass_modestat (s : State) (data : Word) :
    s.bypass false 0x28 data = (s.touch .reg).answer s.modestat false := by
  unfold State.bypass
  dsimp only
  rw [if_neg (by decide), if_pos (by decide), State.regRead_modestat, State.readEff_modestat]
  rfl

theorem State.glbWrite_irqMod (s : State) :
    s.glbWrite 0x9000 data strb = (s.setReg 0x9000 (mkWord [(0, 16, fld (strobe (s.reg 0x9000 0) data strb) 0 16)]), 0) :=
  rfl

/-- Settles O19, from the answer of each row. -/
theorem registerAccessesAreAnswered : Obligations.RegisterAccessesAreAnswered := by
  intro s data strb wr addr
  refine ⟨fun h => ?irqMod, fun h => ?timeout, fun h => ?bypass, ?wbSel⟩
  case irqMod =>
    show s.bus 0x9000 data strb = _
    refine State.bus_page_plain data strb h (by decide) (by decide) (by decide) (by decide) ?_
    rw [State.pageWrite_glb _ _ _ _ (by decide), State.glbWrite_irqMod]
    rfl
  case timeout =>
    show s.act (fun s => (s.advance 3950000).answer 0 true) = _
    rw [State.act_of_free h]
  case bypass =>
    show s.run (fun s => (s.advance 1000000).bypass false 0x28 data) = _
    rw [State.run_of_free h, State.bypass_modestat]
    rfl
  case wbSel =>
    show s.bus (busOff addr true) data strb = _
    rw [busOff_wbSel]
    rfl

end Sys2Proof.Machine
end

section
/-! PROOFS. The register path of the dictionary (R344): reads and writes of objects whose right is in order. -/

namespace Sys2Proof.Machine

open Sys2Proof.Safety

/-! ### Objects (R340) -/

/-- A read of an object that the path may read, of a domain that is on, and not drawn afresh at each read. -/
theorem State.odRead_value {s : State} {p : Path} {ix sub : Nat} {ob : Obj} (hob : s.odObj ix sub = some ob)
    (hright : s.odRight p ix sub ob ≠ 0) (hdown : objDown s ob = false) (hnonce : ¬(ix = 0x1010 ∧ sub = 1))
    (hclk : ix ≠ 0xA002) : s.odRead p ix sub = (s, 0, s.odValue p ix sub, ob.size) := by
  have hdq : ((isDq p && ix == 0x1010 && sub == 1) || s.odRight p ix sub ob == 0) = false := by
    simp only [Bool.or_eq_false_iff, Bool.and_assoc, beq_eq_false_iff_ne]
    refine ⟨Bool.and_eq_false_imp.mpr fun _ => ?_, hright⟩
    simpa using hnonce
  unfold State.odRead
  rw [hob]
  dsimp only
  rw [hdq, hdown, if_neg Bool.false_ne_true, if_neg Bool.false_ne_true, if_neg hnonce, if_neg hclk]

/-- A write with right, length and domain in order, to an object that makes no journal entry of its own (R340, R350). -/
theorem State.odWrite_put {s : State} {p : Path} {ix sub v len : Nat} {ob : Obj} (hob : s.odObj ix sub = some ob)
    (hright : s.odRight p ix sub ob = 2) (hwr : ob.i = 2 ∨ s.mode = .factoryTest) (hlen : len = ob.size)
    (hdown : objDown s ob = false) (hfull : s.jFull = false) (hown : ix = 0x1010 → sub = 4) (hmode : ix ≠ 0x1100)
    (hkey : ix ≠ 0xF010) :
    s.odWrite p ix sub v len =
      ((s.odPut p ix sub v).1.jrn 0 p (s.odPut p ix sub v).2 (ix + sub * 65536)
        (BitVec.ofNat 64 (s.odValue p ix sub % 2 ^ 64)) (BitVec.ofNat 64 (v % 2 ^ 64)),
       (s.odPut p ix sub v).2, s.odValue p ix sub % 2 ^ 64) := by
  have hsub : ∀ n, n ≠ 4 → (ix == 0x1010 && sub == n) = false := by
    intro n hn
    rw [Bool.and_eq_false_imp]
    intro h
    rw [hown (by simpa using h)]
    simpa using hn.symm
  have hses : (ix == 0x1010 && (sub == 2 || (sub == 3 && v == 1 && s.sessRole (pathKey p) != 0))) = false := by
    have h2 := hsub 2 (by decide)
    have h3 := hsub 3 (by decide)
    cases hix : ix == 0x1010 <;> simp_all
  have hdq : ((isDq p && ix == 0x1010 && (sub == 2 || sub == 3)) || s.odRight p ix sub ob != 2) = false := by
    have h2 := hsub 2 (by decide)
    have h3 := hsub 3 (by decide)
    cases hix : ix == 0x1010 <;> simp_all
  have hm : (ix == 0x1100) = false := by simpa using hmode
  have hk : (ix == 0xF010) = false := by simpa using hkey
  have hft : ¬(ob.i ≠ 2 ∧ s.mode ≠ .factoryTest) := by tauto
  unfold State.odWrite
  rw [hob]
  dsimp only
  rw [hdq, hdown, hses, hm, hk, if_neg Bool.false_ne_true, if_neg hft, if_neg (by simpa using hlen),
    if_neg Bool.false_ne_true, if_neg (by simp [hfull])]
  rfl

/-! ### ODW_CMD and ODW_STATUS (R344) -/

/-- A read command whose dictionary read answers (t, 0, v, n). -/
theorem State.odwCmd_read {s t : State} {v n : Nat} (hup : s.dspUp = true)
    (h : s.odRead .reg (fld (s.reg 0x30000 0) 0 16) (fld (s.reg 0x30000 0) 16 8) = (t, 0, v, n)) (len : Nat) :
    s.odwCmd false len = { t with dct := { t.dct with
      valid := true, stale := false, result := 0, len := n, buf := v, seq := (s.dct.seq + 1) % 65536 } } := by
  unfold State.odwCmd
  dsimp only
  rw [if_neg Bool.false_ne_true, if_pos hup, h]

/-- A write command of the buffer's low bytes whose dictionary write answers (t, 0, _). -/
theorem State.odwCmd_write {s t : State} {v old len : Nat} (hup : s.dspUp = true)
    (hv : s.dct.buf % 2 ^ (8 * min len 256) = v)
    (h : s.odWrite .reg (fld (s.reg 0x30000 0) 0 16) (fld (s.reg 0x30000 0) 16 8) v len = (t, 0, old)) :
    s.odwCmd true len = { t with dct := { t.dct with
      valid := true, stale := false, result := 0, len := len, seq := (s.dct.seq + 1) % 65536 } } := by
  unfold State.odwCmd
  dsimp only
  rw [if_pos rfl, if_pos hup, hv, h]
  rfl

theorem State.odwRegWrite_read (s : State) : s.odwRegWrite 0x10 1 0xFF = (s.odwCmd false 0, true) := by
  unfold State.odwRegWrite
  dsimp only
  rw [strobe_full]
  rfl

theorem State.odwRegWrite_write2 (s : State) :
    s.odwRegWrite 0x10 (mkWord [(0, 2, 2), (2, 9, 2)]) 0xFF = (s.odwCmd true 2, true) := by
  unfold State.odwRegWrite
  dsimp only
  rw [strobe_full]
  rfl

theorem State.odwRegWrite_release (s : State) : s.odwRegWrite 0x18 0 0 = (s.odwRelease, true) := rfl

/-- An accepted write to a register of the ODW page. -/
theorem State.bus_odw_ok {s t : State} {off : Nat} (h : Reached s off) (ho : 0x30000 ≤ off ∧ off < 0x40000) {data : Word}
    {strb : BitVec 8} (ht : (touched s).odwRegWrite (off % 65536) data strb = (t, true)) :
    s.bus off data strb = accepted s t := by
  rw [State.bus_odw h ho, ht]
  rfl

/-! ### GLB_ID and IDLE_S -/

theorem State.odObj_glbId (s : State) : s.odObj 0x1000 1 = some ⟨4, 1, 1, 1, none, none⟩ := rfl

/-- Every path may read GLB_ID's object, a path without a role too. -/
theorem State.odRight_glbId (s : State) (p : Path) : s.odRight p 0x1000 1 ⟨4, 1, 1, 1, none, none⟩ = 1 := by
  unfold State.odRight
  dsimp only
  split_ifs with hforeign hsess hfree
  · exact absurd hsess.1 (by decide)
  · rfl
  · exact absurd (.inl (by decide)) hfree
  all_goals rfl

theorem State.odRead_glbId (s : State) (p : Path) : s.odRead p 0x1000 1 = (s, 0, 0x48574B4D, 4) := by
  rw [State.odRead_value s.odObj_glbId (by rw [State.odRight_glbId]; decide) rfl (by decide) (by decide)]
  rfl

theorem State.odObj_idleS (s : State) : s.odObj 0x1010 4 = some ⟨2, 0, 2, 2, none, none⟩ := rfl

theorem State.odRight_idleS {s : State} {p : Path} (h2 : 2 ≤ s.role p) :
    s.odRight p 0x1010 4 ⟨2, 0, 2, 2, none, none⟩ = 2 := by
  have h0 : ¬(s.role p = 0 ∨ ((s.role p == 1) && false) = true) := by simp; omega
  unfold State.odRight
  dsimp only
  rw [if_neg h0, if_neg (by omega), ite_self]

theorem State.odPut_idleS {s : State} {v : Nat} (hlo : 10 ≤ v) (hhi : v ≤ 3600) (p : Path) :
    s.odPut p 0x1010 4 v = ({ s with dct := { s.dct with idleS := v } }, 0) := by
  unfold State.odPut
  rw [if_pos rfl, if_neg (by decide), if_neg (by decide), if_neg (by omega)]

/-- A write of IDLE_S by an Installer or Maker session, and its journal entry. -/
theorem State.odWrite_idleS {s : State} {v : Nat} (hrole : 2 ≤ s.sessRole 0) (hfull : s.jFull = false) (hlo : 10 ≤ v)
    (hhi : v ≤ 3600) :
    s.odWrite .reg 0x1010 4 v 2 =
      (({ s with dct := { s.dct with idleS := v } } : State).journalE 0 0 (s.sessRole 0) 0 0 0x41010
        (BitVec.ofNat 64 (s.dct.idleS % 2 ^ 64)) (BitVec.ofNat 64 v), 0, s.dct.idleS % 2 ^ 64) := by
  have hv : v % 2 ^ 64 = v := Nat.mod_eq_of_lt (by omega)
  rw [State.odWrite_put s.odObj_idleS (State.odRight_idleS (p := .reg) hrole) (.inl rfl) rfl rfl hfull (fun _ => rfl)
    (by decide) (by decide), State.odPut_idleS hlo hhi, hv]
  rfl

/-- Settles O20, from the three registers of the path. -/
theorem dictionaryRegisterPath : Obligations.DictionaryRegisterPath := by
  intro s v hreach
  have hstatus : Reached s 0x30018 := hreach
  have hreg : (touched s).reg 0x30000 0 = s.reg 0x30000 0 := rfl
  refine ⟨fun hup hix hsub => ?read, fun hup hlo hhi hfull hix hsub hbuf hv1 hv2 => ?write, ?release⟩
  case read =>
    have hread := State.odRead_glbId (touched s) .reg
    rw [← hix, ← hsub, ← hreg] at hread
    show s.bus 0x30010 1 0xFF = _
    refine State.bus_odw_ok hreach (by decide) ?_
    rw [State.odwRegWrite_read, State.odwCmd_read (s := touched s) hup hread]
    rfl
  case write =>
    have hlow : (touched s).dct.buf % 2 ^ (8 * min 2 256) = v := by
      rw [show 2 ^ (8 * min 2 256) = 2 ^ 16 from rfl]
      exact hbuf
    have hwrite := State.odWrite_idleS (s := touched s) (v := v) (by simpa using hlo) hfull hv1 hv2
    rw [State.sessRole_touched] at hwrite
    rw [← hix, ← hsub, ← hreg] at hwrite
    show s.bus 0x30010 (mkWord [(0, 2, 2), (2, 9, 2)]) 0xFF = _
    refine State.bus_odw_ok hreach (by decide) ?_
    rw [State.odwRegWrite_write2, State.odwCmd_write (s := touched s) hup hlow hwrite]
    rfl
  case release =>
    show s.bus 0x30018 0 0 = _
    refine State.bus_odw_ok hstatus (by decide) ?_
    rw [State.odwRegWrite_release]
    rfl

end Sys2Proof.Machine
end

section
/-! PROOFS. Bits of register words: fields of a word built from fields, single bits set or cleared, strobes (R384). -/

namespace Sys2Proof.Machine

open Sys2Proof.Safety

theorem fbit_eq (x : Word) (i : Nat) : fbit x i = x.getLsbD i := rfl

theorem fld_ext {x y : Word} {lo w : Nat} (h : ∀ j, j < w → x.getLsbD (lo + j) = y.getLsbD (lo + j)) :
    fld x lo w = fld y lo w := by
  refine Nat.eq_of_testBit_eq fun j => ?_
  rw [testBit_fld, testBit_fld]
  by_cases hj : j < w
  · rw [h j hj]
  · simp [hj]

/-- A bit of a strobed write, named by its place in the word. -/
theorem getLsbD_strobe' (old data : Word) (strb : BitVec 8) {j : Nat} (hj : j < 64) :
    (strobe old data strb).getLsbD j = if strb.toNat.testBit (j / 8) then data.getLsbD j else old.getLsbD j := by
  have h := getLsbD_strobe old data strb (i := j / 8) (j := j % 8) (by omega) (by omega)
  rwa [Nat.div_add_mod] at h

/-- A field none of whose bytes is strobed keeps its value. -/
theorem fld_strobe_off (old data : Word) {strb : BitVec 8} {lo w : Nat} (hw : lo + w ≤ 64)
    (h : ∀ j, j < w → strb.toNat.testBit ((lo + j) / 8) = false) : fld (strobe old data strb) lo w = fld old lo w := by
  refine fld_ext fun j hj => ?_
  rw [getLsbD_strobe' _ _ _ (by omega), h j hj]
  rfl

theorem testBit_replace {lo i v hi : Nat} (hlo : lo < 2 ^ i) (hv : v < 2) (j : Nat) :
    (2 ^ i * (2 * hi + v) + lo).testBit j =
      if j < i then lo.testBit j else if j = i then decide (v = 1) else hi.testBit (j - i - 1) := by
  rw [Nat.testBit_two_pow_mul_add _ hlo]
  split
  · rfl
  · split
    · subst j
      rw [Nat.sub_self, Nat.testBit_zero, Nat.mul_add_mod, Nat.mod_eq_of_lt hv]
    · obtain ⟨k, rfl⟩ : ∃ k, j = i + k + 1 := ⟨j - i - 1, by omega⟩
      rw [show i + k + 1 - i = k + 1 by omega, Nat.testBit_succ, Nat.add_sub_cancel]
      congr 1
      omega

/-- The word with one bit set or cleared: that bit, and every other one. -/
theorem getLsbD_withBit (w : Word) {i j : Nat} (v : Bool) (hj : j < 64) :
    (withBit w i v).getLsbD j = if j = i then v else w.getLsbD j := by
  have hv := b2n_le_one v
  set X := w.toNat with hX
  have hpow : 0 < 2 ^ i := by positivity
  have hlo : X % 2 ^ i < 2 ^ i := Nat.mod_lt _ hpow
  have hbit : X / 2 ^ i % 2 < 2 := Nat.mod_lt _ (by decide)
  have hsplit : X = 2 ^ i * (2 * (X / 2 ^ i / 2) + X / 2 ^ i % 2) + X % 2 ^ i := by
    rw [Nat.div_add_mod (X / 2 ^ i) 2, Nat.div_add_mod X (2 ^ i)]
  have hnew : X - bits X i 1 * 2 ^ i + b2n v % 2 ^ 1 * 2 ^ i = 2 ^ i * (2 * (X / 2 ^ i / 2) + b2n v) + X % 2 ^ i := by
    have hb : bits X i 1 = X / 2 ^ i % 2 := by rw [bits, Nat.shiftRight_eq_div_pow, Nat.pow_one]
    have hsub : X - X / 2 ^ i % 2 * 2 ^ i = 2 ^ i * (2 * (X / 2 ^ i / 2)) + X % 2 ^ i := by
      conv_lhs => lhs; rw [hsplit]
      rw [Nat.mul_add, Nat.mul_comm (X / 2 ^ i % 2)]
      omega
    rw [hb, hsub, Nat.mod_eq_of_lt (by omega : b2n v < 2 ^ 1), Nat.mul_add]
    ring
  have hold : w.getLsbD j = X.testBit j := rfl
  rw [withBit, setFld, ← hX, hnew, BitVec.getLsbD_ofNat, decide_eq_true hj, Bool.true_and, testBit_replace hlo (by omega),
    decide_b2n_eq_one, hold]
  conv_rhs => rw [hsplit, testBit_replace hlo hbit]
  rcases lt_trichotomy j i with h | h | h
  · rw [if_pos h, if_neg h.ne, if_pos h]
  · rw [if_neg h.not_lt, if_pos h, if_pos h]
  · rw [if_neg h.not_gt, if_neg h.ne', if_neg h.ne', if_neg h.not_gt, if_neg h.ne']

end Sys2Proof.Machine
end

section
/-! PROOFS. Doorbells, result slots and Dispatch Queues (R79, R104, R322, R324), and scan requests (R81). -/

namespace Sys2Proof.Machine

open Sys2Proof.Safety

/-! ### Registers of a tenant page (R106, R439) -/

/-- An accepted write to a register of an enabled tenant's page. -/
theorem State.bus_ten_ok {s u : State} {t : Fin 256} {off : Nat} (h : Reached s (tenOff t.val off)) (ho : off < 0x2000)
    {data : Word} {strb : BitVec 8} (hu : (bare s).tenWrite t.val off data strb = (u, 0)) :
    s.bus (tenOff t.val off) data strb = accepted s u := by
  rw [State.bus_ten h ho, hu, answered_ok]

section
variable {s : State} {t : Nat} (ht : (s.tenant t).enabled = true) (data : Word) (strb : BitVec 8)
include ht

theorem State.tenWrite_doorbell (d : Fin 512) : s.tenWrite t (0x1000 + 8 * d.val) data strb = (s.ringDb t d.val, 0) := by
  have hd : (0x1000 + 8 * d.val - 0x1000) / 8 = d.val := by omega
  unfold State.tenWrite
  rw [if_neg (by simp [ht])]
  iterate 5 rw [if_neg (by omega)]
  rw [if_pos (by omega), hd]

theorem State.tenWrite_slot (i : Fin 16) (word : Fin 2) :
    s.tenWrite t (0x100 + 16 * i.val + 8 * word.val) data strb = (s.slotRelease t i.val, 0) := by
  have hi : (0x100 + 16 * i.val + 8 * word.val - 0x100) / 16 = i.val := by omega
  unfold State.tenWrite
  rw [if_neg (by simp [ht])]
  iterate 3 rw [if_neg (by omega)]
  rw [if_pos (by omega), hi]

theorem State.tenWrite_dqBase : s.tenWrite t 0x18 data strb = s.dqWrite (0x2100 + t) data strb := by
  unfold State.tenWrite
  rw [if_neg (by simp [ht]), if_neg (by decide), if_pos rfl]

theorem State.tenWrite_dqBell : s.tenWrite t 0x20 data strb = (s.dqBell (0x2100 + t), 0) := by
  unfold State.tenWrite
  rw [if_neg (by simp [ht]), if_neg (by decide), if_neg (by decide), if_pos rfl]

end

theorem State.ringDb_of_queue {s : State} {t d q : Nat} (h : s.queueAt t d = some q) : s.ringDb t d = (s.scanReq q).pumpQ q := by
  rw [State.ringDb, h]

theorem State.ringDb_of_none {s : State} {t d : Nat} (h : s.queueAt t d = none) : s.ringDb t d = s.badDb t := by
  rw [State.ringDb, h]

theorem State.dqBell_active {s : State} {q : Nat} (h : s.dqState q = 1) :
    s.dqBell q = ((s.reread (s.queue q).ring).scanReq q).pumpQ q := if_pos h

theorem State.slotRelease_valid {s : State} {t i : Nat} (h : ((s.tenant t).slots.getD i {}).valid = true) :
    s.slotRelease t i = s.slotSet t i {} := if_pos h

theorem State.glbWrite_dqBell (s : State) (data : Word) (strb : BitVec 8) :
    s.glbWrite 0x50 data strb = (s.dqBell 0x2000, 0) := rfl

/-- Settles O21, register by register. -/
theorem doorbellsAndResultSlots : Obligations.DoorbellsAndResultSlots := by
  intro s t d i word q
  refine ⟨fun h ht => ⟨fun hq => ?queue, fun hq => ?none⟩, fun h hst => ?installer, fun h ht hst => ?tenant,
    fun h ht hv => ?slot⟩
  case queue =>
    show s.bus (tenOff t.val (0x1000 + 8 * d.val)) 0 0 = _
    refine State.bus_ten_ok h (by omega) ?_
    rw [State.tenWrite_doorbell (s := bare s) ht, State.ringDb_of_queue (s := bare s) hq]
  case none =>
    show s.bus (tenOff t.val (0x1000 + 8 * d.val)) 0 0 = _
    refine State.bus_ten_ok h (by omega) ?_
    rw [State.tenWrite_doorbell (s := bare s) ht, State.ringDb_of_none (s := bare s) hq]
    rfl
  case installer =>
    show s.bus 0x50 0 0 = _
    refine State.bus_page_plain 0 0 h (by decide) (by decide) (by decide) (by decide) ?_
    rw [State.pageWrite_glb _ _ _ _ (by decide), State.glbWrite_dqBell, State.dqBell_active (s := touched s) hst]
    rfl
  case tenant =>
    show s.bus (tenOff t.val 0x20) 0 0 = _
    refine State.bus_ten_ok h (by omega) ?_
    rw [State.tenWrite_dqBell (s := bare s) ht, State.dqBell_active (s := bare s) hst]
    rfl
  case slot =>
    show s.bus (tenOff t.val (0x100 + 16 * i.val + 8 * word.val)) 0 0 = _
    refine State.bus_ten_ok h (by omega) ?_
    rw [State.tenWrite_slot (s := bare s) ht, State.slotRelease_valid (s := bare s) hv]

/-! ### Scan requests (R81) -/

/-- A queue that exists shows what was made of it. -/
theorem State.queue_updQueue_self {s : State} {q : Nat} (h : Tbl.has q s.queues = true) (f : Queue → Queue) :
    (s.updQueue q f).queue q = f (s.queue q) := by
  obtain ⟨g, hg⟩ := Option.isSome_iff_exists.mp h
  simp [State.queue, State.updQueue, Tbl.getD, Tbl.get_upd, hg]

theorem State.scanReq_running {s : State} {q : Nat} (hst : (s.queue q).st = .active ∨ (s.queue q).st = .backed)
    (hmode : s.scanMode (s.queue q) = true) (hscan : (s.queue q).scanning = true) :
    s.scanReq q = s.updQueue q (fun g => { g with rescan := true }) := by
  have hactive : ((s.queue q).st == .active || (s.queue q).st == .backed) = true := by simpa using hst
  unfold State.scanReq
  dsimp only
  rw [hactive, hmode, if_neg (by decide), if_neg (by decide), if_pos hscan]

theorem State.scanStop_rescan {s : State} {q : Nat} (h : (s.queue q).rescan = true) :
    s.scanStop q = s.updQueue q (fun g => { g with rescan := false, line := none }) := by
  unfold State.scanStop
  exact if_pos h

/-- A scan with no line in hand and nothing seen reads the line of its pointer. -/
theorem State.scanRun_read {s : State} {q : Nat} (hst : (s.queue q).st = .active ∨ (s.queue q).st = .backed)
    (hmode : s.scanMode (s.queue q) = true) (hscan : (s.queue q).scanning = true) (hread : (s.queue q).reading = false)
    (hents : (s.queue q).ents = []) (hline : (s.queue q).line = none) (n : Nat) :
    s.scanRun q (n + 1) = (s.updQueue q (fun g => { g with reading := true, scanId := s.nextId })).ctl q true
      [{ line := (s.queue q).unitAddr (s.queue q).sp / 64, key := 0 }] ⟨.scan, q, s.nextId⟩ (s.queue q).port (s.queue q).coh := by
  have hactive : ((s.queue q).st == .active || (s.queue q).st == .backed) = true := by simpa using hst
  have hseen : (s.queue q).seenEnts.length = 0 := by simp [Queue.seenEnts, hents]
  unfold State.scanRun
  dsimp only
  rw [hents, hline, hscan, hread, hactive, hmode, hseen]
  rfl

/-- Settles O22. -/
theorem rescanPending : Obligations.RescanPending := by
  intro s q n hst hmode hscan
  refine ⟨State.scanReq_running hst hmode hscan, fun hres => ⟨State.scanStop_rescan hres, fun hread hents hq => ?_⟩⟩
  have hg : (s.scanStop q).queue q = { s.queue q with rescan := false, line := none } := by
    rw [State.scanStop_rescan hres, State.queue_updQueue_self hq]
  have hid : (s.scanStop q).nextId = s.nextId := by rw [State.scanStop_rescan hres]; rfl
  have hmode' : (s.scanStop q).scanMode ((s.scanStop q).queue q) = true := by
    rw [hg, State.scanStop_rescan hres]
    exact hmode
  rw [State.scanRun_read (by rw [hg]; exact hst) hmode' (by rw [hg]; exact hscan) (by rw [hg]; exact hread)
    (by rw [hg]; exact hents) (by rw [hg]) n, hg, hid]
  rfl

end Sys2Proof.Machine
end

section
/-! PROOFS. Registers of the tick keeper, the admission limit, the marks and the limiters (R39, R52, R60 to R66), and of
Dispatch Queues (R322, R324). -/

namespace Sys2Proof.Machine

open Sys2Proof.Safety

/-! ### TTB_TICKCFG, TTB_ADMIT, TTB_HWM (R39, R52, R66) -/

/-- A legal change of LEN or PHASE. -/
theorem State.tickCfgWrite_ok {s : State} {data : Word} {strb : BitVec 8} (hmode : s.mode = .configure) (hresv : s.tt.resv = [])
    (hlen : fld (strobe s.tickCfg data strb) 0 3 ≠ 7)
    (hphase : fld (strobe s.tickCfg data strb) 16 14 * 1000 < tickPs (fld (strobe s.tickCfg data strb) 0 3))
    (hnew : ¬(fld (strobe s.tickCfg data strb) 0 3 = s.tt.cfgLen ∧ fld (strobe s.tickCfg data strb) 16 14 = s.tt.cfgPhase)) :
    s.tickCfgWrite data strb =
      ({ s with tt := { s.tt with cfgLen := fld (strobe s.tickCfg data strb) 0 3,
                                  cfgPhase := fld (strobe s.tickCfg data strb) 16 14 },
                wbg := { s.wbg with ivTick := if fld (strobe s.tickCfg data strb) 0 3 = s.tt.cfgLen then s.wbg.ivTick else true } },
       0) := by
  unfold State.tickCfgWrite
  dsimp only
  rw [if_neg hnew, if_neg (by simp [hmode]), if_neg (by rintro (h | h) <;> omega), if_neg (by simp [hresv])]
  split <;> rfl

theorem State.ttbWrite_admit {s : State} {data : Word} {strb : BitVec 8} (hlo : 50 ≤ fld (strobe s.admitReg data strb) 0 7)
    (hhi : fld (strobe s.admitReg data strb) 0 7 ≤ 90) :
    s.ttbWrite 0x100 data strb = ({ s with tt := { s.tt with limit := fld (strobe s.admitReg data strb) 0 7 } }, 0) := by
  unfold State.ttbWrite
  dsimp only
  iterate 5 rw [if_neg (by decide)]
  rw [if_pos rfl, if_neg (by omega)]

/-- A mark after CLEAR, with the quantity's present value. -/
def Hwm.cleared (h : Hwm) (present : Nat) : Hwm := { h with peak := present, thresh := h.thresh % 2 ^ 24 }

/-- The word of TTB_HWM with CLEAR alone: THRESH is kept, CROSSED is not cleared. -/
theorem fields_hwmClear (thresh : Nat) :
    let v := strobe (mkWord [(32, 24, thresh)]) (withBit 0 62 true) 0x80
    fbit v 62 = true ∧ fbit v 63 = false ∧ fld v 32 24 = thresh % 2 ^ 24 := by
  refine ⟨?_, ?_, ?_⟩
  · rw [fbit_eq, getLsbD_strobe' _ _ _ (by decide), if_pos (by decide), getLsbD_withBit _ _ (by decide), if_pos rfl]
  · rw [fbit_eq, getLsbD_strobe' _ _ _ (by decide), if_pos (by decide), getLsbD_withBit _ _ (by decide), if_neg (by decide)]
    rfl
  · rw [fld_strobe_off _ _ (by decide) (by decide), fld, bits, toNat_mkWord, Nat.shiftRight_eq_div_pow]
    simp only [fieldSum]
    omega

theorem State.hwmWrite_clear {s : State} (hsel : s.hwmSel < 22) :
    s.hwmWrite (withBit 0 62 true) 0x80 =
      { s with tt := { s.tt with hwm := Tbl.put s.hwmSel ((Tbl.getD s.hwmSel {} s.tt.hwm).cleared (s.hwmVal s.hwmSel)) s.tt.hwm } } := by
  obtain ⟨hclear, hcross, hthresh⟩ := fields_hwmClear (Tbl.getD s.hwmSel ({} : Hwm) s.tt.hwm).thresh
  unfold State.hwmWrite
  dsimp only
  rw [if_neg (by omega), hclear, hcross, hthresh, if_pos rfl, Bool.not_false, Bool.and_true, Hwm.cleared]

theorem State.ttbWrite_hwm (s : State) (data : Word) (strb : BitVec 8) :
    s.ttbWrite 0x308 data strb = (s.hwmWrite data strb, 0) := rfl

/-- Settles O24, register by register. -/
theorem timetableRegisters : Obligations.TimetableRegisters := by
  intro s data strb t
  refine ⟨fun h hmode hresv hfull hl hp hnew => ?tickCfg, fun h hfull hlo hhi => ?limit, fun h hsel => ?hwm⟩
  case tickCfg =>
    show s.bus 0x10000 data strb = _
    refine State.bus_page_noted data strb h (by decide) (by decide) (by decide) (by decide) hfull (by decide) ?_
      (State.sessRole_touched s 0)
    rw [State.pageWrite_ttb _ _ _ _ (by decide) (by decide)]
    exact State.tickCfgWrite_ok (s := touched s) hmode hresv hl hp hnew
  case limit =>
    show s.bus 0x10100 data strb = _
    refine State.bus_page_noted data strb h (by decide) (by decide) (by decide) (by decide) hfull (by decide) ?_
      (State.sessRole_touched s 0)
    rw [State.pageWrite_ttb _ _ _ _ (by decide) (by decide)]
    exact State.ttbWrite_admit (s := touched s) hlo hhi
  case hwm =>
    show s.bus 0x10308 (withBit 0 62 true) 0x80 = _
    refine State.bus_page_plain _ _ h (by decide) (by decide) (by decide) (by decide) ?_
    rw [State.pageWrite_ttb _ _ _ _ (by decide) (by decide), State.ttbWrite_hwm, State.hwmWrite_clear (s := touched s) hsel]
    rfl

/-! ### The selected limiter (R60, R62 to R64) -/

@[simp] theorem Limiter.slot_cfg (l : Limiter) (ticks tPs : Nat) : (l.slot ticks tPs).cfg = l.cfg := by
  unfold Limiter.slot
  split <;> rfl

@[simp] theorem Limiter.slot_e (l : Limiter) (ticks tPs : Nat) : (l.slot ticks tPs).e = l.e := by
  unfold Limiter.slot
  split <;> rfl

@[simp] theorem Limiter.slot_eTick (l : Limiter) (ticks tPs : Nat) : (l.slot ticks tPs).eTick = l.eTick := by
  unfold Limiter.slot
  split <;> rfl

@[simp] theorem Limiter.slot_zeroAt (l : Limiter) (ticks tPs : Nat) : (l.slot ticks tPs).zeroAt = l.zeroAt := by
  unfold Limiter.slot
  split <;> rfl

theorem Limiter.slot_wheel {l : Limiter} (h : l.tok ≤ 0) (ticks tPs : Nat) : (l.slot ticks tPs).wheel ≠ none := by
  unfold Limiter.slot
  rw [if_neg (by omega)]
  simp

/-- A change of configuration: the fields R62 and R64 speak of. -/
theorem Limiter.write_fields (l : Limiter) (v : Word) (ticks tPs : Nat) :
    (l.write v ticks tPs).cfg = v ∧
    (l.write v ticks tPs).tok = (if l.tok > 0 then min l.tok (l.write v ticks tPs).depth else l.tok) ∧
    (l.write v ticks tPs).eTick = l.eTick ∧
    (l.write v ticks tPs).e = if (l.write v ticks tPs).adapt = true ∧ l.adapt = true
      then min l.e ((l.write v ticks tPs).rate * 256) else (l.write v ticks tPs).rate * 256 := by
  have hcfg : (l.write v ticks tPs).cfg = v := by
    unfold Limiter.write
    simp only [apply_ite Limiter.cfg, Limiter.slot_cfg, ite_self]
  have hdepth : (l.write v ticks tPs).depth = ({ l with cfg := v } : Limiter).depth := by rw [Limiter.depth, hcfg]; rfl
  have hadapt : (l.write v ticks tPs).adapt = ({ l with cfg := v } : Limiter).adapt := by rw [Limiter.adapt, hcfg]; rfl
  have hrate : (l.write v ticks tPs).rate = ({ l with cfg := v } : Limiter).rate := by rw [Limiter.rate, hcfg]; rfl
  rw [hdepth, hadapt, hrate]
  refine ⟨hcfg, ?tok, ?eTick, ?e⟩
  case tok =>
    unfold Limiter.write
    simp only [apply_ite Limiter.tok, Limiter.slot_tok, ite_self]
  case eTick =>
    unfold Limiter.write
    simp only [apply_ite Limiter.eTick, Limiter.slot_eTick, ite_self]
  case e =>
    unfold Limiter.write
    simp only [apply_ite Limiter.e, Limiter.slot_e, ite_self]
    cases ({ l with cfg := v } : Limiter).adapt <;> cases l.adapt <;> simp

theorem Limiter.zero_fields (l : Limiter) (ticks tPs clk : Nat) :
    (l.zero ticks tPs clk).tok = 0 ∧ (l.zero ticks tPs clk).cfg = l.cfg ∧ (l.zero ticks tPs clk).e = l.e ∧
    (l.zero ticks tPs clk).wheel ≠ none ∧
    (l.zero ticks tPs clk).zeroAt = if l.tok > 0 ∧ l.wheel = none then some clk else none := by
  unfold Limiter.zero
  exact ⟨by simp, by simp, by simp, Limiter.slot_wheel (by simp) _ _, by simp⟩

theorem Limiter.resetAdapt_fields (l : Limiter) (ticks tPs : Nat) :
    (l.resetAdapt ticks tPs).e = l.rate * 256 ∧ (l.resetAdapt ticks tPs).tok = l.tok ∧ (l.resetAdapt ticks tPs).cfg = l.cfg := by
  unfold Limiter.resetAdapt
  dsimp only
  split <;> simp

theorem State.limWrite_ok {s : State} {i : Nat} {v : Word} (h : limCfgOk (mkWord [(0, 60, fld v 0 60)]) = true) :
    s.limWrite i v = (s.setLimiter i ((s.limiter i).write (mkWord [(0, 60, fld v 0 60)]) s.tt.ticks s.T), 0) := by
  unfold State.limWrite
  exact if_pos h

/-- TTB_LIMCTL: an action of the selected limiter, accepted and journalled with the bit written (R63). -/
theorem State.bus_limctl {s : State} (h : Open s 0x10218) (hf : s.jFull = false) (data : Word) {l : Limiter}
    (hl : (touched s).ttbWrite 0x218 data 1 = ((touched s).setLimiter s.limSel l, 0)) :
    s.bus 0x10218 data 1 = acceptedNoted s ((touched s).setLimiter s.limSel l) 0x10218 0 (strobe 0 data 1) := by
  have hf' : (touched s).jFull = false := hf
  have hpage : (touched s).pageWrite 0x10218 data 1 .reg = ((touched s).setLimiter s.limSel l, 0) := by
    rw [State.pageWrite_ttb _ _ _ _ (by decide) (by decide)]
    exact hl
  have hgated : (touched s).gatedWrite 0x10218 data 1 =
      (((touched s).setLimiter s.limSel l).jrn 1 .reg 0 0x10218 0 (strobe 0 data 1), 0) := by
    have hold : (touched s).pageRead 0x10218 = 0 := rfl
    unfold State.gatedWrite
    dsimp only
    rw [if_neg (by simpa [Nat.succ_le_iff] using h.2), if_pos (by decide), hf', if_neg (by decide), if_pos rfl, hpage, hold]
  rw [State.bus_gated h.1 (by decide) (by decide), if_pos (by decide), hgated, State.jrn_reg]
  have hrole : ((touched s).setLimiter s.limSel l).sessRole 0 = s.sessRole 0 := s.sessRole_touched 0
  rw [hrole]
  rfl

theorem State.ttbWrite_limctl (s : State) (data : Word) :
    s.ttbWrite 0x218 data 1 = s.limAct s.limSel (fbit data 0) (fbit data 1) (fbit data 2) := rfl

/-- Settles O25, from what each write makes of a limiter. -/
theorem limiterRegisters : Obligations.LimiterRegisters := by
  intro s data strb i l hi hl hfull t
  subst hi hl
  refine ⟨fun h hok => ?write, fun h => ⟨?zero, ?fill, ?adapt⟩⟩
  case write =>
    obtain ⟨hcfg, htok, heTick, he⟩ := Limiter.write_fields (s.limiter s.limSel)
      (mkWord [(0, 60, fld (wrote s 0x10208 data strb) 0 60)]) s.tt.ticks s.T
    refine ⟨_, ?_, hcfg, htok, heTick, he⟩
    show s.bus 0x10208 data strb = _
    refine State.bus_page_noted data strb h (by decide) (by decide) (by decide) (by decide) hfull (by decide) ?_
      (State.sessRole_touched s 0)
    rw [State.pageWrite_ttb _ _ _ _ (by decide) (by decide)]
    exact State.limWrite_ok (s := touched s) hok
  case zero =>
    obtain ⟨htok, hcfg, he, hwheel, hzero⟩ := Limiter.zero_fields (s.limiter s.limSel) s.tt.ticks s.T s.clk
    refine ⟨_, ?_, htok, hcfg, he, hwheel, hzero⟩
    exact State.bus_limctl h hfull 1 (State.ttbWrite_limctl _ _)
  case fill => exact State.bus_limctl h hfull 2 (State.ttbWrite_limctl _ _)
  case adapt =>
    obtain ⟨he, htok, hcfg⟩ := Limiter.resetAdapt_fields (s.limiter s.limSel) s.tt.ticks s.T
    refine ⟨_, ?_, he, htok, hcfg⟩
    exact State.bus_limctl h hfull 4 (State.ttbWrite_limctl _ _)

end Sys2Proof.Machine
end

section
/-! PROOFS. Dispatch Queues: enable and stop (R322, R324). -/

namespace Sys2Proof.Machine

open Sys2Proof.Safety

@[simp] theorem State.dqMake_wins (s : State) (q : Nat) : (s.dqMake q).wins = s.wins := by
  unfold State.dqMake
  split <;> rfl

/-- The state in which an idle Dispatch Queue has taken its address. -/
def State.dqAddr (b : State) (q : Nat) (data : Word) : State :=
  ((b.setReg (dqReg q) (mkWord [(6, 46, fld data 6 46)])).dqMake q).updQueue q (fun g => { g with addrNew := true })

@[simp] theorem State.dqAddr_wins (b : State) (q : Nat) (data : Word) : (b.dqAddr q data).wins = b.wins :=
  State.dqMake_wins _ _

/-- Every byte strobed names the address, moved or not. -/
theorem hit_full (moved : Bool) : (moved || decide (bits (0xFF : BitVec 8).toNat 1 6 ≠ 0)) = true := by
  rw [show decide (bits (0xFF : BitVec 8).toNat 1 6 ≠ 0) = true by decide, Bool.or_true]

theorem State.dq_idle {b : State} {q : Nat} (hst : b.dqState q = 0 ∨ b.dqState q = 3) (hen : b.dqEnabling q = false) :
    ((b.dqState q == 0 || b.dqState q == 3) && !b.dqEnabling q) = true := by
  rcases hst with h | h <;> simp [h, hen]

section
variable {b : State} {q : Nat} {data : Word} (hst : b.dqState q = 0 ∨ b.dqState q = 3) (hen : b.dqEnabling q = false)
  (hdata : fbit data 0 = true)
include hst hen hdata

/-- An enable of Dispatch Queue 0, idle, with every byte strobed: its address is stored and its record read. -/
theorem State.dqWrite_enable (hq : q = 0x2000) :
    b.dqWrite q data 0xFF =
      (((b.dqAddr q data).dqMake q).ctl q true (rdLines (64 * fld data 6 46) 64 0) ⟨.dqRec, q, 0⟩ none false, 0) := by
  unfold State.dqWrite
  dsimp only
  rw [strobe_full, State.dq_idle hst hen, hit_full, Bool.not_true, Bool.and_false, if_neg (by decide), if_neg (by decide), hdata,
    if_pos rfl, if_neg (by decide), if_pos hq]
  rfl

/-- Of a tenant's, whose window with read rights covers the record. -/
theorem State.dqWrite_enableTen {i : Nat} {w : Window} (hq : q ≠ 0x2000)
    (hw : findWin b.wins (q - 0x2100) (64 * fld data 6 46) 64 = some (i, w)) (hrd : w.rd = true) :
    b.dqWrite q data 0xFF =
      (((b.dqAddr q data).dqMake q).ctl q true (rdLines (addOff (64 * fld data 6 46) w.offset) 64 0) ⟨.dqRec, q, 0⟩ (some w.port)
        w.mem, 0) := by
  have hw' : findWin ((b.dqAddr q data).dqMake q).wins (q - 0x2100) (64 * fld data 6 46) 64 = some (i, w) := by
    rw [State.dqMake_wins, State.dqAddr_wins, hw]
  unfold State.dqWrite
  dsimp only
  rw [strobe_full, State.dq_idle hst hen, hit_full, Bool.not_true, Bool.and_false, if_neg (by decide), if_neg (by decide), hdata,
    if_pos rfl, if_neg (by decide), if_neg hq, Bool.and_self, if_pos rfl,
    show (((b.setReg (dqReg q) (mkWord [(6, 46, fld data 6 46)])).dqMake q).updQueue q (fun g => { g with addrNew := true }))
      = b.dqAddr q data from rfl, hw']
  dsimp only
  rw [if_pos hrd]

end

/-- A write of byte 0 that clears EN of an ACTIVE Dispatch Queue moves no address and halts it. -/
theorem State.dqWrite_stop {b : State} {q : Nat} (hst : b.dqState q = 1) :
    b.dqWrite q (withBit (b.dqBase q) 0 false) 1 = (b.dqHalt q false, 0) := by
  have haddr : fld (strobe (b.dqBase q) (withBit (b.dqBase q) 0 false) 1) 6 46 = fld (b.dqBase q) 6 46 := by
    refine fld_ext fun j hj => ?_
    rw [getLsbD_strobe' _ _ _ (by omega), getLsbD_withBit _ _ (by omega), if_neg (show ¬6 + j = 0 by omega), ite_self]
  have hen : fbit (strobe (b.dqBase q) (withBit (b.dqBase q) 0 false) 1) 0 = false := by
    rw [fbit_eq, getLsbD_strobe' _ _ _ (by decide), if_pos (by decide), getLsbD_withBit _ _ (by decide), if_pos rfl]
  have hidle : ((b.dqState q == 0 || b.dqState q == 3) && !b.dqEnabling q) = false := by simp [hst]
  unfold State.dqWrite
  dsimp only
  rw [haddr, hen, hidle]
  simp only [bne_self_eq_false, Bool.false_and, Bool.false_eq_true, if_false, show (1 : BitVec 8).toNat.testBit 0 = true from rfl,
    Bool.not_true, hst, if_true]

theorem State.glbWrite_dqBase (s : State) (data : Word) (strb : BitVec 8) :
    s.glbWrite 0x48 data strb = s.dqWrite 0x2000 data strb := rfl

/-- A write to GLB_DQBASE, with its effect. -/
theorem State.bus_glbDqBase {s u : State} (h : Open s 0x48) {data : Word} {strb : BitVec 8}
    (hu : (touched s).dqWrite 0x2000 data strb = (u, 0)) : s.bus 0x48 data strb = accepted s u := by
  refine State.bus_page_plain data strb h (by decide) (by decide) (by decide) (by decide) ?_
  rw [State.pageWrite_glb _ _ _ _ (by decide), State.glbWrite_dqBase, hu]

/-- A write to TEN_DQBASE, with its effect. -/
theorem State.bus_tenDqBase {s u : State} {t : Fin 256} (h : Reached s (tenOff t.val 0x18))
    (ht : (s.tenant t.val).enabled = true) {data : Word} {strb : BitVec 8}
    (hu : (bare s).dqWrite (0x2100 + t.val) data strb = (u, 0)) :
    s.bus (tenOff t.val 0x18) data strb = accepted s u := by
  refine State.bus_ten_ok h (by decide) ?_
  rw [State.tenWrite_dqBase (s := bare s) ht, hu]

/-- Settles O26: enable and stop, of Dispatch Queue 0 and of a tenant's. -/
theorem dispatchQueueRegisters : Obligations.DispatchQueueRegisters := by
  intro s data t i w a put q
  refine ⟨fun h hst hen hdata => ?enable0, fun h hst => ?stop0, fun h ht => ⟨fun hst hen hdata hw hrd => ?enable, fun hst => ?stop⟩⟩
  case enable0 =>
    show s.bus 0x48 data 0xFF = _
    refine State.bus_glbDqBase h ?_
    rw [State.dqWrite_enable (b := touched s) hst hen hdata rfl]
    rfl
  case stop0 =>
    show s.bus 0x48 (withBit (s.dqBase 0x2000) 0 false) 1 = _
    exact State.bus_glbDqBase h (State.dqWrite_stop (b := touched s) hst)
  case enable =>
    show s.bus (tenOff t.val 0x18) data 0xFF = _
    refine State.bus_tenDqBase h ht ?_
    have hsub : 0x2100 + t.val - 0x2100 = t.val := by omega
    rw [State.dqWrite_enableTen (b := bare s) hst hen hdata (show q ≠ 0x2000 by omega) (by rw [hsub]; exact hw) hrd]
    rfl
  case stop =>
    show s.bus (tenOff t.val 0x18) (withBit (s.dqBase q) 0 false) 1 = _
    exact State.bus_tenDqBase h ht (State.dqWrite_stop (b := bare s) hst)

end Sys2Proof.Machine
end

section
/-! PROOFS. Interrupt vectors and severity words (R278, R431), the test key (R294), force and injection (R293, R295). -/

namespace Sys2Proof.Machine

open Sys2Proof.Safety

/-! ### Fields set in a word -/

/-- The word with one field replaced: the bits of that field, and every other one. -/
theorem getLsbD_setFld (x : Word) {lo w : Nat} (v : Nat) {j : Nat} (hj : j < 64) :
    (setFld x lo w v).getLsbD j = if lo ≤ j ∧ j < lo + w then v.testBit (j - lo) else x.getLsbD j := by
  have hlo : x.toNat % 2 ^ lo < 2 ^ lo := Nat.mod_lt _ (by positivity)
  have hmid : x.toNat / 2 ^ lo % 2 ^ w < 2 ^ w := Nat.mod_lt _ (by positivity)
  have hsplit : x.toNat = 2 ^ lo * (2 ^ w * (x.toNat / 2 ^ lo / 2 ^ w) + x.toNat / 2 ^ lo % 2 ^ w) + x.toNat % 2 ^ lo := by
    rw [Nat.div_add_mod, Nat.div_add_mod]
  have hnew : x.toNat - bits x.toNat lo w * 2 ^ lo + v % 2 ^ w * 2 ^ lo =
      2 ^ lo * (2 ^ w * (x.toNat / 2 ^ lo / 2 ^ w) + v % 2 ^ w) + x.toNat % 2 ^ lo := by
    have hsub : x.toNat - x.toNat / 2 ^ lo % 2 ^ w * 2 ^ lo = 2 ^ lo * (2 ^ w * (x.toNat / 2 ^ lo / 2 ^ w)) + x.toNat % 2 ^ lo := by
      conv_lhs => lhs; rw [hsplit]
      rw [Nat.mul_add, Nat.mul_comm (x.toNat / 2 ^ lo % 2 ^ w)]
      omega
    rw [bits, Nat.shiftRight_eq_div_pow, hsub]
    ring
  have hold : x.getLsbD j = x.toNat.testBit j := rfl
  rw [setFld, hnew, BitVec.getLsbD_ofNat, decide_eq_true hj, Bool.true_and, Nat.testBit_two_pow_mul_add _ hlo, hold]
  conv_rhs => rw [hsplit, Nat.testBit_two_pow_mul_add _ hlo]
  by_cases h1 : j < lo
  · rw [if_pos h1, if_neg (by omega), if_pos h1]
  · rw [if_neg h1, if_neg h1, Nat.testBit_two_pow_mul_add _ (Nat.mod_lt _ (by positivity)), Nat.testBit_two_pow_mul_add _ hmid,
      Nat.testBit_mod_two_pow]
    by_cases h2 : j < lo + w
    · rw [if_pos (by omega), if_pos ⟨by omega, h2⟩, decide_eq_true (by omega : j - lo < w), Bool.true_and]
    · rw [if_neg (by omega), if_neg (by omega), if_neg (by omega)]

/-- The field that was set. -/
theorem fld_setFld_same (x : Word) {lo w v : Nat} (hw : lo + w ≤ 64) (hv : v < 2 ^ w) : fld (setFld x lo w v) lo w = v := by
  refine Nat.eq_of_testBit_eq fun j => ?_
  rw [testBit_fld]
  by_cases hj : j < w
  · rw [decide_eq_true hj, Bool.true_and, getLsbD_setFld x v (by omega), if_pos ⟨by omega, by omega⟩, Nat.add_sub_cancel_left]
  · rw [decide_eq_false hj, Bool.false_and, Nat.testBit_lt_two_pow (hv.trans_le (Nat.pow_le_pow_right (by decide) (by omega)))]

/-- A field that the set one does not meet. -/
theorem fld_setFld_other (x : Word) {lo w lo' w' : Nat} (v : Nat) (hw' : lo' + w' ≤ 64)
    (h : lo' + w' ≤ lo ∨ lo + w ≤ lo') : fld (setFld x lo w v) lo' w' = fld x lo' w' := by
  refine fld_ext fun j hj => ?_
  rw [getLsbD_setFld x v (by omega), if_neg (by omega)]

theorem fld_lt (x : Word) (lo w : Nat) : fld x lo w < 2 ^ w := Nat.mod_lt _ (by positivity)

/-- A flag is its one-bit field. -/
theorem fbit_eq_decide (x : Word) (i : Nat) : fbit x i = decide (fld x i 1 = 1) := by
  rw [fbit, fld, bits, Nat.shiftRight_eq_div_pow, Nat.pow_one, Nat.testBit_eq_decide_div_mod_eq]

theorem b2n_fbit (x : Word) (i : Nat) : b2n (fbit x i) = fld x i 1 := by
  have h := fld_lt x i 1
  rw [fbit_eq_decide, b2n]
  by_cases hx : fld x i 1 = 1
  · simp [hx]
  · simp [hx]; omega

/-! ### Vectors (R431) -/

theorem journalled_vec (v : Fin 2048) : journalled (0x1000 + 16 * v.val) = true := by
  unfold journalled
  rw [show (decide (0x1000 ≤ 0x1000 + 16 * v.val ∧ 0x1000 + 16 * v.val < 0x9000) && (0x1000 + 16 * v.val) % 16 == 0) = true by
    rw [Bool.and_eq_true, decide_eq_true_eq, beq_iff_eq]; omega]
  rfl

theorem State.glbWrite_vec (s : State) (v : Fin 2048) (data : Word) (strb : BitVec 8) :
    s.glbWrite (0x1000 + 16 * v.val) data strb = s.vecWrite v.val data strb := by
  unfold State.glbWrite
  iterate 3 rw [if_neg (by omega)]
  rw [if_pos (by omega), show (0x1000 + 16 * v.val - 0x1000) / 16 = v.val by omega]

theorem State.pageRead_vec (s : State) (v : Fin 2048) : s.pageRead (0x1000 + 16 * v.val) = s.vecWord v.val := by
  unfold State.pageRead
  rw [if_pos (by omega)]
  unfold State.glbRead
  iterate 8 rw [if_neg (by omega)]
  iterate 3 rw [if_neg (by omega)]
  rw [if_pos (by omega)]
  dsimp only
  rw [if_pos (by omega), show (0x1000 + 16 * v.val - 0x1000) / 16 = v.val by omega]

/-- A vector that nothing names, or whose tenant and assignment the write keeps. -/
theorem State.vecWrite_ok {s : State} {v : Nat} {data : Word} {strb : BitVec 8}
    (h : (fld (strobe (s.vecWord v) data strb) 0 8 = (s.vec v).tenant ∧
      ((s.vec v).assigned = true → fbit (strobe (s.vecWord v) data strb) 8 = true)) ∨ s.vecNamed v = false) :
    s.vecWrite v data strb =
      (s.updVec v (fun x => { x with
        tenant := fld (strobe (s.vecWord v) data strb) 0 8, assigned := fbit (strobe (s.vecWord v) data strb) 8,
        mask := fbit (strobe (s.vecWord v) data strb) 16,
        at_ := if x.mask && !fbit (strobe (s.vecWord v) data strb) 16 then s.clk else x.at_ }), 0) := by
  unfold State.vecWrite
  dsimp only
  rw [if_neg]
  rintro ⟨hkeep, hnamed⟩
  rcases h with ⟨hten, hasg⟩ | hfree
  · rcases hkeep with hten' | ⟨ha, hb⟩
    · exact hten' hten
    · rw [hasg ha] at hb
      exact absurd hb (by decide)
  · rw [hfree] at hnamed
    exact absurd hnamed (by decide)

/-! ### The Signal Box page (R278, R294) -/

/-- The arming sequence is restarted: at most the key changes. -/
theorem State.keyTouch_frame (s : State) :
    s.keyTouch = { s with sbx := { s.sbx with key := s.keyTouch.sbx.key } } := by
  unfold State.keyTouch
  split <;> rfl

theorem State.keyTouch_of_ne {s : State} (h : s.sbx.key ≠ 1) : s.keyTouch = s := if_neg h

theorem State.keyTouch_of_eq {s : State} (h : s.sbx.key = 1) : s.keyTouch = { s with sbx := { s.sbx with key := 0 } } := if_pos h

@[simp] theorem State.keyTouch_reg (s : State) (a d : Nat) : s.keyTouch.reg a d = s.reg a d := by
  rw [State.keyTouch_frame]; rfl

@[simp] theorem State.keyTouch_sessRole (s : State) (k : Nat) : s.keyTouch.sessRole k = s.sessRole k := by
  rw [State.keyTouch_frame]; rfl

@[simp] theorem State.keyTouch_sev (s : State) : s.keyTouch.sbx.sev = s.sbx.sev := by
  rw [State.keyTouch_frame]

@[simp] theorem State.keyTouch_mode (s : State) : s.keyTouch.mode = s.mode := by
  rw [State.keyTouch_frame]

/-- A write to the SBX page other than the WARM_RESET bit's and that the page accepts. -/
theorem State.sbxPage_ok {s t : State} {off : Nat} {data : Word} {strb : BitVec 8} {p : Path} (hoff : off ≠ 0x400)
    (h : s.sbxWrite off data strb (s.mode == .factoryTest && s.role p == 3) s.injWindow = (t, true)) :
    s.sbxPage off data strb p = (t, 0) := by
  unfold State.sbxPage
  dsimp only
  rw [if_neg (fun hw => hoff hw.1), h]
  rfl

theorem journalled_sev : ∀ k : Fin 24, journalled (0x20100 + 8 * k.val) = true := by
  decide

theorem State.pageRead_sev (s : State) (k : Fin 24) : s.pageRead (0x20100 + 8 * k.val) = s.sbx.sev.getD k.val 0 := by
  have hmod : (0x20100 + 8 * k.val) % 65536 = 0x100 + 8 * k.val := by omega
  unfold State.pageRead
  iterate 2 rw [if_neg (by omega)]
  rw [if_pos (by omega), hmod]
  unfold State.sbxRead
  iterate 5 rw [if_neg (by omega)]
  rw [if_pos (by omega)]
  dsimp only
  rw [show (0x100 + 8 * k.val - 0x100) / 8 = k.val by omega]

theorem State.sbxWrite_sev {s : State} (k : Fin 24) {data : Word} {strb : BitVec 8} {maker inj : Bool}
    (hlock : fbit (s.reg 0x20000 0) 16 = false)
    (hok : (sevWord k.val (s.sbx.sev.getD k.val 0) (strobe (s.sbx.sev.getD k.val 0) data strb) maker).2 = true) :
    s.sbxWrite (0x100 + 8 * k.val) data strb maker inj =
      ({ s.keyTouch with sbx := { s.keyTouch.sbx with
          sev := setAt k.val (sevWord k.val (s.sbx.sev.getD k.val 0) (strobe (s.sbx.sev.getD k.val 0) data strb) maker).1
            s.sbx.sev } }, true) := by
  unfold State.sbxWrite
  rw [if_neg (by omega)]
  dsimp only
  iterate 2 rw [if_neg (by omega)]
  rw [if_pos (by omega), show (0x100 + 8 * k.val - 0x100) / 8 = k.val by omega, State.keyTouch_sev, State.keyTouch_reg, hlock,
    if_neg (by decide), hok]

/-! ### Severity words (R278) -/

/-- A class that is stored fits its field. -/
theorem sevStore_lt {src old c d : Nat} {maker : Bool} (h : sevStore src old c maker = some d) : d < 2 ^ 3 := by
  unfold sevStore at h
  split at h
  · cases h
  split at h
  · cases h
  split at h
  · split at h <;> cases h <;> decide
  split at h
  · split at h <;> cases h <;> decide
  cases h
  omega

/-- The class field a write leaves for source i of a severity word. -/
def sevField (k : Nat) (old v : Word) (maker : Bool) (i : Nat) : Nat :=
  if 0x17A ≤ 16 * k + i then fld old (4 * i) 3
  else (sevStore (16 * k + i) (fld old (4 * i) 3) (fld v (4 * i) 3) maker).getD (fld old (4 * i) 3)

/-- One source's turn in a write to a severity word. -/
def sevTurn (k : Nat) (old v : Word) (maker : Bool) (r : Word × Bool) (i : Nat) : Word × Bool :=
  let src := 16 * k + i
  let o := fld old (4 * i) 3
  let c := fld v (4 * i) 3
  let w1 := setFld r.1 (4 * i + 3) 1 (fld v (4 * i + 3) 1)
  if 0x17A ≤ src then (w1, r.2)
  else match sevStore src o c maker with
    | some d => (setFld w1 (4 * i) 3 d, r.2)
    | none => (w1, r.2 && c == o)

theorem sevWord_eq (k : Nat) (old v : Word) (maker : Bool) :
    sevWord k old v maker = (List.range 16).foldl (sevTurn k old v maker) (old, true) := rfl

section
variable {k : Nat} {old v : Word} {maker : Bool} {r : Word × Bool} {i : Nat}

theorem sevTurn_noLog (hi : i < 16) : fld (sevTurn k old v maker r i).1 (4 * i + 3) 1 = fld v (4 * i + 3) 1 := by
  have h1 := fld_setFld_same r.1 (lo := 4 * i + 3) (by omega) (fld_lt v (4 * i + 3) 1)
  unfold sevTurn
  dsimp only
  split
  · exact h1
  split
  · rw [fld_setFld_other _ _ (by omega) (by omega)]
    exact h1
  · exact h1

theorem sevTurn_class (hi : i < 16) (hr : fld r.1 (4 * i) 3 = fld old (4 * i) 3) :
    fld (sevTurn k old v maker r i).1 (4 * i) 3 = sevField k old v maker i := by
  have h1 : fld (setFld r.1 (4 * i + 3) 1 (fld v (4 * i + 3) 1)) (4 * i) 3 = fld old (4 * i) 3 := by
    rw [fld_setFld_other _ _ (by omega) (by omega), hr]
  unfold sevTurn sevField
  dsimp only
  split
  · exact h1
  split
  case _ d hd => rw [hd, fld_setFld_same _ (by omega) (sevStore_lt hd), Option.getD_some]
  case _ hd => rw [hd, h1, Option.getD_none]

theorem sevTurn_other {lo w : Nat} (hw : lo + w ≤ 64) (h : lo + w ≤ 4 * i ∨ 4 * i + 4 ≤ lo) :
    fld (sevTurn k old v maker r i).1 lo w = fld r.1 lo w := by
  have h1 : fld (setFld r.1 (4 * i + 3) 1 (fld v (4 * i + 3) 1)) lo w = fld r.1 lo w :=
    fld_setFld_other _ _ hw (by omega)
  unfold sevTurn
  dsimp only
  split
  · exact h1
  split
  · rw [fld_setFld_other _ _ hw (by omega), h1]
  · exact h1

end

/-- The word after the first n sources' turns. -/
theorem sevTurns (k : Nat) (old v : Word) (maker : Bool) {n : Nat} (hn : n ≤ 16) (i : Nat) (hi : i < 16) :
    let r := (List.range n).foldl (sevTurn k old v maker) (old, true)
    fld r.1 (4 * i + 3) 1 = (if i < n then fld v (4 * i + 3) 1 else fld old (4 * i + 3) 1) ∧
    fld r.1 (4 * i) 3 = (if i < n then sevField k old v maker i else fld old (4 * i) 3) := by
  induction n with
  | zero => exact ⟨rfl, rfl⟩
  | succ n ih =>
    obtain ⟨ihLog, ihClass⟩ := ih (by omega)
    rw [List.range_succ, List.foldl_append, List.foldl_cons, List.foldl_nil]
    dsimp only
    rcases lt_trichotomy i n with h | rfl | h
    · rw [sevTurn_other (by omega) (by omega), sevTurn_other (by omega) (by omega), ihLog, ihClass,
        if_pos h, if_pos h, if_pos (by omega), if_pos (by omega)]
      exact ⟨rfl, rfl⟩
    · rw [if_neg (lt_irrefl i)] at ihClass
      rw [sevTurn_noLog hi, sevTurn_class hi ihClass, if_pos (by omega), if_pos (by omega)]
      exact ⟨rfl, rfl⟩
    · rw [sevTurn_other (by omega) (by omega), sevTurn_other (by omega) (by omega), ihLog, ihClass,
        if_neg (by omega), if_neg (by omega), if_neg (by omega), if_neg (by omega)]
      exact ⟨rfl, rfl⟩

/-- Settles O27: the two registers' writes, and the severity word source by source. -/
theorem vectorAndSeverityWrites : Obligations.VectorAndSeverityWrites := by
  intro s data strb v k hfull ov wv ok old maker r
  refine ⟨fun h hkeep => ?vec, fun h hlock hok => ?sev, fun i hi => ?word⟩
  case vec =>
    have hwv : wv = strobe (s.vecWord v.val) data strb := by
      show strobe (s.pageRead (0x1000 + 16 * v.val)) data strb = _
      rw [State.pageRead_vec]
    show s.bus (0x1000 + 16 * v.val) data strb = _
    refine State.bus_page_noted data strb h (by omega) (by omega) (by omega) (journalled_vec v) hfull (by omega) ?_
      (State.sessRole_touched s 0)
    rw [State.pageWrite_glb _ _ _ _ (by omega), State.glbWrite_vec, hwv]
    rw [hwv] at hkeep
    exact State.vecWrite_ok (s := touched s) hkeep
  case sev =>
    have hmod : (0x20100 + 8 * k.val) % 65536 = 0x100 + 8 * k.val := by omega
    have hmaker : ((touched s).mode == .factoryTest && (touched s).role .reg == 3) = maker := by
      show ((touched s).mode == .factoryTest && (touched s).sessRole 0 == 3) = _
      rw [State.sessRole_touched]
      rfl
    have hbus : s.bus (0x20100 + 8 * k.val) data strb = acceptedNoted s
        { (touched s).keyTouch with sbx := { (touched s).keyTouch.sbx with sev := setAt k.val r.1 s.sbx.sev } }
        (0x20100 + 8 * k.val) (s.pageRead (0x20100 + 8 * k.val)) (wrote s (0x20100 + 8 * k.val) data strb) := by
      refine State.bus_page_noted data strb h (by omega) (by omega) (by omega) (journalled_sev k) hfull (by omega) ?_ ?_
      · rw [State.pageWrite_sbx _ _ _ _ (by omega) (by omega), hmod]
        refine State.sbxPage_ok (by omega) ?_
        rw [hmaker]
        exact State.sbxWrite_sev (s := touched s) k hlock hok
      · exact ((touched s).keyTouch_sessRole 0).trans (State.sessRole_touched s 0)
    show s.bus (0x20100 + 8 * k.val) data strb = _
    rw [hbus, wrote, State.pageRead_sev]
  case word =>
    obtain ⟨hlog, hclass⟩ := sevTurns k.val old (strobe old data strb) maker (le_refl 16) i hi
    rw [if_pos hi] at hlog hclass
    rw [fbit_eq_decide, fbit_eq_decide]
    exact ⟨congrArg (fun n => decide (n = 1)) hlog, hclass⟩

/-! ### The test key (R294) -/

theorem State.sbxWrite_testkey (s : State) (data : Word) (strb : BitVec 8) (maker inj : Bool) :
    s.sbxWrite 0x500 data strb maker inj = (s.testkey data strb, true) := rfl

/-- A write to SBX_TESTKEY, with its effect. -/
theorem State.bus_testkey {s u : State} (h : Open s 0x20500) {data : Word} (hu : (touched s).testkey data 0xFF = u) :
    s.bus 0x20500 data 0xFF = accepted s u := by
  refine State.bus_page_plain _ _ h (by decide) (by decide) (by decide) (by decide) ?_
  rw [State.pageWrite_sbx _ _ _ _ (by decide) (by decide)]
  refine State.sbxPage_ok (by decide) ?_
  rw [← hu]
  exact State.sbxWrite_testkey _ _ _ _ _

theorem State.testkey_first {s : State} {data : Word} (hd : fld data 0 16 = 0x5AFE) (hk : s.sbx.key ≠ 2) :
    s.testkey data 0xFF = { s with sbx := { s.sbx with key := 1 } } := by
  unfold State.testkey
  rw [strobe_full]
  dsimp only
  rw [if_pos hd, if_neg hk]

theorem State.testkey_second {s : State} {data : Word} (hd : fld data 0 16 = 0xA501) (hk : s.sbx.key = 1) :
    s.testkey data 0xFF = { s with sbx := { s.sbx with key := 2, keyAt := s.clk } } := by
  unfold State.testkey
  rw [strobe_full]
  dsimp only
  rw [if_neg (by omega), if_pos ⟨hd, hk⟩]

theorem State.testkey_late {s : State} {data : Word} (hd : fld data 0 16 = 0xA501) (hk : s.sbx.key = 0) :
    s.testkey data 0xFF = s := by
  unfold State.testkey
  rw [strobe_full]
  dsimp only
  rw [if_neg (by omega), if_neg (by omega), State.keyTouch_of_ne (by omega)]

/-- Any SBX write but one to SBX_TESTKEY restarts the arming. -/
theorem State.sbxPage_restarts {s : State} (hk : s.sbx.key = 1) {off : Nat} (hoff : off ≠ 0x500) (data : Word) (strb : BitVec 8)
    (p : Path) : s.sbxPage off data strb p = State.sbxPage { s with sbx := { s.sbx with key := 0 } } off data strb p := by
  have hwrite : ∀ maker inj, s.sbxWrite off data strb maker inj =
      State.sbxWrite { s with sbx := { s.sbx with key := 0 } } off data strb maker inj := by
    intro maker inj
    unfold State.sbxWrite
    rw [if_neg hoff, if_neg hoff, State.keyTouch_of_eq hk]
    rfl
  unfold State.sbxPage
  dsimp only
  rw [State.keyTouch_of_eq hk, hwrite]
  rfl

/-- Settles O29, write by write. -/
theorem testKeyArming : Obligations.TestKeyArming := by
  intro s h t
  refine ⟨fun data hd hk => ?first, fun data hd hk => ?second, fun data hd hk => ?late,
    fun off data strb p hk hoff => State.sbxPage_restarts hk hoff data strb p, fun hk => ?expiry⟩
  case first => exact State.bus_testkey h (State.testkey_first (s := touched s) hd hk)
  case second => exact State.bus_testkey h (State.testkey_second (s := touched s) hd hk)
  case late => exact State.bus_testkey h (State.testkey_late (s := touched s) hd hk)
  case expiry =>
    show s.act State.testkeyExpiry = _
    have hk' : (bare s).sbx.key = 2 := hk
    rw [State.act_of_free h.1.1.1, State.testkeyExpiry, if_pos hk']
    rfl

/-! ### Force, injection, FIRST_VALID (R282, R293, R295) -/

/-- A fold whose step changes nothing but at one element of the list. -/
theorem foldl_range_single {α : Type} (f : α → Nat → α) (a : α) {n i : Nat} (hi : i < n) (h : ∀ j b, j ≠ i → f b j = b) :
    (List.range n).foldl f a = f a i := by
  induction n with
  | zero => omega
  | succ n ih =>
    rw [List.range_succ, List.foldl_append, List.foldl_cons, List.foldl_nil]
    rcases Nat.lt_succ_iff_lt_or_eq.mp hi with hlt | rfl
    · rw [ih hlt, h n _ (by omega)]
    · rw [foldl_eq_self]
      intro j hj
      exact h j a (by have := List.mem_range.mp hj; omega)

theorem State.sbxForceBits_single {s : State} {k i : Nat} (hi : i < 64) (hc : s.sevOf (64 * k + i) < 3 ∨ s.sbx.key = 2) :
    s.sbxForceBits k (BitVec.ofNat 64 (2 ^ i)) =
      ((s.journalE 4 0 s.regRole 0 0 (64 * k + i) 0 0).sbxTake { source := 64 * k + i, kind := 0x3F, time := s.ns }, true) := by
  have hpow : (BitVec.ofNat 64 (2 ^ i)).toNat = 2 ^ i := by
    rw [BitVec.toNat_ofNat, Nat.mod_eq_of_lt (Nat.pow_lt_pow_right (by decide) hi)]
  unfold State.sbxForceBits
  dsimp only
  rw [hpow, foldl_range_single _ _ hi]
  · dsimp only
    rw [Nat.testBit_two_pow_self, if_neg (by decide), if_neg (by omega)]
  · intro j b hj
    rw [Nat.testBit_two_pow_of_ne (Ne.symm hj)]
    rfl

theorem State.sbxWrite_force {s : State} (k : Fin 6) {i : Nat} (hi : i < 64) (hm : s.mode ≠ .safe ∧ s.mode ≠ .off)
    (hc : s.sevOf (64 * k.val + i) < 3 ∨ s.sbx.key = 2) (maker inj : Bool) :
    s.sbxWrite (0x200 + 8 * k.val) (BitVec.ofNat 64 (2 ^ i)) 0xFF maker inj =
      ((s.keyTouch.journalE 4 0 (s.sessRole 0) 0 0 (64 * k.val + i) 0 0).sbxTake
        { source := 64 * k.val + i, kind := 0x3F, time := s.ns }, true) := by
  have hc' : s.keyTouch.sevOf (64 * k.val + i) < 3 ∨ s.keyTouch.sbx.key = 2 := by
    rcases hc with h | h
    · left
      rw [State.keyTouch_frame]
      exact h
    · right
      rw [State.keyTouch_of_ne (by omega), h]
  have hns : s.keyTouch.ns = s.ns := by rw [State.keyTouch_frame]; rfl
  have hrole : s.keyTouch.regRole = s.sessRole 0 := s.keyTouch_sessRole 0
  unfold State.sbxWrite
  rw [if_neg (by omega)]
  dsimp only
  iterate 3 rw [if_neg (by omega)]
  rw [if_pos (by omega), State.keyTouch_mode, if_neg (by rintro (h | h); exacts [hm.1 h, hm.2 h]), strobe_full,
    show (0x200 + 8 * k.val - 0x200) / 8 = k.val by omega, State.sbxForceBits_single hi hc', hns, hrole]

/-- The word written to SBX_INJ. -/
theorem fields_inj {kind unit : Nat} (hk : kind ≤ 4) (hu : unit < 64) :
    let v := mkWord [(0, 4, kind), (4, 6, unit), (25, 1, 1)]
    fld v 0 4 = kind ∧ fbit v 25 = true ∧ fbit v 26 = false := by
  dsimp only
  have h0 : (mkWord [(0, 4, kind), (4, 6, unit), (25, 1, 1)]).toNat = kind + 16 * unit + 33554432 := by
    rw [toNat_mkWord]
    simp only [fieldSum]
    omega
  simp only [fbit_eq_decide, fld, bits, Nat.shiftRight_eq_div_pow, h0]
  refine ⟨?_, ?_, ?_⟩
  · omega
  · rw [decide_eq_true_eq]; omega
  · rw [decide_eq_false_iff_not]; omega

theorem State.injWrite_arm {s : State} {v : Word} (hkey : s.sbx.key = 2) (hlo : 1 ≤ fld v 0 4) (hhi : fld v 0 4 ≤ 4)
    (harm : fbit v 25 = true) (hdone : fbit v 26 = false) (ft : Bool) :
    s.injWrite v 0xFF true ft =
      (({ s with sbx := { s.sbx with
            stuck := none, inj := mkWord [(0, 25, fld v 0 25), (25, 1, 1), (26, 1, fld s.sbx.inj 26 1)] } } : State).journalE 4 0
          (s.sessRole 0) 0 0 (512 + fld v 0 4) 0 0, true) := by
  have hbit : (0xFF : BitVec 8).toNat.testBit 3 = true := rfl
  unfold State.injWrite
  dsimp only
  rw [strobe_full, hbit, harm, hdone, if_neg, if_neg (by decide), if_neg (by omega), if_neg (by omega), if_neg (by omega), if_neg (by omega)]
  · simp only [Bool.and_false, Bool.not_false, Bool.and_true, Bool.or_true, b2n_fbit]
    rfl
  · simp only [Bool.not_true, Bool.false_eq_true, false_or]
    omega

theorem State.sbxWrite_inj (s : State) (data : Word) (strb : BitVec 8) (maker inj : Bool) :
    s.sbxWrite 0x508 data strb maker inj = s.keyTouch.injWrite data strb inj maker := rfl

theorem State.sbxWrite_firstClear (s : State) (maker inj : Bool) :
    s.sbxWrite 0x008 8 1 maker inj = (s.keyTouch.firstClear, true) := rfl

theorem State.injWindow_touched (s : State) : (touched s).injWindow = s.injWindow := by
  unfold State.injWindow State.makerFt
  rw [State.sessRole_touched]
  rfl

/-- Settles O30: one force, one injection, and the clearing. -/
theorem forceAndInjection : Obligations.ForceAndInjection := by
  intro s k i hi b src
  refine ⟨fun h hc => ?force, fun h hwin hkey kind unit hlo hhi hu => ?inject, fun h => ?clear⟩
  case force =>
    have hmod : (0x20200 + 8 * k.val) % 65536 = 0x200 + 8 * k.val := by omega
    have hj : journalled (0x20200 + 8 * k.val) = false :=
      (by decide : ∀ k : Fin 6, journalled (0x20200 + 8 * k.val) = false) k
    show s.bus (0x20200 + 8 * k.val) (BitVec.ofNat 64 (2 ^ i)) 0xFF = _
    refine State.bus_page_plain _ _ h (by omega) (by omega) (by omega) hj ?_
    rw [State.pageWrite_sbx _ _ _ _ (by omega) (by omega), hmod]
    refine State.sbxPage_ok (by omega) ?_
    rw [State.sbxWrite_force (s := touched s) k hi h.1.1.2 hc, State.sessRole_touched]
    rfl
  case inject =>
    obtain ⟨hkind, harm, hdone⟩ := fields_inj hhi hu
    have hkey' : (touched s).sbx.key = 2 := hkey
    have hb : b = touched s := State.keyTouch_of_ne (by omega)
    show s.bus 0x20508 (mkWord [(0, 4, kind), (4, 6, unit), (25, 1, 1)]) 0xFF = _
    refine State.bus_page_plain _ _ h (by decide) (by decide) (by decide) (by decide) ?_
    rw [State.pageWrite_sbx _ _ _ _ (by decide) (by decide)]
    refine State.sbxPage_ok (by decide) ?_
    rw [State.injWindow_touched, hwin]
    show State.sbxWrite _ 0x508 _ _ _ _ = _
    rw [State.sbxWrite_inj, State.keyTouch_of_ne (s := touched s) (by omega),
      State.injWrite_arm hkey' (by omega) (by omega) harm hdone, State.sessRole_touched, hkind, hb]
    rfl
  case clear =>
    show s.bus 0x20008 8 1 = _
    refine State.bus_page_plain _ _ h (by decide) (by decide) (by decide) (by decide) ?_
    rw [State.pageWrite_sbx _ _ _ _ (by decide) (by decide)]
    exact State.sbxPage_ok (by decide) (State.sbxWrite_firstClear _ _ _)

end Sys2Proof.Machine
end

section
/-! PROOFS. Mode requests (R402 to R407): what makes a request accepted, and its effect row by row. -/

namespace Sys2Proof.Machine

open Sys2Proof.Safety

/-! ### Journal entries change the journal alone (R350, R351) -/

theorem State.journalE_frame (s : State) (kind path role origin result target : Nat) (old new : Word) :
    s.journalE kind path role origin result target old new =
      { s with journal := (s.journalE kind path role origin result target old new).journal,
               dct := { s.dct with lost := (s.journalE kind path role origin result target old new).dct.lost } } := by
  unfold State.journalE
  dsimp only
  split <;> rfl

@[simp] theorem State.journalE_mode (s : State) (kind path role origin result target : Nat) (old new : Word) :
    (s.journalE kind path role origin result target old new).mode = s.mode := by
  rw [State.journalE_frame]

@[simp] theorem State.journalE_pwr (s : State) (kind path role origin result target : Nat) (old new : Word) :
    (s.journalE kind path role origin result target old new).pwr = s.pwr := by
  rw [State.journalE_frame]

/-! ### Requests -/

/-- REQ holds the request and the reason is cleared (R405). -/
def State.request (t : State) (r : Nat) : State := { t with pwr := { t.pwr with modeReq := r, modeErr := 0 } }

/-- The KIND 6 entry of an accepted request on a path. -/
def State.modeNote (s : State) (p : Path) (r : Nat) : State :=
  s.jrn 6 p 0 r (BitVec.ofNat 64 s.pwr.modeReq) (BitVec.ofNat 64 r)

@[simp] theorem State.modeNote_mode (s : State) (p : Path) (r : Nat) : (s.modeNote p r).mode = s.mode := s.journalE_mode ..

@[simp] theorem State.modeNote_pwr (s : State) (p : Path) (r : Nat) : (s.modeNote p r).pwr = s.pwr := s.journalE_pwr ..

/-- A request that the table accepts outside OFF, journalled where it must be. -/
theorem State.modeRequest_ok {s : State} {r : Nat} {p : Path} {free : Bool} (hrole : free = true ∨ 2 ≤ s.role p)
    (hm : s.mode ≠ .off) (hw : s.modeReason r (decide (2 ≤ s.role p)) (s.role p == 3) = 0)
    (hj : r = 0 ∨ r = 7 ∨ s.jFull = false) : s.modeRequest r p free = ((s.modeNote p r).modeGo r, 0) := by
  have hsess : (!free && decide (s.role p < 2)) = false := by
    rcases hrole with h | h
    · simp [h]
    · simp; omega
  have hfull : ¬((0 : Nat) = 0 ∧ r ≠ 0 ∧ r ≠ 7 ∧ s.mode ≠ .off ∧ s.jFull = true) := by
    rintro ⟨-, h0, h7, -, h⟩
    rcases hj with hj | hj | hj
    · exact h0 hj
    · exact h7 hj
    · rw [hj] at h
      exact absurd h (by decide)
  unfold State.modeRequest
  dsimp only
  rw [hsess, hw, if_neg Bool.false_ne_true, if_neg hfull, if_pos rfl, if_neg hm]
  rfl

/-- A request for the wake from OFF is journalled after it has acted. -/
theorem State.modeRequest_wake {s : State} (hm : s.mode = .off) {session maker : Bool}
    (hsess : session = decide (2 ≤ s.role .reg)) (hmaker : maker = (s.role .reg == 3))
    (hw : s.modeReason 1 session maker = 0) :
    s.modeRequest 1 .reg true =
      ((s.modeGo 1).jrn 6 .reg 0 1 (BitVec.ofNat 64 s.pwr.modeReq) (BitVec.ofNat 64 1), 0) := by
  subst hsess hmaker
  have hfree : ¬((0 : Nat) = 0 ∧ (1 : Nat) ≠ 0 ∧ (1 : Nat) ≠ 7 ∧ s.mode ≠ .off ∧ s.jFull = true) := fun h => h.2.2.2.1 hm
  unfold State.modeRequest
  dsimp only
  rw [hw, Bool.not_true, Bool.false_and, if_neg Bool.false_ne_true, if_neg hfree, if_pos rfl, if_pos hm]

/-- The requests and the instructions that make them. -/
def modeKinds : List (Nat × (Path → Instr)) :=
  [(0, .glbModeOff), (1, .glbModeColdInit), (2, .glbModeFactoryTest), (3, .glbModeConfigure), (4, .glbModeRun),
   (6, .glbModeQuiesce), (7, .glbModeSafe)]

theorem exec_modeKind {x : Nat × (Path → Instr)} (hx : x ∈ modeKinds) :
    x.1 < 8 ∧ ∀ p s, exec (x.2 p) s = s.glbMode p x.1 := by
  simp only [modeKinds, List.mem_cons, List.not_mem_nil, or_false] at hx
  rcases hx with rfl | rfl | rfl | rfl | rfl | rfl | rfl <;> exact ⟨by decide, fun p s => rfl⟩

theorem fld_modeReq {r : Nat} (h : r < 8) : fld (BitVec.ofNat 64 r) 0 4 = r := by
  rw [fld, bits, BitVec.toNat_ofNat, Nat.shiftRight_eq_div_pow]
  omega

theorem State.modeReason_touch (s : State) (p : Path) (r : Nat) (session maker : Bool) :
    ((bare s).touch p).modeReason r session maker = s.modeReason r session maker := rfl

/-- An accepted request on the register path outside SAFE and OFF. -/
theorem State.bus_mode {s : State} (h : Live s) {r : Nat} (hr : r < 8)
    (hw : s.modeReason r (decide (2 ≤ s.sessRole 0)) (s.sessRole 0 == 3) = 0) (hj : r = 0 ∨ r = 7 ∨ s.jFull = false) :
    s.glbMode .reg r = accepted s (((touched s).modeNote .reg r).modeGo r) := by
  obtain ⟨h0, h1, h2⟩ := h
  have hw' : (touched s).modeReason r (decide (2 ≤ (touched s).role .reg)) ((touched s).role .reg == 3) = 0 := by
    show (touched s).modeReason r (decide (2 ≤ (touched s).sessRole 0)) ((touched s).sessRole 0 == 3) = 0
    rw [State.sessRole_touched]
    exact hw
  have hreq : (touched s).modeWrite (BitVec.ofNat 64 r) 1 = (((touched s).modeNote .reg r).modeGo r, 0) := by
    rw [State.modeWrite, if_pos (by decide), fld_modeReq hr]
    exact State.modeRequest_ok (s := touched s) (.inl rfl) h2 hw' hj
  show s.run (fun s => s.busWrite 0x20 (BitVec.ofNat 64 r) 1) = _
  rw [State.run_of_free h0]
  have hwrite : (bare s).busWrite 0x20 (BitVec.ofNat 64 r) 1 =
      ((touched s).modeWrite (BitVec.ofNat 64 r) 1).1.answer 0 (decide (((touched s).modeWrite (BitVec.ofNat 64 r) 1).2 ≠ 0)) := by
    unfold State.busWrite
    dsimp only
    rw [if_neg (by rintro (h | h); exacts [h1 h, h2 h]),
      if_neg (show ¬(bare s).regOff 0x20 = true from Bool.false_ne_true)]
    rfl
  rw [hwrite, hreq]
  rfl

/-- The wake from OFF on the register path. -/
theorem State.bus_wake {s : State} (hheld : s.held = false) (hm : s.mode = .off) (hw : ∀ a b, s.modeReason 1 a b = 0) :
    s.glbMode .reg 1 = accepted s
      (((touched s).modeGo 1).jrn 6 .reg 0 1 (BitVec.ofNat 64 s.pwr.modeReq) (BitVec.ofNat 64 1)) := by
  have hsafe : (touched s).safeWrite 0x20 (BitVec.ofNat 64 1) 1 =
      (((touched s).modeGo 1).jrn 6 .reg 0 1 (BitVec.ofNat 64 s.pwr.modeReq) (BitVec.ofNat 64 1), 0) := by
    unfold State.safeWrite
    rw [if_neg (by decide), if_pos ⟨rfl, by decide, .inr (.inr ⟨hm, by decide⟩)⟩, State.modeWrite, if_pos (by decide)]
    exact State.modeRequest_wake (s := touched s) hm rfl rfl (hw _ _)
  show s.run (fun s => s.busWrite 0x20 (BitVec.ofNat 64 1) 1) = _
  rw [State.run_of_free hheld]
  have hwrite : (bare s).busWrite 0x20 (BitVec.ofNat 64 1) 1 =
      ((touched s).safeWrite 0x20 (BitVec.ofNat 64 1) 1).1.answer 0
        (decide (((touched s).safeWrite 0x20 (BitVec.ofNat 64 1) 1).2 ≠ 0)) := by
    unfold State.busWrite
    dsimp only
    rw [if_pos (.inr hm)]
    rfl
  rw [hwrite, hsafe]
  rfl

/-! ### Other paths: the object 0x1100:0x01 (R340, R405) -/

theorem State.role_touch (s : State) (p q : Path) : (s.touch p).role q = s.role q := by
  cases q with
  | reg => exact State.sessRole_touch s p 0
  | mctp e =>
    simp only [State.role, State.sessRole_touch]
    rfl
  | dq d => cases d <;> rfl

theorem State.odObj_mode (s : State) : s.odObj 0x1100 1 = some ⟨1, 0, 2, 2, none, none⟩ := rfl

theorem State.odRight_mode {s : State} {p : Path} (h : 2 ≤ s.role p) : s.odRight p 0x1100 1 ⟨1, 0, 2, 2, none, none⟩ = 2 := by
  have h0 : ¬(s.role p = 0 ∨ ((s.role p == 1) && false) = true) := by simp; omega
  unfold State.odRight
  dsimp only
  rw [if_neg h0, if_neg (by omega), ite_self]

theorem State.odWrite_mode {s : State} {p : Path} {r : Nat} (hr : r < 8) (hrole : 2 ≤ s.role p) (hm : s.mode ≠ .off)
    (hfull : s.jFull = false) (hw : s.modeReason r (decide (2 ≤ s.role p)) (s.role p == 3) = 0) :
    (s.odWrite p 0x1100 1 r 1).1 = (s.modeNote p r).modeGo r := by
  have hput : s.odPut p 0x1100 1 r = ((s.modeNote p r).modeGo r, 0) := by
    unfold State.odPut
    rw [if_neg (by decide), if_pos rfl, if_neg (by omega)]
    exact State.modeRequest_ok (.inr hrole) hm hw (.inr (.inr hfull))
  unfold State.odWrite
  rw [State.odObj_mode]
  dsimp only
  rw [State.odRight_mode hrole, hput, if_neg (by simp), if_neg (by simp), if_neg (by decide), if_neg (by simp [objDown]),
    if_neg (by simp [hfull]), if_pos (by simp)]

/-- An accepted request on a path other than the registers'. -/
theorem State.glbMode_other {s : State} {p : Path} {r : Nat} (hheld : s.held = false) (hm : s.mode ≠ .off) (hp : p ≠ .reg)
    (hup : s.dspUp = true) (hrole : 2 ≤ s.role p) (hfull : s.jFull = false) (hr : r < 8)
    (hw : s.modeReason r true (s.role p == 3) = 0) :
    s.glbMode p r = ran s ((((bare s).touch p).modeNote p r).modeGo r) := by
  have hrole' : ((bare s).touch p).role p = s.role p := State.role_touch _ _ _
  have hwrite := State.odWrite_mode (s := (bare s).touch p) (p := p) hr (hrole' ▸ hrole) hm hfull (by
    rw [hrole', decide_eq_true hrole]
    exact hw)
  have hshape : s.glbMode p r = s.run (fun s => if s.dspUp then ((s.touch p).odWrite p 0x1100 1 r 1).1 else s) := by
    cases p with
    | reg => exact absurd rfl hp
    | mctp e => rfl
    | dq d => rfl
  have hup' : (bare s).dspUp = true := hup
  rw [hshape, State.run_of_free hheld, if_pos hup', hwrite]

/-! ### What the table accepts (R404) -/

section
variable {s : State} {session maker : Bool}

theorem State.modeReason_safe (h1 : s.mode ≠ .safe) (h2 : s.mode ≠ .off) : s.modeReason 7 session maker = 0 := by
  unfold State.modeReason
  dsimp only
  rw [if_neg h2, if_neg (by omega), if_neg (by omega), if_neg (by omega), if_pos rfl, if_neg (fun h => h1 h.1)]

theorem State.modeReason_off (h : s.mode ≠ .off) : s.modeReason 0 session maker = 0 := by
  unfold State.modeReason
  dsimp only
  rw [if_neg h, if_neg (by omega), if_neg (by omega), if_pos rfl]

theorem State.modeReason_wake (hm : s.mode = .off) (hterm : s.sbx.terminal = false) (h0 : s.pwr.supply.getD 0 0 = 0)
    (h1 : s.pwr.supply.getD 1 0 = 0) : s.modeReason 1 session maker = 0 := by
  unfold State.modeReason
  dsimp only
  rw [if_pos hm, if_pos ⟨rfl, by simp [hterm]⟩, if_neg (by omega)]

/-- A request of a session for a mode other than OFF and SAFE while no transition runs: the rows of the table. -/
theorem State.modeReason_session {r : Nat} (hm : s.mode ≠ .off) (hr0 : r ≠ 0) (hr7 : r ≠ 7) (ht : s.pwr.trans = none) :
    s.modeReason r true maker =
      if s.mode = .coldInit ∧ r = 2 then (if maker ∧ s.initDone then 0 else 4)
      else if s.mode = .coldInit ∧ r = 3 then (if s.initDone ∧ !s.pwr.mbistFail then 0 else 4)
      else if s.mode = .factoryTest ∧ r = 1 then (if maker then 0 else 4)
      else if (s.mode = .configure ∨ s.mode = .quiesce) ∧ r = 4 then (if s.runOk then 0 else 0xC)
      else if (s.mode = .run ∨ s.mode = .degraded) ∧ r = 6 then 0
      else if s.mode = .quiesce ∧ r = 3 then 0
      else 4 := by
  unfold State.modeReason
  dsimp only
  rw [if_neg hm, if_neg (by simp), if_neg (by simp [ht]), if_neg hr0, if_neg hr7]

end

/-- The items of R406 hold in a block that is not parked. -/
theorem State.runOk_of_runnable {s : State} (h : Runnable s) : s.runOk = true := by
  obtain ⟨hpark, hrun, hneed, ⟨n, hn, hxa⟩, ⟨m, hm, hmv⟩, hfail, hclk, hfreq⟩ := h
  have hneed' : ((s.banksWanted ||| domRange 92 6) &&& s.pwr.up) == (s.banksWanted ||| domRange 92 6) := hneed
  have hxas : ((List.range 8).filter (fun n => !s.xaFenced n)).isEmpty = false := by
    rw [List.isEmpty_eq_false_iff_exists_mem]
    exact ⟨n, List.mem_filter.mpr ⟨List.mem_range.mpr hn, by simp [hxa]⟩⟩
  have hmvs : (List.range 64).any (fun m => !s.mvFenced m) = true :=
    List.any_eq_true.mpr ⟨m, List.mem_range.mpr hm, by simp [hmv]⟩
  have hfreqs : ((List.range 8).filter (fun n => !s.xaFenced n)).all
      (fun n => decide (s.xaFreq n ≠ 0) && decide (s.xaFreq n ≤ s.pwr.coreMhz)) = true := by
    rw [List.all_eq_true]
    intro k hk
    obtain ⟨hk8, hkf⟩ := List.mem_filter.mp hk
    obtain ⟨h0, h1⟩ := hfreq k (List.mem_range.mp hk8) (by simpa using hkf)
    rw [decide_eq_true h0, decide_eq_true h1, Bool.and_self]
  unfold State.runOk
  dsimp only
  rw [if_pos hpark, Nat.or_zero, hneed', hrun, hxas, hmvs, hfail, hfreqs]
  cases hk : Tbl.get 0 s.pwr.clkMeas with
  | none => rfl
  | some k =>
    dsimp only
    rw [decide_eq_true (hclk k hk)]
    rfl

/-! ### The effect of an accepted request (R403 to R407) -/

section
variable {t : State} (hoff : t.mode ≠ .off)
include hoff

theorem State.modeGo_safe (hsafe : t.mode ≠ .safe) :
    t.modeGo 7 = entering { t.request 7 with sbx := { t.sbx with offHeld := false } } 2 0x1FF false := by
  unfold State.modeGo
  dsimp only
  rw [if_neg hoff, if_pos rfl]
  exact State.enterSafe_live (s := { t.request 7 with pwr := { (t.request 7).pwr with trans := none },
                                                      sbx := { t.sbx with offHeld := false } }) hsafe hoff _ _ _

theorem State.modeGo_offRunning (h : t.mode = .run ∨ t.mode = .degraded) :
    t.modeGo 0 = { entering (t.request 0) 2 0x1FF false with
      sbx := { (entering (t.request 0) 2 0x1FF false).sbx with offHeld := true } } := by
  have hsafe : t.mode ≠ .safe := by rcases h with h | h <;> simp [h]
  unfold State.modeGo
  dsimp only
  rw [if_neg hoff, if_neg (by decide), if_pos rfl, if_pos h]
  exact congrArg (fun u : State => { u with sbx := { u.sbx with offHeld := true } })
    (State.enterSafe_live (s := t.request 0) hsafe hoff _ _ _)

theorem State.modeGo_off (hrun : t.mode ≠ .run) (hdeg : t.mode ≠ .degraded) (hsafe : t.mode ≠ .safe)
    (ht : t.pwr.trans = none) : t.modeGo 0 = (t.request 0).offStart := by
  unfold State.modeGo
  dsimp only
  rw [if_neg hoff, if_neg (by decide), if_pos rfl, if_neg (by rintro (h | h); exacts [hrun h, hdeg h]), if_neg hsafe, ht,
    if_neg (by simp)]
  rfl

theorem State.modeGo_coldInit (h : t.mode = .factoryTest) :
    t.modeGo 1 = { ((t.request 1).endAll.askOffMask (domRange 0 76 ||| domRange 95 3)) with
      mode := .coldInit, bgs := {},
      cfg := ((t.request 1).endAll.askOffMask (domRange 0 76 ||| domRange 95 3)).cfg.filter
        (fun p => !(decide (0x40000 ≤ p.1) && decide (p.1 < 0x50000))),
      pwr := { ((t.request 1).endAll.askOffMask (domRange 0 76 ||| domRange 95 3)).pwr with
        init := 4, initAt := ((t.request 1).endAll.askOffMask (domRange 0 76 ||| domRange 95 3)).clk } } := by
  unfold State.modeGo
  dsimp only
  rw [if_neg hoff, if_neg (by decide), if_neg (by decide), if_pos ⟨h, rfl⟩]
  rfl

theorem State.modeGo_quiesce : t.modeGo 6 = (t.request 6).quiesceStart.transRun := by
  unfold State.modeGo
  dsimp only
  rw [if_neg hoff, if_neg (by decide), if_neg (by decide), if_neg (fun h => absurd h.2 (by decide)), if_pos rfl]
  rfl

theorem State.modeGo_goTo {r : Nat} (hr : r = 2 ∨ r = 3 ∨ r = 4) : t.modeGo r = (t.request r).goTo r := by
  unfold State.modeGo
  dsimp only
  rw [if_neg hoff, if_neg (by omega), if_neg (by omega), if_neg (by omega), if_neg (by omega)]
  rfl

end

theorem State.modeGo_wake {t : State} (h : t.mode = .off) (r : Nat) :
    t.modeGo r = State.initStart { (t.request r).restart false with
      dct := { ((t.request r).restart false).dct with key := ((t.request r).restart false).dct.keyCells, maker := true } } := by
  unfold State.modeGo
  dsimp only
  rw [if_pos h]
  rfl

/-- The state a request on the register path acts on. -/
theorem asked_eq (s : State) (r : Nat) : asked s r = ((touched s).modeNote .reg r).request r := by
  show (((touched s).journalE 6 0 (s.sessRole 0) 0 0 r _ _).request r) = _
  rw [State.modeNote, State.jrn_reg, State.sessRole_touched]
  rfl

/-- A transition whose domains are asked for and on arrives at once (R416). -/
theorem State.goTo_powered {s : State} {r : Nat} (h : Powered s r) (hr : r = 2 ∨ r = 3 ∨ r = 4) :
    s.goTo r =
      let t : State := { s with pwr := { s.pwr with trans := none, parked := 0, again := 0 } }
      if r = 2 then ({ t with mode := .factoryTest }).resumeAll
      else if r = 3 then ({ t with mode := .configure }).resumeDq
      else if !t.runOk then { t with pwr := { t.pwr with modeErr := 0xC } }
      else ({ t with mode := if t.anyFenced then .degraded else .run, pwr := { t.pwr with recovery := false } }).resumeAll := by
  obtain ⟨hret, hup, hreq⟩ := h
  have hnone : State.askOnMask { s with pwr := { s.pwr with trans := some { target := r } } } s.pwr.retReq =
      { s with pwr := { s.pwr with trans := some { target := r } } } :=
    State.askOnMask_of_req (fun d _ hd => by rw [hret] at hd; simp [maskHas] at hd)
  have hneed : State.askOnMask { s with pwr := { s.pwr with trans := some { target := r } } } (s.needMask r) =
      { s with pwr := { s.pwr with trans := some { target := r } } } := State.askOnMask_of_req hreq
  have hneed' : State.askOnMask { s with pwr := { s.pwr with trans := some { target := r } } }
      (State.needMask { s with pwr := { s.pwr with trans := some { target := r } } } r) =
      { s with pwr := { s.pwr with trans := some { target := r } } } := hneed
  have hup' : State.maskUp { s with pwr := { s.pwr with trans := some { target := r } } }
      (State.needMask { s with pwr := { s.pwr with trans := some { target := r } } } r) = true := hup
  unfold State.goTo
  dsimp only
  rw [hnone]
  unfold State.transRun
  dsimp only
  rw [if_neg (by omega), if_neg (by omega), hneed', hup', Bool.not_true, if_neg Bool.false_ne_true]

/-- Settles O28, from the table's rows and the effects of the requests. -/
theorem modeRequests : Obligations.ModeRequests := by
  intro s p kinds
  refine ⟨fun x hx => ⟨fun h hw hj => ?onReg, fun hheld hm hp hup hlo _ hfull hw => ?onOther⟩, fun h => ?live,
    fun hheld hm hterm h0 h1 => ?wake, fun r h => ?arrive⟩
  case onReg =>
    obtain ⟨hlt, hexec⟩ := exec_modeKind hx
    rw [hexec, State.bus_mode h hlt hw hj, State.modeNote, State.jrn_reg, State.sessRole_touched]
    rfl
  case onOther =>
    obtain ⟨hlt, hexec⟩ := exec_modeKind hx
    rw [hexec, State.glbMode_other hheld hm hp hup hlo hfull hlt hw]
    rfl
  case live =>
    have hsafe : ∀ r, ((touched s).modeNote .reg r).mode ≠ .safe := fun r => by rw [State.modeNote_mode]; exact h.2.1
    have hoff : ∀ r, ((touched s).modeNote .reg r).mode ≠ .off := fun r => by rw [State.modeNote_mode]; exact h.2.2
    refine ⟨?safe, fun hrun => ?offRunning, fun hm ht => ?off, fun hrole hfull ht => ?session⟩
    case safe =>
      show s.glbMode .reg 7 = _
      rw [State.bus_mode h (by decide) (State.modeReason_safe h.2.1 h.2.2) (.inr (.inl rfl)),
        State.modeGo_safe (hoff 7) (hsafe 7), asked_eq]
      rfl
    case offRunning =>
      show s.glbMode .reg 0 = _
      rw [State.bus_mode h (by decide) (State.modeReason_off h.2.2) (.inl rfl),
        State.modeGo_offRunning (hoff 0) (by rw [State.modeNote_mode]; exact hrun), asked_eq]
    case off =>
      show s.glbMode .reg 0 = _
      rw [State.bus_mode h (by decide) (State.modeReason_off h.2.2) (.inl rfl), State.modeGo_off (hoff 0) _ _ (hsafe 0),
        asked_eq]
      · rw [State.modeNote_pwr]; exact ht
      · rw [State.modeNote_mode]; rcases hm with hm | hm | hm | hm <;> simp [hm]
      · rw [State.modeNote_mode]; rcases hm with hm | hm | hm | hm <;> simp [hm]
    case session =>
      have hdec : decide (2 ≤ s.sessRole 0) = true := decide_eq_true hrole
      refine ⟨fun hm hi hmk => ?factoryTest, fun hm => ?configure, fun hm hrun => ?run, fun hm => ?quiesce,
        fun hm hmk => ?coldInit⟩
      case factoryTest =>
        show s.glbMode .reg 2 = _
        rw [State.bus_mode h (by decide) _ (.inr (.inr hfull)), State.modeGo_goTo (hoff 2) (.inl rfl), asked_eq]
        rw [hdec, State.modeReason_session h.2.2 (by decide) (by decide) ht, if_pos ⟨hm, rfl⟩, if_pos (by simp [hmk, State.initDone, hi])]
      case configure =>
        show s.glbMode .reg 3 = _
        rw [State.bus_mode h (by decide) _ (.inr (.inr hfull)), State.modeGo_goTo (hoff 3) (.inr (.inl rfl)), asked_eq]
        rw [hdec, State.modeReason_session h.2.2 (by decide) (by decide) ht]
        rcases hm with ⟨hm, hi, hb⟩ | hm
        · rw [if_neg (by omega), if_pos ⟨hm, rfl⟩, if_pos (by simp [State.initDone, hi, hb])]
        · simp [hm]
      case run =>
        show s.glbMode .reg 4 = _
        rw [State.bus_mode h (by decide) _ (.inr (.inr hfull)), State.modeGo_goTo (hoff 4) (.inr (.inr rfl)), asked_eq]
        rw [hdec, State.modeReason_session h.2.2 (by decide) (by decide) ht, if_neg (by omega), if_neg (by omega), if_neg (by omega), if_pos ⟨hm, rfl⟩,
          State.runOk_of_runnable hrun, if_pos rfl]
      case quiesce =>
        show s.glbMode .reg 6 = _
        rw [State.bus_mode h (by decide) _ (.inr (.inr hfull)), State.modeGo_quiesce (hoff 6), asked_eq]
        rw [hdec, State.modeReason_session h.2.2 (by decide) (by decide) ht, if_neg (by omega), if_neg (by omega), if_neg (by omega), if_neg (by omega),
          if_pos ⟨hm, rfl⟩]
      case coldInit =>
        show s.glbMode .reg 1 = _
        rw [State.bus_mode h (by decide) _ (.inr (.inr hfull)),
          State.modeGo_coldInit (hoff 1) (by rw [State.modeNote_mode]; exact hm), asked_eq]
        rw [hdec, State.modeReason_session h.2.2 (by decide) (by decide) ht, if_neg (by omega), if_neg (by omega), if_pos ⟨hm, rfl⟩, if_pos (by simp [hmk])]
  case wake =>
    have hm' : (touched s).mode = .off := hm
    show s.glbMode .reg 1 = _
    rw [State.bus_wake hheld hm (fun _ _ => State.modeReason_wake hm hterm h0 h1), State.modeGo_wake hm', State.jrn_reg]
    rfl
  case arrive =>
    refine ⟨?two, ?three, ?four⟩
    case two =>
      rintro rfl
      rw [State.goTo_powered h (.inl rfl)]
      rfl
    case three =>
      rintro rfl
      rw [State.goTo_powered h (.inr (.inl rfl))]
      rfl
    case four =>
      rintro rfl hok
      rw [State.goTo_powered h (.inr (.inr rfl))]
      dsimp only
      rw [if_neg (by decide), if_neg (by decide), hok, Bool.not_true, if_neg Bool.false_ne_true]

end Sys2Proof.Machine
end

section
/-! PROOFS. The ways into and out of SAFE from outside (R285, R286, R296, R399). -/

namespace Sys2Proof.Machine

open Sys2Proof.Safety

/-! ### What waits in SAFE -/

theorem State.afterSafe_warm {s : State} (hm : s.mode = .safe) (hf : s.sbx.forceSafe = false) (ht : s.pwr.trans = none)
    (ho : s.sbx.offHeld = false) (hw : s.sbx.warmHeld = true) (hsub : s.sbx.sub = 2) :
    s.afterSafe = (s.restart true).initStart := by
  unfold State.afterSafe
  rw [if_neg (by simp [hm, hf, ht]), if_neg (by simp [ho]), if_pos ⟨hw, hsub⟩]

theorem State.afterSafe_idle {s : State} (ho : s.sbx.offHeld = false ∨ s.sbx.sub = 1)
    (hw : s.sbx.warmHeld = false ∨ s.sbx.sub = 1) : s.afterSafe = s := by
  unfold State.afterSafe
  split
  · rfl
  · rw [if_neg, if_neg]
    · rintro ⟨h, hsub⟩
      rcases hw with hw | hw
      · rw [hw] at h
        exact absurd h (by decide)
      · omega
    · rintro ⟨h, hsub⟩
      rcases ho with ho | ho
      · rw [ho] at h
        exact absurd h (by decide)
      · omega

/-- A warm reset request in SAFE on the register path, with PWRDN settled or not. -/
theorem State.bus_warm {s : State} (hheld : s.held = false) (hm : s.mode = .safe) (hsub : s.sbx.sub ≠ 3) :
    s.bus 0x20400 (withBit 0 16 true) 4 = accepted s (touched s).warmRequest := by
  have hm' : (touched s).mode = .safe := hm
  have hsub' : (touched s).sbx.sub ≠ 3 := hsub
  have hsafe : (touched s).safeWrite 0x20400 (withBit 0 16 true) 4 = ((touched s).warmRequest, 0) := by
    unfold State.safeWrite
    rw [if_neg (by decide), if_neg (fun h => absurd h.1 (by decide)), if_pos ⟨rfl, by decide, by decide, hm', hsub'⟩]
  show s.run (fun s => s.busWrite 0x20400 (withBit 0 16 true) 4) = _
  rw [State.run_of_free hheld]
  have hwrite : (bare s).busWrite 0x20400 (withBit 0 16 true) 4 =
      ((touched s).safeWrite 0x20400 (withBit 0 16 true) 4).1.answer 0
        (decide (((touched s).safeWrite 0x20400 (withBit 0 16 true) 4).2 ≠ 0)) := by
    unfold State.busWrite
    dsimp only
    rw [if_pos (.inl hm)]
    rfl
  rw [hwrite, hsafe]
  rfl

theorem State.warmRequest_held {s : State} (hm : s.mode = .safe) (hsub : s.sbx.sub = 1 ∨ s.sbx.sub = 2)
    (ht : s.pwr.trans = none) : s.warmRequest = State.afterSafe { s with sbx := { s.sbx with warmHeld := true } } := by
  unfold State.warmRequest
  rw [if_pos ⟨hm, hsub, by simp [ht]⟩]

theorem State.forceSafePin_live {s : State} (h1 : s.mode ≠ .safe) (h2 : s.mode ≠ .off) :
    s.forceSafePin = entering { s with sbx := { s.sbx with forceSafe := true } } 1 0x1FF false := by
  unfold State.forceSafePin
  rw [← State.enterSafe_live (s := { s with sbx := { s.sbx with forceSafe := true } }) h1 h2]
  exact if_neg h2

theorem State.warmPinFall_live {s : State} (h1 : s.mode ≠ .safe) (h2 : s.mode ≠ .off) :
    s.warmPinFall = (entering s 1 0x1FF false).warmRequest := by
  unfold State.warmPinFall
  rw [if_neg h2, if_neg h1, State.enterSafe_live h1 h2]

theorem State.safeAbsorbEnd_absorb {s : State} (hm : s.mode = .safe) (hsub : s.sbx.sub = 1) :
    s.safeAbsorbEnd =
      let u := s.reach (s.sbx.entered + fld (s.reg 0x20400 90) 0 7 * 1000000)
      { u with txns := [], sbx := { u.sbx with lost := s.sbx.lost || !s.txns.isEmpty } } := by
  have hreach : ∀ a, (s.reach a).sbx = s.sbx ∧ (s.reach a).txns = s.txns := fun a => ⟨rfl, rfl⟩
  unfold State.safeAbsorbEnd
  rw [if_pos ⟨hm, hsub⟩]
  generalize s.sbx.entered + fld (s.reg 0x20400 90) 0 7 * 1000000 = a
  dsimp only
  rw [(hreach a).1, (hreach a).2]

/-- Settles O31, pin by pin. -/
theorem warmResetAndPins : Obligations.WarmResetAndPins := by
  intro s
  refine ⟨fun h => ⟨?force, fun _ _ => ?fall⟩, fun hheld hm ht hf => ⟨fun hsub => ?held, fun hsub ho => ?warm⟩,
    fun hheld hm _ hsub hw ho => ?release, fun hheld hm hsub => ?absorb⟩
  case force =>
    show s.run State.forceSafePin = _
    rw [State.run_of_free h.1, State.forceSafePin_live (s := bare s) h.2.1 h.2.2]
    rfl
  case fall =>
    show s.run State.warmPinFall = _
    rw [State.run_of_free h.1, State.warmPinFall_live (s := bare s) h.2.1 h.2.2, State.warmRequest_held rfl (.inl rfl) rfl]
  case held =>
    have ht' : (touched s).pwr.trans = none := ht
    show s.bus 0x20400 (withBit 0 16 true) 4 = _
    rw [State.bus_warm hheld hm (by omega), State.warmRequest_held (s := touched s) hm (.inl hsub) ht',
      State.afterSafe_idle (s := { touched s with sbx := { (touched s).sbx with warmHeld := true } }) (.inr hsub) (.inr hsub)]
    rfl
  case warm =>
    show s.bus 0x20400 (withBit 0 16 true) 4 = _
    rw [State.bus_warm hheld hm (by omega), State.warmRequest_held (s := touched s) hm (.inr hsub) ht,
      State.afterSafe_warm (s := { touched s with sbx := { (touched s).sbx with warmHeld := true } }) hm hf ht ho rfl hsub]
    rfl
  case release =>
    show s.run State.forceSafeFall = _
    rw [State.run_of_free hheld, State.forceSafeFall,
      State.afterSafe_idle (s := { bare s with sbx := { (bare s).sbx with forceSafe := false } }) (.inl ho) (.inl hw)]
    rfl
  case absorb =>
    show s.run State.safeAbsorbEnd = _
    rw [State.run_of_free hheld, State.safeAbsorbEnd_absorb (s := bare s) hm hsub]
    rfl

end Sys2Proof.Machine
end

section
/-! PROOFS. Channel pages: controls (R212, R213, R215, R241 to R243), shadows and the hand-over (R216, R217). -/

namespace Sys2Proof.Machine

open Sys2Proof.Safety

@[simp] theorem State.chan_updChan (s : State) (c : Nat) (f : Chan → Chan) : (s.updChan c f).chan c = f (s.chan c) :=
  Tbl.getD_put_self _ _ _ _

/-- What is stored for a channel is what the change makes of it as it stands. -/
theorem State.updChan_congr {s : State} {c : Nat} {f g : Chan → Chan} (h : f (s.chan c) = g (s.chan c)) :
    s.updChan c f = s.updChan c g := by
  unfold State.updChan
  rw [h]

theorem regDom_ch {c off : Nat} (hc : c < 512) (ho : off < 0x400) : regDom (chOff c off) = some domCHN := by
  have hlo : 0x80000 ≤ chOff c off := by unfold chOff; omega
  have hhi : chOff c off < 0x100000 := by unfold chOff; omega
  unfold regDom
  iterate 8 rw [if_neg (by omega)]
  rw [if_pos hhi]

/-- The registers of a channel page stand in one domain. -/
theorem State.reached_ch {s : State} {c : Fin 512} {off off' : Nat} (h : Reached s (chOff c.val off)) (ho : off < 0x400)
    (ho' : off' < 0x400) : Reached s (chOff c.val off') := by
  obtain ⟨hlive, hdom⟩ := h
  refine ⟨hlive, ?_⟩
  rw [State.regOff, regDom_ch c.isLt ho] at hdom
  rw [State.regOff, regDom_ch c.isLt ho']
  exact hdom

theorem refusal_true (s : State) (why : Nat) : refusal (s, true) why = (s, 0) := rfl

/-- An accepted write to a register of a granted channel's page. -/
theorem State.bus_ch_ok {s u : State} {c : Fin 512} {off : Nat} (h : Reached s (chOff c.val off)) (ho : off < 0x400)
    (hg : (s.chan c.val).granted = true) {data : Word} {strb : BitVec 8}
    (hu : (bare s).chWrite c.val off data strb = (u, true)) :
    s.bus (chOff c.val off) data strb = accepted s (u.chPump c.val) := by
  have hg' : ((bare s).chan c.val).granted = true := hg
  have hpage := State.pageWrite_ch (bare s) data strb .reg c.isLt ho hg'
  rw [hu] at hpage
  have hlo : 0x80000 ≤ chOff c.val off := by unfold chOff; omega
  rw [State.bus_page h hlo, hpage, refusal_true, answered_ok]

/-! ### CH_CTL (R212 to R215, R241 to R243) -/

/-- A strobe of byte 0 that carries the register's own word but for one bit of the byte. -/
theorem strobe_withBit (w : Word) {i : Nat} (hi : i < 8) (v : Bool) : strobe w (withBit w i v) 1 = withBit w i v := by
  refine BitVec.eq_of_getLsbD_eq fun j hj => ?_
  rw [getLsbD_strobe' _ _ _ hj, getLsbD_withBit _ _ hj]
  by_cases h : j < 8
  · rw [if_pos (by rw [show j / 8 = 0 by omega]; decide)]
  · have h0 : (1 : BitVec 8).toNat.testBit (j / 8) = false := by
      exact Nat.testBit_lt_two_pow (Nat.one_lt_two_pow (by omega))
    rw [h0, if_neg Bool.false_ne_true, if_neg (by omega)]

theorem toNat_ctl (c : Chan) : c.ctl.toNat % 256 = b2n c.enable + 2 * b2n c.stop + 4 * b2n c.pause + 16 * (c.alg % 16) := by
  have h0 := b2n_le_one c.enable
  have h1 := b2n_le_one c.stop
  have h2 := b2n_le_one c.pause
  rw [Chan.ctl, toNat_mkWord]
  simp only [fieldSum]
  omega

theorem bits_ctl (c : Chan) : fbit c.ctl 0 = c.enable ∧ fbit c.ctl 1 = c.stop ∧ fbit c.ctl 2 = c.pause ∧ fld c.ctl 4 4 = c.alg % 16 := by
  have h := toNat_ctl c
  have h0 := b2n_le_one c.enable
  have h1 := b2n_le_one c.stop
  have h2 := b2n_le_one c.pause
  have hbit : ∀ {i : Nat} {b : Bool}, fld c.ctl i 1 = b2n b → fbit c.ctl i = b := fun {i b} hb => by
    rw [fbit_eq_decide, hb, decide_b2n_eq_one]
  refine ⟨hbit ?_, hbit ?_, hbit ?_, ?_⟩ <;> rw [fld, bits, Nat.shiftRight_eq_div_pow] <;> omega

theorem fbit_withBit (w : Word) {i j : Nat} (v : Bool) (hj : j < 64) : fbit (withBit w i v) j = if j = i then v else fbit w j :=
  getLsbD_withBit w v hj

/-- One control bit of CH_CTL is written: the three controls take effect in their order. -/
theorem State.chWrite_ctl {s : State} {c i : Nat} (hi : i < 3) (v : Bool) (halg : (s.chan c).alg ≤ 3) :
    s.chWrite c 0 (withBit (s.chan c).ctl i v) 1 =
      (let ch := s.chan c
       let pause := if 2 = i then v else ch.pause
       let enable := if 0 = i then v else ch.enable
       let stop := if 1 = i then v else ch.stop
       let s1 := s.updChan c (fun x => { x with alg := ch.alg })
       let s2 := if pause then s1.chPause c else if ch.pause then s1.chResume c else s1
       let s3 := if enable then s2.chEnable c else if ch.enable then s2.chDisable c else s2
       if stop then s3.chStop c else s3, true) := by
  obtain ⟨henable, hstop, hpause, hfield⟩ := bits_ctl (s.chan c)
  have halg' : fld (withBit (s.chan c).ctl i v) 4 4 = (s.chan c).alg := by
    rw [fld_ext (y := (s.chan c).ctl), hfield, Nat.mod_eq_of_lt (by omega)]
    intro j hj
    rw [getLsbD_withBit _ _ (by omega), if_neg (by omega)]
  unfold State.chWrite
  dsimp only
  rw [if_pos rfl, strobe_withBit _ (by omega), halg', fbit_withBit _ _ (by decide), fbit_withBit _ _ (by decide),
    fbit_withBit _ _ (by decide), henable, hstop, hpause, if_neg (by omega), show (1 : BitVec 8).toNat.testBit 0 = true from rfl]
  simp only [true_and]

theorem State.chWrite_kick (s : State) (c : Nat) (data : Word) (strb : BitVec 8) :
    s.chWrite c 0x28 data strb = (s.chKick c, true) := rfl

/-! ### The controls on a channel (R212, R213, R215, R241, R242) -/

section
variable {s : State} {n : Nat}

theorem State.chStop_running (h : (s.chan n).st = .active ∨ (s.chan n).st = .parked) :
    s.chStop n = (s.updChan n (fun x => { x with st := .stopping, stop := true })).chPump n := by
  unfold State.chStop
  dsimp only
  rw [if_pos h]

theorem State.chStop_paused (h : (s.chan n).st = .pausing ∨ (s.chan n).st = .paused) :
    s.chStop n = s.updChan n (fun x => { x with stop := true, back := .stopping }) := by
  have hrun : ¬((s.chan n).st = .active ∨ (s.chan n).st = .parked) := by rcases h with h | h <;> simp [h]
  unfold State.chStop
  dsimp only
  rw [if_neg hrun, if_pos h]

theorem State.chEnable_start (hst : (s.chan n).st = .disabled) (hen : (s.chan n).enable = false) (h0 : s.chStarted n = 0) :
    s.chEnable n =
      if s.chEnableOk n (s.chan n) then
        ((s.updChan n (fun x => { x with enable := true })).updChan n (fun x => x.go.goPtr)).chPump n
      else ((s.updChan n (fun x => { x with enable := true })).updChan n
        (fun x => { x with enable := false, cfgErr := true })).raise0 0x0E2 n := by
  unfold State.chEnable
  dsimp only
  rw [if_neg (by simp [hst, hen]), if_neg (by omega)]

theorem State.chKick_stopped (h : (s.chan n).st = .stopped) :
    s.chKick n = ((s.updChan n (fun x => { x with kick := true })).updChan n Chan.go).chPump n := by
  unfold State.chKick
  dsimp only
  rw [if_pos h]

theorem State.chKick_other (h : (s.chan n).st ≠ .stopped) :
    s.chKick n = (s.updChan n (fun x => { x with kick := true })).chKicked n := by
  unfold State.chKick
  dsimp only
  rw [if_neg h]

end

/-- Settles O32: the page's writes, then each control. -/
theorem channelControls : Obligations.ChannelControls := by
  intro s c n ch b hold on fin
  refine ⟨fun h hg halg => ?writes, State.chStop_running, State.chStop_paused, fun hst hen h0 hok => ?start,
    fun hst hen h0 hok => ?refuse, fun hst => ?parked, fun hst => ?stopped⟩
  case writes =>
    have hbus : ∀ {i : Nat}, i < 3 → ∀ v, s.bus (chOff n 0) (withBit ch.ctl i v) 1 = accepted s
        (State.chPump ((bare s).chWrite n 0 (withBit ch.ctl i v) 1).1 n) := fun {i} hi v =>
      State.bus_ch_ok h (by decide) hg (by
        rw [show ch.ctl = ((bare s).chan n).ctl from rfl, State.chWrite_ctl (s := bare s) hi v halg])
    have hctl : ∀ {i : Nat} (hi : i < 3) (v : Bool), (bare s).chWrite n 0 (withBit ch.ctl i v) 1 = _ := fun {i} hi v =>
      State.chWrite_ctl (s := bare s) hi v halg
    have hsame : ∀ t : State, (if ch.pause then t.chPause n else if ch.pause then t.chResume n else t) = hold t := fun t => by
      show _ = if ch.pause then t.chPause n else t
      cases ch.pause <;> rfl
    have hsame' : ∀ t : State, (if ch.enable then t.chEnable n else if ch.enable then t.chDisable n else t) = on t := fun t => by
      show _ = if ch.enable then t.chEnable n else t
      cases ch.enable <;> rfl
    refine ⟨?enable, ?disable, ?stop, ?pause, ?resume, ?kick⟩
    case enable =>
      show s.bus (chOff n 0) (withBit ch.ctl 0 true) 1 = _
      rw [hbus (by decide), hctl (by decide)]
      exact congrArg (fun t => accepted s (fin (State.chEnable t n))) (hsame b)
    case disable =>
      show s.bus (chOff n 0) (withBit ch.ctl 0 false) 1 = _
      rw [hbus (by decide), hctl (by decide)]
      exact congrArg (fun t => accepted s (fin (if ch.enable then State.chDisable t n else t))) (hsame b)
    case stop =>
      show s.bus (chOff n 0) (withBit ch.ctl 1 true) 1 = _
      rw [hbus (by decide), hctl (by decide)]
      refine congrArg (fun t => accepted s ((State.chStop t n).chPump n)) ?_
      rw [← hsame', ← hsame]
      rfl
    case pause =>
      show s.bus (chOff n 0) (withBit ch.ctl 2 true) 1 = _
      rw [hbus (by decide), hctl (by decide)]
      exact congrArg (fun t => accepted s (fin t)) (hsame' (b.chPause n))
    case resume =>
      show s.bus (chOff n 0) (withBit ch.ctl 2 false) 1 = _
      rw [hbus (by decide), hctl (by decide)]
      exact congrArg (fun t => accepted s (fin t)) (hsame' (if ch.pause then b.chResume n else b))
    case kick =>
      show s.bus (chOff n 0x28) 0 0 = _
      exact State.bus_ch_ok (State.reached_ch h (by decide) (by decide)) (by decide) hg (State.chWrite_kick _ _ _ _)
  case start =>
    rw [State.chEnable_start hst hen h0, if_pos hok]
    refine congrArg (fun t => State.chPump t n) (State.updChan_congr ?_)
    rw [State.chan_updChan]
    rfl
  case refuse => rw [State.chEnable_start hst hen h0, hok, if_neg Bool.false_ne_true]
  case parked => exact State.chKick_other (by rw [hst]; decide)
  case stopped =>
    rw [State.chKick_stopped hst]
    refine congrArg (fun t => State.chPump t n) (State.updChan_congr ?_)
    rw [State.chan_updChan]
    rfl

/-! ### Shadows and the hand-over (R216, R217) -/

theorem State.chShadow_ok {s : State} {c i : Nat} {data : Word} {strb : BitVec 8}
    (h : chLegal i (if (s.chan c).pend.testBit 1 then 2 ^ fld ((s.chan c).sh.getD 1 0) 0 5 else (s.chan c).n)
      (strobe ((s.chan c).sh.getD i 0) data strb) = true) :
    s.chShadow c i data strb =
      (s.updChan c (fun x => { x with
        sh := setAt i (chStore i (strobe ((s.chan c).sh.getD i 0) data strb)) x.sh, pend := x.pend ||| 2 ^ i }), true) := by
  unfold State.chShadow
  dsimp only
  rw [h, Bool.not_true, if_neg Bool.false_ne_true]

/-- The write of a shadow register goes to the shadow of its place. -/
theorem State.chWrite_shadow {r : ShadowReg} {i : Nat} (h : [ShadowReg.ringbase, .ringcfg, .ptr, .reqcfg, .evtcfg][i]? = some r)
    (s : State) (c : Nat) (data : Word) (strb : BitVec 8) :
    shadowOff r < 0x400 ∧ s.chWrite c (shadowOff r) data strb = s.chShadow c i data strb := by
  match i, h with
  | 0, h => cases h; exact ⟨by decide, rfl⟩
  | 1, h => cases h; exact ⟨by decide, rfl⟩
  | 2, h => cases h; exact ⟨by decide, rfl⟩
  | 3, h => cases h; exact ⟨by decide, rfl⟩
  | 4, h => cases h; exact ⟨by decide, rfl⟩
  | i + 5, h => simp at h

theorem State.chWrite_commit (s : State) (c : Nat) (data : Word) (h : fld data 0 2 ≠ 3) :
    s.chWrite c 0x180 data 1 = (s.updChan c (fun x => { x with arm := fld data 0 2, armDue := false }), true) := by
  show (if fld data 0 2 = 3 then (s, false) else (s.chArm c (fld data 0 2), true)) = _
  rw [if_neg h]
  rfl

/-- A pending event setting alone: the pointer and the requests stay as they are. -/
theorem State.chHandover_evt {s : State} {n : Nat}
    (hdue : ((s.chan n).arm = 1 ∧ (s.chan n).atBoundary = true) ∨ ((s.chan n).arm = 2 ∧ (s.chan n).armDue = true))
    (hp : (s.chan n).pend = 16) {t : State}
    (ht : t = s.updChan n (fun x => { x with
      act := [(s.chan n).act.getD 0 0, (s.chan n).act.getD 1 0, ptrWord (s.chan n).ptr, (s.chan n).act.getD 3 0,
        (s.chan n).sh.getD 4 0],
      pend := 0, arm := 0, armDue := false, hcount := (x.hcount + 1) % 65536, htick := s.tt.tickNum % 2 ^ 32 }))
    (hok : t.chEnableOk n (t.chan n) = true) : s.chHandover n = t.chPump n := by
  have hready : (((s.chan n).arm == 1 && (s.chan n).atBoundary) || ((s.chan n).arm == 2 && (s.chan n).armDue)) = true := by
    rcases hdue with ⟨h1, h2⟩ | ⟨h1, h2⟩ <;> simp [h1, h2]
  unfold State.chHandover
  dsimp only
  rw [hready, Bool.not_true, if_neg Bool.false_ne_true, hp]
  subst ht
  exact if_pos hok

/-- Settles O33. -/
theorem channelShadows : Obligations.ChannelShadows := by
  intro s c r i data strb tick n ch v
  refine ⟨fun hg => ⟨fun h hr hlegal => ?shadow, fun h => ⟨?arm, ?disarm⟩⟩, fun h hdue => ⟨?exec, fun hp hok => ?hand⟩⟩
  case shadow =>
    obtain ⟨hoff, hwrite⟩ := State.chWrite_shadow hr (bare s) n data strb
    show s.bus (chOff n (shadowOff r)) data strb = _
    refine State.bus_ch_ok h hoff hg ?_
    rw [hwrite]
    exact State.chShadow_ok (s := bare s) hlegal
  case arm =>
    show s.bus (chOff n 0x180) (if tick then 2 else 1) 1 = _
    refine State.bus_ch_ok h (by decide) hg ?_
    cases tick <;> exact State.chWrite_commit _ _ _ (by decide)
  case disarm =>
    show s.bus (chOff n 0x180) 0 1 = _
    exact State.bus_ch_ok h (by decide) hg (State.chWrite_commit _ _ _ (by decide))
  case exec =>
    show s.live (fun s => s.chHandover n) = _
    rw [State.live_of_live h]
  case hand => exact State.chHandover_evt hdue hp rfl hok

end Sys2Proof.Machine
end

section
/-! PROOFS. Telemetry (R268, R269) and the registers of the Weighbridge (R291, R310, R313, R315). -/

namespace Sys2Proof.Machine

open Sys2Proof.Safety

/-! ### Telemetry -/

theorem State.pageRead_telRd (s : State) :
    s.pageRead 0x40610 = mkWord [(0, 20, (s.tel (fld (s.reg 0x40600 0) 0 3)).rd),
      (20, 1, b2n (s.tel (fld (s.reg 0x40600 0) 0 3)).rdWrap)] := rfl

theorem State.bgsWrite_telRd (s : State) (data : Word) (strb : BitVec 8) : s.bgsWrite 0x610 data strb = s.telRd data strb := rfl

theorem State.telRd_ok {s : State} {data : Word} {strb : BitVec 8}
    (h : fld (Safety.wrote s 0x40610 data strb) 0 20 < 2 ^ (s.tel (fld (s.reg 0x40600 0) 0 3)).log2n) :
    s.telRd data strb =
      ((s.updTel (fld (s.reg 0x40600 0) 0 3) (fun t => { t with
        rd := fld (Safety.wrote s 0x40610 data strb) 0 20, rdWrap := fbit (Safety.wrote s 0x40610 data strb) 20 })).telPump
          (fld (s.reg 0x40600 0) 0 3), true) := by
  rw [Safety.wrote, State.pageRead_telRd] at h ⊢
  unfold State.telRd
  dsimp only
  rw [if_neg (by omega)]

/-- What a record that no ring takes leaves. -/
def State.feedDropped (s : State) : State :=
  { s with bgs := { s.bgs with unmatched := min (2 ^ 32 - 1) (s.bgs.unmatched + 1) } }

theorem sat_eq (w n : Nat) : sat w n = min (2 ^ w - 1) n := Nat.min_comm _ _

section
variable {s : State} {session feed : Nat} (h1 : s.mode ≠ .safe) (h2 : s.mode ≠ .off) (hon : s.isOn domBGS = true)
  (hnow : s.dataNow = true)
include h1 h2 hon hnow

/-- A record while data issues: the ring that takes its session, and room in staging, decide. -/
theorem State.feedRecord_taken {k : Nat} {t : Tel}
    (hk : s.bgs.tel.find? (fun p => p.2.active && p.2.stopCmd.isNone && p.2.feed &&
      decide (p.2.lo ≤ session ∧ session ≤ p.2.hi)) = some (k, t)) :
    s.feedRecord session feed = if 1024 ≤ s.staged then s.feedDropped.raise0 0x128 0xFF else s.stage k 1 feed := by
  unfold State.feedRecord
  rw [sat_eq]
  dsimp only
  rw [if_neg (by simp [h1, h2, hon]), hnow, Bool.not_true, if_neg Bool.false_ne_true, hk]
  rfl

theorem State.feedRecord_none
    (hk : s.bgs.tel.find? (fun p => p.2.active && p.2.stopCmd.isNone && p.2.feed &&
      decide (p.2.lo ≤ session ∧ session ≤ p.2.hi)) = none) :
    s.feedRecord session feed = s.feedDropped := by
  unfold State.feedRecord
  rw [sat_eq]
  dsimp only
  rw [if_neg (by simp [h1, h2, hon]), hnow, Bool.not_true, if_neg Bool.false_ne_true, hk]
  rfl

end

/-- Settles O34. -/
theorem telemetryAndFeed : Obligations.TelemetryAndFeed := by
  intro s data strb session feed g v takes
  refine ⟨fun h hlt => ?read, fun h hon hnow _ => ⟨fun k t hk => ⟨fun hroom => ?staged, fun hfull => ?full⟩, fun hk => ?unmatched⟩⟩
  case read =>
    show s.bus 0x40610 data strb = _
    refine State.bus_page_plain _ _ h (by decide) (by decide) (by decide) (by decide) ?_
    rw [State.pageWrite_bgs _ _ _ _ (by decide) (by decide)]
    show refusal (State.bgsWrite _ 0x610 data strb) 1 = _
    rw [State.bgsWrite_telRd, State.telRd_ok (s := touched s) hlt]
    rfl
  case staged =>
    show s.live (fun s => s.feedRecord session.toNat feed.toNat) = _
    rw [State.live_of_live h, State.feedRecord_taken (s := bare s) h.2.1 h.2.2 hon hnow hk, if_neg (show ¬1024 ≤ (bare s).staged from Nat.not_le.mpr hroom)]
    rfl
  case full =>
    show s.live (fun s => s.feedRecord session.toNat feed.toNat) = _
    rw [State.live_of_live h, State.feedRecord_taken (s := bare s) h.2.1 h.2.2 hon hnow hk, if_pos (show 1024 ≤ (bare s).staged from hfull)]
    rfl
  case unmatched =>
    show s.live (fun s => s.feedRecord session.toNat feed.toNat) = _
    rw [State.live_of_live h, State.feedRecord_none (s := bare s) h.2.1 h.2.2 hon hnow hk]
    rfl

/-! ### The Weighbridge page -/

/-- FACTORY_TEST with a Maker session on the register path, as the page sees it. -/
def State.wbgMaker (s : State) : Bool := s.mode == .factoryTest && s.sessRole 0 == 3

theorem State.wbgMaker_iff (s : State) : s.wbgMaker = true ↔ s.mode = .factoryTest ∧ s.sessRole 0 = 3 := by
  simp [State.wbgMaker]

section
variable {s t : State} {off : Nat} {data : Word} {strb : BitVec 8} (hheld : s.held = false) (ho : off < 0x10000)
include hheld ho

theorem State.bus_wbg_ok (h : (bare s).wbgWrite off data strb s.wbgMaker (0, s.sessRole 0, 0) = (t, true)) :
    s.bus (0x400000 + off) data strb = accepted s t := by
  have hpage := State.pageWrite_wbg (bare s) data strb .reg (off := 0x400000 + off) (by omega) (by omega)
  rw [show (0x400000 + off) % 65536 = off by omega] at hpage
  have h' : (bare s).wbgWrite off data strb ((bare s).mode == .factoryTest && (bare s).role .reg == 3) ((bare s).who .reg) =
      (t, true) := h
  rw [h', refusal_true] at hpage
  rw [State.bus_wbg hheld ⟨by omega, by omega⟩, hpage, answered_ok]

theorem State.bus_wbg_bad (h : (bare s).wbgWrite off data strb s.wbgMaker (0, s.sessRole 0, 0) = (t, false)) :
    s.bus (0x400000 + off) data strb = errored s t := by
  have hpage := State.pageWrite_wbg (bare s) data strb .reg (off := 0x400000 + off) (by omega) (by omega)
  rw [show (0x400000 + off) % 65536 = off by omega] at hpage
  have h' : (bare s).wbgWrite off data strb ((bare s).mode == .factoryTest && (bare s).role .reg == 3) ((bare s).who .reg) =
      (t, false) := h
  rw [h', show refusal (t, false) 1 = (t, 0 + 1) from rfl] at hpage
  rw [State.bus_wbg hheld ⟨by omega, by omega⟩, hpage, answered_bad]

end

/-- Any write of the page but one to WBG_SEALCTL ends a sealing sequence. -/
def State.unsealing (s : State) : State := { s with wbg := { s.wbg with sealing := false } }

section
variable (s : State) (data : Word) (strb : BitVec 8) (ft : Bool) (who : Nat × Nat × Nat)

theorem State.wbgWrite_seal : s.wbgWrite 0x30 data strb ft who = s.sealctl data strb ft who := rfl
theorem State.wbgWrite_snap : s.wbgWrite 0x38 data strb ft who = s.unsealing.snapWrite := rfl
theorem State.wbgWrite_ack : s.wbgWrite 0x48 data strb ft who = (s.unsealing.recAck, true) := rfl
theorem State.wbgWrite_ovh : s.wbgWrite 0x18 data strb ft who = s.unsealing.wbgConfig false data strb ft who := rfl
theorem State.wbgWrite_secs : s.wbgWrite 0x20 data strb ft who = s.unsealing.wbgConfig true data strb ft who := rfl

variable {s data strb ft who}

theorem State.snapWrite_ok (h : ¬(s.wbg.snap.rec_.isSome = true ∧ s.wbg.snap.ready = false)) (hst : s.wbg.st ≠ 2) :
    s.snapWrite = ({ s with wbg := { s.wbg with snap := { rec_ := some (s.wrec 2), ready := false } } }, true) := by
  unfold State.snapWrite
  rw [if_neg (by simpa using h), if_neg hst]
  rfl

theorem State.sealctl_tamper (hst : s.wbg.st ≠ 0) : s.sealctl data strb ft who = (s.tamper 3 who, false) := if_pos hst

theorem State.wbgConfig_tamper (hst : s.wbg.st ≠ 0) (interval : Bool) :
    s.wbgConfig interval data strb ft who = (s.tamper (if interval then 2 else 1) who, false) := if_pos hst

section
variable (hst : s.wbg.st = 0)
include hst

theorem State.sealctl_refused : s.sealctl data strb false who = (s.unsealing, false) := by
  unfold State.sealctl
  rw [if_neg (by simp [hst])]
  rfl

theorem State.sealctl_first (hc : fld data 0 16 = 0x5EA1) :
    s.sealctl data 0xFF true who = ({ s with wbg := { s.wbg with sealing := true } }, true) := by
  unfold State.sealctl
  rw [strobe_full]
  dsimp only
  rw [if_neg (by simp [hst]), if_neg (by decide), if_pos hc]
  rfl

theorem State.sealctl_second {k : Nat} (hc : fld data 0 16 = 0x0D1E) (hs : s.wbg.sealing = true) (hk : s.wbg.key = some k) :
    s.sealctl data 0xFF true who =
      (State.chainStart { s.unsealing with wbg := { s.unsealing.wbg with
        st := 1, cells := some (s.wbg.ovh, s.wbg.secs, kcvOf k) } }, true) := by
  unfold State.sealctl
  rw [strobe_full]
  dsimp only
  rw [if_neg (by simp [hst]), if_neg (by decide), if_neg (by omega), if_pos ⟨hc, hs⟩, hk]
  rfl

theorem State.wbgConfig_secs (hlo : 1 ≤ fld data 0 17) (hhi : fld data 0 17 ≤ 86400) :
    s.wbgConfig true data 0xFF true who = ({ s with wbg := { s.wbg with secs := fld data 0 17 } }, true) := by
  unfold State.wbgConfig
  rw [strobe_full]
  dsimp only
  rw [if_neg (by simp [hst]), if_pos rfl]
  split
  case isTrue h => rw [h]
  case isFalse h =>
    rw [if_neg (by simp; omega)]
    rfl

theorem State.wbgConfig_ovh :
    s.wbgConfig false data 0xFF true who = ({ s with wbg := { s.wbg with ovh := fld data 0 8 } }, true) := by
  unfold State.wbgConfig
  rw [strobe_full, strobe_full]
  dsimp only
  rw [if_neg (by simp [hst]), if_neg Bool.false_ne_true]
  split
  case isTrue h => rw [h]
  case isFalse h =>
    rw [if_neg (by decide)]
    rfl

end

end

/-- Settles O35, register by register. -/
theorem weighbridgeRegisters : Obligations.WeighbridgeRegisters := by
  intro s hheld b maker
  refine ⟨fun hsnap hst => ?snap, ?ack, fun hst hmaker => ?factory, fun hst hmaker data strb => ?refused,
    fun hst data strb => ⟨?ovh, ?secs, ?ctl⟩⟩
  case snap =>
    show s.bus (0x400000 + 0x38) 0 0 = _
    refine State.bus_wbg_ok hheld (by decide) ?_
    rw [State.wbgWrite_snap, State.snapWrite_ok (s := (bare s).unsealing) hsnap hst]
    rfl
  case ack =>
    show s.bus (0x400000 + 0x48) 0 0 = _
    refine State.bus_wbg_ok hheld (by decide) ?_
    rw [State.wbgWrite_ack]
    rfl
  case factory =>
    have hft : s.wbgMaker = true := s.wbgMaker_iff.mpr hmaker
    refine ⟨fun data hc => ?first, fun data k hc hs hk => ?second, fun data hlo hhi => ?interval, fun data => ?overhead⟩
    case first =>
      show s.bus (0x400000 + 0x30) data 0xFF = _
      refine State.bus_wbg_ok hheld (by decide) ?_
      rw [State.wbgWrite_seal, hft, State.sealctl_first (s := bare s) hst hc]
      rfl
    case second =>
      show s.bus (0x400000 + 0x30) data 0xFF = _
      refine State.bus_wbg_ok hheld (by decide) ?_
      rw [State.wbgWrite_seal, hft, State.sealctl_second (s := bare s) hst hc hs hk]
      rfl
    case interval =>
      show s.bus (0x400000 + 0x20) data 0xFF = _
      refine State.bus_wbg_ok hheld (by decide) ?_
      rw [State.wbgWrite_secs, hft, State.wbgConfig_secs (s := (bare s).unsealing) hst hlo hhi]
      rfl
    case overhead =>
      show s.bus (0x400000 + 0x18) data 0xFF = _
      refine State.bus_wbg_ok hheld (by decide) ?_
      rw [State.wbgWrite_ovh, hft, State.wbgConfig_ovh (s := (bare s).unsealing) hst]
      rfl
  case refused =>
    have hft : s.wbgMaker = false := by
      rw [← Bool.not_eq_true, s.wbgMaker_iff]
      exact hmaker
    show s.bus (0x400000 + 0x30) data strb = _
    refine State.bus_wbg_bad hheld (by decide) ?_
    rw [State.wbgWrite_seal, hft, State.sealctl_refused (s := bare s) hst]
    rfl
  case ovh =>
    show s.bus (0x400000 + 0x18) data strb = _
    refine State.bus_wbg_bad hheld (by decide) ?_
    rw [State.wbgWrite_ovh, State.wbgConfig_tamper (s := (bare s).unsealing) hst]
    rfl
  case secs =>
    show s.bus (0x400000 + 0x20) data strb = _
    refine State.bus_wbg_bad hheld (by decide) ?_
    rw [State.wbgWrite_secs, State.wbgConfig_tamper (s := (bare s).unsealing) hst]
    rfl
  case ctl =>
    show s.bus (0x400000 + 0x30) data strb = _
    refine State.bus_wbg_bad hheld (by decide) ?_
    rw [State.wbgWrite_seal, State.sealctl_tamper (s := bare s) hst]
    rfl

end Sys2Proof.Machine
end

section
/-! PROOFS. The own frames of a Station (R369): a full queue refuses STN_EVSEND. -/

namespace Sys2Proof.Machine

open Sys2Proof.Safety

/-- The answer of the register target outlives the end of the command. -/
theorem State.rsp_done (s t : State) : (s.done t).rsp = t.rsp := by
  obtain ⟨h, i, heq, -⟩ := samplingChangesOnlyMarks t
  unfold State.done
  rw [heq]

/-- On a still block an accepted and a refused register write are told apart by the answer. -/
theorem accepted_ne_errored {s t u : State} (ht : Still (t.answer 0 false)) (hu : Still (u.answer 0 true)) (hw : s.works = []) :
    accepted s t ≠ errored s u := by
  intro h
  have hw' : (bare s).works = [] := hw
  rw [accepted, errored, ran, ran, stillMachineStaysStill _ _ ht hw', stillMachineStaysStill _ _ hu hw'] at h
  have hrsp := congrArg State.rsp (Host.Outcome.next.inj h)
  rw [State.rsp_done, State.rsp_done] at hrsp
  exact absurd (congrArg Rsp.err hrsp) Bool.false_ne_true

theorem State.still_of_factoryTest {s : State} (hm : s.mode = .factoryTest) (hwaits : s.dct.waits = [])
    (htrans : s.pwr.trans = none) (hworks : s.works = []) : Still s := ⟨hwaits, htrans, hworks, .inl hm⟩

theorem State.evsend_full {s : State} (h : 16 ≤ s.stn.own.length) (num : Nat) : s.evsend num = (s, false) :=
  if_pos (.inr h)

theorem State.stnWrite_evsend (s : State) (data : Word) (strb : BitVec 8) :
    s.stnWrite 0x38 data strb = s.evsend (fld (strobe 0 data strb) 0 8) := rfl

/-- STN_EVSEND with 16 own frames waiting is answered with the error response. -/
theorem State.exec_stnEvsend_full {s : State} (h : Open s 0x60038) (hfull : 16 ≤ s.stn.own.length) (num : BitVec 8) :
    exec (.stnEvsend num) s = errored s (touched s) := by
  have hpage : (touched s).pageWrite 0x60038 (BitVec.ofNat 64 num.toNat) 0xFF .reg = (touched s, 0 + 1) := by
    rw [State.pageWrite_stn _ _ _ _ (by decide) (by decide), State.stnPage]
    show refusal (State.stnWrite _ 0x38 _ _) _ = _
    rw [State.stnWrite_evsend, State.evsend_full (s := touched s) hfull]
    rfl
  show s.bus 0x60038 (BitVec.ofNat 64 num.toNat) 0xFF = _
  rw [State.bus_plain h (by decide) (by decide) (by decide) (by decide), hpage, answered_bad]

/-- A Station in FACTORY_TEST with a Maker session, every domain on and 16 frames of its own waiting. -/
def fullStation : State :=
  { State.reset with
    held := false, mode := .factoryTest, pwr := { State.reset.pwr with up := 2 ^ 98 - 1, init := 5 },
    dct := { sess := [(0, { role := 3, last := 0 })] }, stn := { own := List.replicate 16 0 } }

/-- Refutes O36: with 16 own frames waiting, STN_EVSEND is refused and no frame joins them. -/
theorem not_peerSends : ¬ Obligations.PeerSends := by
  intro h
  have hopen : Open fullStation 0x60038 := by decide
  have hpeer : fullStation.peerOpen = true := by decide
  have hdsp : fullStation.isOn domDSP = true := by decide
  have hacc := (h fullStation 0).1 hopen hpeer hdsp
  rw [State.exec_stnEvsend_full hopen (by decide)] at hacc
  refine accepted_ne_errored ?_ ?_ rfl hacc.symm <;> exact State.still_of_factoryTest rfl rfl rfl rfl

end Sys2Proof.Machine
end

section
/-! PROOFS. Admission of data entries (R84, R107 to R116): what the checks decide, and the places an entry needs. -/

namespace Sys2Proof.Machine

open Sys2Proof.Safety

/-! ### The checks depend on no output port -/

theorem checkRanges_bare (s : State) (t : Nat) (coh : Bool) (cs : List Chk) :
    checkRanges (bare s) t coh cs = checkRanges s t coh cs := by
  induction cs with
  | nil => rfl
  | cons c cs ih =>
    unfold checkRanges
    rw [ih]
    rfl

theorem judgeEntry_bare (s : State) (q : Nat) (g : Queue) (e : Ent) : judgeEntry (bare s) q g e = judgeEntry s q g e := by
  unfold judgeEntry judgeAt
  rw [checkRanges_bare]
  rfl

/-! ### Ranges that have a place (R116) -/

theorem checkRanges_cons {s : State} {t k : Nat} {coh : Bool} {c : Chk} {cs : List Chk} {w : Window}
    {l : List (Chk × Rng × Nat)} (hw : findWin s.wins t c.a c.len = some (k, w)) (hrd : c.rd = true → w.rd = true)
    (hwr : c.wr = true → w.wr = true) (hcoh : coh = true → w.mem = true) (hl : checkRanges s t coh cs = .ok l) :
    checkRanges s t coh (c :: cs) =
      .ok ((c, { fa := addOff c.a w.offset, len := c.len, ta := c.a, win := k, port := some w.port, code := c.code }, w.station) :: l) := by
  have hok : ((c.rd && !w.rd) || (c.wr && !w.wr) || (coh && !w.mem)) = false := by
    have hand : ∀ {a b : Bool}, (a = true → b = true) → (a && !b) = false := fun {a b} h => by
      cases a
      · rfl
      · rw [h rfl]; rfl
    rw [hand hrd, hand hwr, hand hcoh]
    rfl
  unfold checkRanges
  rw [hw]
  dsimp only
  rw [hok, if_neg Bool.false_ne_true, hl]

theorem checkRanges_placed {s : State} {t : Nat} {coh : Bool} {cs : List Chk} {rs : List (Chk × Rng × Nat)}
    (h : List.Forall₂ (Placed s t coh) cs rs) :
    checkRanges s t coh cs = .ok rs ∧ ∀ x ∈ rs, x.2.2 = s.stn.id ∧ s.portUp x.2.1.port = true := by
  induction h with
  | nil => exact ⟨rfl, by simp⟩
  | cons hc _ ih =>
    obtain ⟨k, w, hw, hrd, hwr, hcoh, hstn, hport, rfl⟩ := hc
    obtain ⟨hok, hall⟩ := ih
    refine ⟨checkRanges_cons hw hrd hwr hcoh hok, ?_⟩
    rw [List.forall_mem_cons]
    exact ⟨⟨hstn, hport⟩, hall⟩

/-! ### What the checks decide -/

section
variable {s : State} {qid : Nat} {q : Queue} {e : Ent} (hbad : e.bad = none) (hbody : bodyBad e = false)
  (hred : (if e.opc = 10 then reduceBad e else none) = none) (halign : alignBad e = none) (hranges : rangesBad e = false)
include hbad hbody hred halign hranges

/-- Nothing to do: no window check is made. -/
theorem judgeEntry_zero (hz : e.isZero = true) : judgeEntry s qid q e = .done 0 e.noCsum 0 := by
  unfold judgeEntry judgeAt
  dsimp only
  rw [hbad, hbody, hred]
  dsimp only
  rw [halign]
  dsimp only
  rw [hranges, hz, if_pos rfl]
  rfl

/-- Something to do, at this Station, on ports that are UP. -/
theorem judgeEntry_run (hz : e.isZero = false) {rs : List (Chk × Rng × Nat)}
    (hrs : List.Forall₂ (Placed s q.tenant (fCoh e.hdr)) e.ranges rs) : judgeEntry s qid q e = .run (mkJob s qid q e rs) := by
  obtain ⟨hok, hall⟩ := checkRanges_placed hrs
  have hlocal : rs.filter (fun x => x.2.2 != s.stn.id) = [] := by
    rw [List.filter_eq_nil_iff]
    intro x hx
    rw [(hall x hx).1, bne_self_eq_false]
    exact Bool.false_ne_true
  have hup : rs.find? (fun x => !s.portUp x.2.1.port) = none := by
    rw [List.find?_eq_none]
    intro x hx
    rw [(hall x hx).2]
    exact Bool.false_ne_true
  unfold judgeEntry judgeAt
  dsimp only
  rw [hbad, hbody, hred]
  dsimp only
  rw [halign]
  dsimp only
  rw [hranges, hz, hok]
  dsimp only
  rw [if_neg Bool.false_ne_true, hlocal, hup]
  rfl

end

/-- The opcodes of one range form overlap nothing but themselves. -/
theorem rangesBad_plain {e : Ent} (h : e.opc ≤ 6) : rangesBad e = false := by
  unfold rangesBad
  dsimp only
  rw [if_neg (by omega), if_neg (by omega), if_neg (by omega)]

/-- LENGTH 0 (R114, R134). -/
theorem judgeEntry_length0 (s : State) (qid : Nat) (q : Queue) {e : Ent} (hbad : e.bad = none) (hbody : bodyBad e = false)
    (hop : e.opc ≤ 6) (halign : alignBad e = none) (hlen : e.length = 0) :
    judgeEntry s qid q e = .done 0 (b2n (fCsum e.hdr)) 0 := by
  have hz : e.isZero = true := by
    unfold Ent.isZero
    dsimp only
    rw [if_pos hop, decide_eq_true hlen]
  have hcs : e.noCsum = b2n (fCsum e.hdr) := by
    unfold Ent.noCsum b2n
    rw [show (e.opc != 10) = true by simp; omega, Bool.and_true]
  rw [judgeEntry_zero hbad hbody (if_neg (by omega)) halign (rangesBad_plain hop) hz, hcs]

/-! ### Places (R17, R28, R30, R159, R165) -/

theorem argmin_isSome {α : Type} (f : α → Nat) {l : List α} (h : l ≠ []) : (argmin f l).isSome = true := by
  cases l with
  | nil => exact absurd rfl h
  | cons a l =>
    unfold argmin
    split
    · rfl
    · split <;> rfl

theorem State.moverFor_of_free {s : State} {cls : Nat} (h : MoverFree s cls) : (s.moverFor cls).isSome = true := by
  obtain ⟨m, hm, hf, hon, hload, hcls⟩ := h
  refine argmin_isSome _ (List.ne_nil_of_mem (a := m) (List.mem_filter.mpr ⟨List.mem_range.mpr hm, ?_⟩))
  rw [hf, hon, decide_eq_true hload]
  rcases hcls with h | h
  · rw [decide_eq_true h]; rfl
  · rw [decide_eq_true h, Bool.or_true]; rfl

theorem State.hasPlace_of_runs {s : State} {q op : Nat} {e : Ent} {rs : List (Chk × Rng × Nat)} (h : Runs s q op e rs) :
    s.hasPlace (mkJob s q (s.queue q) e rs) = true := by
  obtain ⟨hdue, -, -, -, -, -, -, hmover, hunits, hidx, halloc⟩ := h
  obtain ⟨-, -, hop, -⟩ := hdue
  have hq : (mkJob s q (s.queue q) e rs).q = q := rfl
  have ho : (mkJob s q (s.queue q) e rs).op = op := hop
  have ha : (mkJob s q (s.queue q) e rs).adm = s.nextId := rfl
  unfold State.hasPlace
  rw [hq, ho, ha, State.moverFor_of_free hmover, decide_eq_true hunits, hidx]
  by_cases h10 : op = 10
  · obtain ⟨hg, hquad, hwait⟩ := halloc h10
    rw [decide_eq_true hg, hquad, hwait]
    simp
  · simp [h10]

theorem judgeEntry_of_runs {s : State} {q op : Nat} {e : Ent} {rs : List (Chk × Rng × Nat)} (h : Runs s q op e rs) :
    judgeEntry s q (s.queue q) e = .run (mkJob s q (s.queue q) e rs) := by
  obtain ⟨hdue, hbody, hred, halign, hranges, hz, hrs, -⟩ := h
  obtain ⟨-, -, hop, hbad, -⟩ := hdue
  refine judgeEntry_run hbad hbody ?_ halign hranges hz hrs
  split
  · exact hred (by omega)
  · rfl

/-! ### Admission -/

/-- A due entry that runs and has its places is admitted as a job. -/
theorem State.admitOp_run {s : State} {q op : Nat} {e : Ent} {j : Job} (h : Due s q op e)
    (hj : judgeEntry s q (s.queue q) e = .run j) (hp : s.hasPlace j = true) :
    (bare s).admitOp q op =
      let b := (bare s).setEnt q e.uid (fun e => { e with ph := .admitted })
      let u := (State.pumpQ { b with jobs := Tbl.put e.uid j b.jobs } q).wakeMover
      if op = 10 then u.wakeQuad false else u := by
  obtain ⟨-, hold, hop, hbad, hdq, hadm, hfail⟩ := h
  have hold' : ((bare s).queue q).oldest = some e := hold
  have hdq' : ((bare s).queue q).dq = false := hdq
  have hadm' : (bare s).admissible q e = true := hadm
  have hp' : (bare s).hasPlace j = true := hp
  have hj' : judgeEntry (bare s) q ((bare s).queue q) e = .run j := (judgeEntry_bare ..).trans hj
  unfold State.admitOp
  dsimp only
  rw [hold']
  dsimp only
  rw [hj']
  dsimp only
  rw [if_neg (by simp [hop, hbad, hdq', hadm']), if_neg (by simp [hfail]), if_neg (by simp [hp'])]

/-- The data opcodes and their commands. -/
def dataOps : List (Nat × (Fin 8192 → Instr)) :=
  [(1, .copy), (2, .fill), (3, .zero), (4, .compare), (5, .check), (6, .mcopy), (8, .gather), (9, .scatter), (10, .greduce)]

theorem exec_dataOp {x : Nat × (Fin 8192 → Instr)} (hx : x ∈ dataOps) (q : Fin 8192) (s : State) :
    exec (x.2 q) s = s.act (fun s => s.admitOp q.val x.1) := by
  simp only [dataOps, List.mem_cons, List.not_mem_nil, or_false] at hx
  rcases hx with rfl | rfl | rfl | rfl | rfl | rfl | rfl | rfl | rfl <;> rfl

theorem exec_dataOp_run {x : Nat × (Fin 8192 → Instr)} (hx : x ∈ dataOps) {s : State} {q : Fin 8192} {e : Ent} {j : Job}
    (h : Due s q.val x.1 e) (hj : judgeEntry s q.val (s.queue q.val) e = .run j) (hp : s.hasPlace j = true) :
    exec (x.2 q) s = ended s
      (let b := (bare s).setEnt q.val e.uid (fun e => { e with ph := .admitted })
       let u := (State.pumpQ { b with jobs := Tbl.put e.uid j b.jobs } q.val).wakeMover
       if x.1 = 10 then u.wakeQuad false else u) := by
  rw [exec_dataOp hx, State.act_of_free h.1, State.admitOp_run h hj hp]

/-- An entry that passes every check and finds its places. -/
theorem exec_dataOp_runs {x : Nat × (Fin 8192 → Instr)} (hx : x ∈ dataOps) {s : State} {q : Fin 8192} {e : Ent}
    {rs : List (Chk × Rng × Nat)} (h : Runs s q.val x.1 e rs) :
    exec (x.2 q) s = ended s (if x.1 = 10 then (admitted s q.val e rs).wakeQuad false else admitted s q.val e rs) :=
  exec_dataOp_run hx h.1 (judgeEntry_of_runs h) (State.hasPlace_of_runs h)

/-- Settles O37. -/
theorem dataAdmission : Obligations.DataAdmission := by
  refine ⟨fun s q e x hx h => ⟨fun j hj hp => exec_dataOp_run hx h hj hp, fun st info res hj => ?done⟩,
    fun s q e rs => ?runs, fun s q g e hbad hbody _ hop halign hlen => judgeEntry_length0 s q g hbad hbody hop halign hlen⟩
  case done =>
    rw [exec_dataOp hx, State.act_of_free h.1, State.admitOp_of_done h ((judgeEntry_bare ..).trans hj)]
    rfl
  case runs =>
    have hrun : ∀ {x : Nat × (Fin 8192 → Instr)}, x ∈ dataOps → x.1 ≠ 10 → Runs s q.val x.1 e rs →
        exec (x.2 q) s = ended s (admitted s q.val e rs) :=
      fun {x} hx h10 h => (exec_dataOp_runs hx h).trans (congrArg (ended s) (if_neg h10))
    exact ⟨hrun (x := (1, .copy)) (by simp [dataOps]) (by decide), hrun (x := (2, .fill)) (by simp [dataOps]) (by decide),
      hrun (x := (3, .zero)) (by simp [dataOps]) (by decide), hrun (x := (4, .compare)) (by simp [dataOps]) (by decide),
      hrun (x := (5, .check)) (by simp [dataOps]) (by decide), hrun (x := (6, .mcopy)) (by simp [dataOps]) (by decide),
      hrun (x := (8, .gather)) (by simp [dataOps]) (by decide), hrun (x := (9, .scatter)) (by simp [dataOps]) (by decide),
      fun h => exec_dataOp_runs (x := (10, .greduce)) (by simp [dataOps]) h⟩

end Sys2Proof.Machine
end

section
/-! PROOFS. Entries that start at their admission: NOP, LINK, FENCE, WAIT_EVENT (R127 to R131). -/

namespace Sys2Proof.Machine

open Sys2Proof.Safety

theorem State.takeSlot_keeps (s : State) (q : Nat) :
    (s.takeSlot q).wins = s.wins ∧ (s.takeSlot q).stn = s.stn ∧ (s.takeSlot q).ports = s.ports ∧ (s.takeSlot q).tt = s.tt := by
  unfold State.takeSlot
  dsimp only
  split
  · exact ⟨rfl, rfl, rfl, rfl⟩
  · exact ⟨rfl, rfl, rfl, rfl⟩

theorem took_keeps (s : State) (q uid : Nat) :
    (took s q uid).wins = s.wins ∧ (took s q uid).stn = s.stn ∧ (took s q uid).ports = s.ports ∧ (took s q uid).tt = s.tt :=
  State.takeSlot_keeps (bare s) q

theorem portUp_took (s : State) (q uid : Nat) (p : Option Nat) : (took s q uid).portUp p = s.portUp p := by
  obtain ⟨-, -, hports, -⟩ := took_keeps s q uid
  cases p with
  | none => rfl
  | some n =>
    show (Tbl.getD n {} (took s q uid).ports).up = (Tbl.getD n {} s.ports).up
    rw [hports]

/-- A due entry is admitted and does what its opcode does at once. -/
theorem State.admitPlain_due {s : State} {q op : Nat} {e : Ent} (h : DuePlain s q op e) (k : State → Ent → State) :
    (bare s).admitPlain q op k = k (took s q e.uid) e := by
  obtain ⟨-, hold, hop, hbad, hadm, hear, hst, hmay, hfail, hbody⟩ := h
  have hold' : ((bare s).queue q).oldest = some e := hold
  have hadm' : (bare s).admissible q e = true := hadm
  have hear' : ((bare s).queue q).earlierStarted e.uid = true := hear
  have hst' : ((bare s).queue q).st ≠ .stopping := hst
  have hmay' : (bare s).mayStartNow q = true := hmay
  have hfail' : (if ((bare s).queue q).dq = true then dqEntryFail (e.w 0) else entryFail (e.w 0) (e.w 1)) = false := hfail
  unfold State.admitPlain
  dsimp only
  rw [hold']
  dsimp only
  rw [if_neg (by simp [hop, hbad, hadm', hear', hst']), if_neg (by simp [hmay']), hfail', hbody, if_neg (by simp)]
  rfl

/-! ### FENCE (R130) -/

/-- The FENCE starts, and keeps where its store goes. -/
def State.fenceStart (b : State) (q uid : Nat) (p : Nat × Option Nat) : State :=
  (State.startEnt (b.setEnt q uid (fun (x : Ent) => { x with stAt := p })) q uid).pumpQ q

/-- What a FENCE does at its admission. -/
def fenceBody (q : Nat) (s : State) (e : Ent) : State :=
  let g := s.queue q
  let place : Option (Nat × Option Nat) :=
    if e.aux = 0 ∨ (g.dq ∧ !g.tdq) then some (e.aux, none)
    else match findWin s.wins g.tenant e.aux 8 with
      | none => none
      | some (_, w) => if !w.wr ∨ w.station ≠ s.stn.id then none else some (addOff e.aux w.offset, some w.port)
  match place with
  | none => (s.finish q e.uid 0x15 0x300 (e.w 1) 0).pumpQ q
  | some p =>
    if !g.dq && !s.portUp p.2 then (s.enterHeld q (p.2.getD 0)).pumpQ q
    else s.fenceStart q e.uid p

theorem State.fenceAdmit_eq (s : State) (q : Nat) : s.fenceAdmit q = s.admitPlain q 0x10 (fenceBody q) := rfl

/-- No store, or a Dispatch Queue of the Installer: no window is looked up. -/
theorem fenceBody_plain {s : State} {q : Nat} {e : Ent}
    (h : e.aux = 0 ∨ ((s.queue q).dq = true ∧ (s.queue q).tdq = false)) : fenceBody q s e = s.fenceStart q e.uid (e.aux, none) := by
  unfold fenceBody
  dsimp only
  rw [if_pos (by simpa using h)]
  dsimp only
  rw [if_neg (by simp [State.portUp])]

theorem fenceBody_window {s : State} {q i : Nat} {e : Ent} {w : Window} (haux : e.aux ≠ 0)
    (hdq : (s.queue q).dq = true → (s.queue q).tdq = true) (hw : findWin s.wins (s.queue q).tenant e.aux 8 = some (i, w))
    (hwr : w.wr = true) (hstn : w.station = s.stn.id) (hup : (s.queue q).dq = true ∨ s.portUp (some w.port) = true) :
    fenceBody q s e = s.fenceStart q e.uid (addOff e.aux w.offset, some w.port) := by
  have hlook : ¬(e.aux = 0 ∨ ((s.queue q).dq = true ∧ (!(s.queue q).tdq) = true)) := by
    rintro (h | ⟨h1, h2⟩)
    · exact haux h
    · rw [hdq h1] at h2
      exact absurd h2 (by decide)
  unfold fenceBody
  dsimp only
  rw [if_neg hlook, hw]
  dsimp only
  rw [if_neg (by simp [hwr, hstn])]
  dsimp only
  rw [if_neg (by rcases hup with h | h <;> simp [h])]

/-! ### WAIT_EVENT (R131) -/

theorem State.endWait_waiting {s : State} {q u : Nat} {w : Nat × Nat × Nat × Nat × Nat} (h : (s.queue q).wait = some (u, w))
    (st : Nat) (res : Word) :
    s.endWait q st res = ((s.updQueue q (fun g => { g with wait := none })).finish q u st 0 res 0).pumpQ q := by
  unfold State.endWait
  rw [h]

theorem State.waitTimeout_due {s : State} {q u k n st t0 t : Nat} (h : (s.queue q).wait = some (u, k, n, st, t0, t)) (ht : t ≠ 0)
    (hdue : t0 + t ≤ s.tt.ticks) : s.waitTimeout q = s.endWait q 0x19 0 := by
  unfold State.waitTimeout
  rw [h]
  dsimp only
  rw [if_pos ⟨ht, hdue⟩]

/-- Settles O38, opcode by opcode. -/
theorem plainAdmission : Obligations.PlainAdmission := by
  refine ⟨fun s q e => ⟨fun h => ?nop, fun h => ?link, fun h => ⟨fun hplain => ?fence, fun i w haux hdq hw hwr hstn hup => ?store⟩⟩,
    fun s q e => ⟨fun h => ?wait, fun u k n st t0 t hheld hwait ht hdue => ?timeout⟩⟩
  case nop =>
    show s.act (fun s => s.nopAdmit q.val) = _
    rw [State.act_of_free h.1, State.nopAdmit, State.admitPlain_due h]
  case link =>
    show s.act (fun s => s.linkAdmit q.val) = _
    rw [State.act_of_free h.1, State.linkAdmit, State.admitPlain_due h]
  case fence =>
    show s.act (fun s => s.fenceAdmit q.val) = _
    rw [State.act_of_free h.1, State.fenceAdmit_eq, State.admitPlain_due h, fenceBody_plain hplain]
    rfl
  case store =>
    obtain ⟨hwins, hid, -, -⟩ := took_keeps s q.val e.uid
    rw [← hwins] at hw
    rw [← hid] at hstn
    rw [← portUp_took s q.val e.uid] at hup
    show s.act (fun s => s.fenceAdmit q.val) = _
    rw [State.act_of_free h.1, State.fenceAdmit_eq, State.admitPlain_due h, fenceBody_window haux hdq hw hwr hstn hup]
    rfl
  case wait =>
    obtain ⟨-, -, -, htt⟩ := took_keeps s q.val e.uid
    show s.act (fun s => s.waitAdmit q.val) = _
    rw [State.act_of_free h.1, State.waitAdmit, State.admitPlain_due h, htt]
  case timeout =>
    show s.act (fun s => s.waitTimeout q.val) = _
    rw [State.act_of_free hheld, State.waitTimeout_due (s := bare s) hwait ht hdue, State.endWait_waiting (s := bare s) hwait]

end Sys2Proof.Machine
end

section
/-! PROOFS. Admin commands: how an admitted command runs, ends, waits, or leaves its end to another unit (R322 to R329). -/

namespace Sys2Proof.Machine

open Sys2Proof.Safety

/-- A command that is ready is admitted: it holds its ring slot, has started, and runs. -/
theorem State.command_ready {s : State} {d : DqRef} {e : Ent} {op : Nat} {form : Cmd → Bool} (h : Ready s ⟨d, e⟩ op)
    (hform : form ⟨d, e⟩ = true) (moves : Bool) (body : State → Cmd → State × CRes) :
    (bare s).command d op form moves body = ((begun s ⟨d, e⟩).cmdRun ⟨d, e⟩ moves body).pumpQ (dqId d) := by
  obtain ⟨-, hold, hop, hbad, hdq, hon, hpark, hst, hadm, hear, hroom, hobj, hfree⟩ := h
  have hold' : ((bare s).queue (dqId d)).oldest = some e := hold
  have hdq' : ((bare s).queue (dqId d)).dq = true := hdq
  have hst' : ((bare s).queue (dqId d)).st = .active := hst
  have hadm' : (bare s).admissible (dqId d) e = true := hadm
  have hear' : ((bare s).queue (dqId d)).earlierStarted e.uid = true := hear
  have hroom' : (bare s).cmdRoom (dqId d) = true := hroom
  have hon' : (bare s).isOn domDSP = true := hon
  have hnone : ∀ a b : Nat, (a, b) ∈ (bare s).cmdObjs ⟨d, e⟩ → (a, b) ∉ (bare s).heldObjs := by
    have hobj' : ((bare s).cmdObjs ⟨d, e⟩).any (fun o => (bare s).heldObjs.contains o) = false := hobj
    simpa using hobj'
  have hpark' : s.pwr.parked ≠ 2 := hpark
  have hop' : e.opc = op := hop
  have hbad' : e.bad = none := hbad
  have hmay : (bare s).mayStartNow (dqId d) = true := by
    unfold State.mayStartNow
    dsimp only
    rw [if_pos hdq']
    exact decide_eq_true hfree
  unfold State.command
  dsimp only
  rw [hold']
  dsimp only
  rw [if_neg (by simpa [hop', hbad', hform, hdq', hon', hst', hadm', hear', hroom', hpark'] using hnone), if_neg (by simp [hmay])]
  rfl

/-! ### The slot and the shared checks -/

/-- The slot a command names is made Busy and no reason to refuse it is given. -/
theorem State.cmdSlot_of_slotIs {s : State} {c : Cmd} {sl : Option (Nat × Nat)} (h : SlotIs s c sl) :
    (begun s c).cmdSlot c = (sl, 0) := by
  unfold State.cmdSlot
  rcases h with ⟨hslot, rfl⟩ | ⟨i, t, hslot, hten, hfree, rfl⟩
  · rw [hslot]
  · rw [hslot, hten]
    dsimp only
    rw [if_neg (ne_true_of_eq_false hfree)]

/-- What becomes of a command whose body has run. -/
def State.cmdGoesOn (s1 : State) (c : Cmd) (sl : Option (Nat × Nat)) (r : State × CRes) : State :=
  match r.2 with
  | .wait k =>
    let w : CmdWait := { q := c.q, uid := c.e.uid, objs := s1.cmdObjs c, k := k, slot := sl }
    let jr : Bool := match k with | .value _ _ _ _ => false | _ => true
    ((if jr then r.1.cmdJrn c 0 else r.1).addWait w).waitsRun
  | .out => r.1.cmdJrn c 0
  | .done _ _ _ => (r.1.cmdJrn c r.2.why).cmdDone c sl r.2

/-- A command that passes the shared checks is left to its own meaning. -/
theorem State.cmdRun_eq {s : State} {c : Cmd} {moves : Bool} {sl : Option (Nat × Nat)} (hslot : s.cmdSlot c = (sl, 0))
    (hflags : dqEntryFail (c.e.w 0) = false) (hquiet : (moves && s.quiescing) = false)
    (hroom : (c.journalled && s.jFull) = false) (body : State → Cmd → State × CRes) :
    s.cmdRun c moves body = (slotted s sl).cmdGoesOn c sl (body (slotted s sl) c) := by
  unfold State.cmdRun
  dsimp only
  rw [hslot, hflags, hquiet]
  cases sl with
  | none =>
    dsimp only
    rw [if_neg (by decide), if_neg (by decide), if_neg (ne_true_of_eq_false hroom), if_neg (by decide)]
    rfl
  | some p =>
    dsimp only
    rw [if_neg (by decide), if_neg (by decide), if_neg (ne_true_of_eq_false hroom), if_neg (by decide)]
    rfl

theorem State.cmdRun_passes {s : State} {c : Cmd} {moves : Bool} {sl : Option (Nat × Nat)} (h : Passes s c moves)
    (hsl : SlotIs s c sl) (body : State → Cmd → State × CRes) :
    (begun s c).cmdRun c moves body = (slotted (begun s c) sl).cmdGoesOn c sl (body (slotted (begun s c) sl) c) := by
  obtain ⟨hflags, hquiet, hroom⟩ := h
  refine State.cmdRun_eq (State.cmdSlot_of_slotIs hsl) hflags ?_ ?_ body
  · cases moves with
    | false => rfl
    | true => exact hquiet rfl
  · cases hm : c.journalled with
    | false => rfl
    | true => exact hroom hm

/-- A command other than OD_READ, OD_WRITE and QUERY names no result slot. -/
theorem slotIs_none {s : State} {c : Cmd} (h1 : c.e.opc ≠ 0xB0) (h2 : c.e.opc ≠ 0xA0) (h3 : c.e.opc ≠ 0xA1) : SlotIs s c none := by
  left
  refine ⟨?_, rfl⟩
  unfold Cmd.slot
  dsimp only
  rw [if_neg h1, if_neg (by omega)]

/-! ### The three ways a command goes on -/

section
variable {s t : State} {d : DqRef} {e : Ent} {op : Nat} {form : Cmd → Bool} {moves : Bool} {sl : Option (Nat × Nat)}
  {body : State → Cmd → State × CRes}

/-- What an admitted command does, as one state. -/
theorem State.act_command (h : Ready s ⟨d, e⟩ op) (hform : form ⟨d, e⟩ = true) (hp : Passes s ⟨d, e⟩ moves)
    (hsl : SlotIs s ⟨d, e⟩ sl) (body : State → Cmd → State × CRes) :
    s.act (fun s => s.command d op form moves body) = ended s
      (((slotted (begun s ⟨d, e⟩) sl).cmdGoesOn ⟨d, e⟩ sl (body (slotted (begun s ⟨d, e⟩) sl) ⟨d, e⟩)).pumpQ (dqId d)) := by
  rw [State.act_of_free h.1, State.command_ready h hform, State.cmdRun_passes hp hsl]

theorem State.act_command_ends (h : Ready s ⟨d, e⟩ op) (hform : form ⟨d, e⟩ = true) (hp : Passes s ⟨d, e⟩ moves)
    (hsl : SlotIs s ⟨d, e⟩ sl) {info res : Nat} (hbody : body (slotted (begun s ⟨d, e⟩) sl) ⟨d, e⟩ = (t, .done 0 info res)) :
    s.act (fun s => s.command d op form moves body) = cmdEnds s ⟨d, e⟩ sl t 0 info res := by
  rw [State.act_command h hform hp hsl, hbody]
  rfl

theorem State.act_command_leaves (h : Ready s ⟨d, e⟩ op) (hform : form ⟨d, e⟩ = true) (hp : Passes s ⟨d, e⟩ moves)
    (hsl : SlotIs s ⟨d, e⟩ sl) (hbody : body (slotted (begun s ⟨d, e⟩) sl) ⟨d, e⟩ = (t, .out)) :
    s.act (fun s => s.command d op form moves body) = cmdLeaves s ⟨d, e⟩ t := by
  rw [State.act_command h hform hp hsl, hbody]
  rfl

/-- A command that waits for something other than a value is journalled at once. -/
theorem State.act_command_waits (h : Ready s ⟨d, e⟩ op) (hform : form ⟨d, e⟩ = true) (hp : Passes s ⟨d, e⟩ moves)
    (hsl : SlotIs s ⟨d, e⟩ none) {k : WaitK} (hk : ∀ ix sub n fa, k ≠ .value ix sub n fa)
    (hbody : body (begun s ⟨d, e⟩) ⟨d, e⟩ = (t, .wait k)) :
    s.act (fun s => s.command d op form moves body) = cmdWaits s ⟨d, e⟩ t k := by
  rw [State.act_command h hform hp hsl]
  show ended s ((State.cmdGoesOn (begun s ⟨d, e⟩) ⟨d, e⟩ none (body (begun s ⟨d, e⟩) ⟨d, e⟩)).pumpQ (dqId d)) = _
  rw [hbody]
  cases k with
  | value ix sub n fa => exact absurd rfl (hk ix sub n fa)
  | _ => rfl

end

end Sys2Proof.Machine
end

section
/-! PROOFS. SQ_CREATE and CR_CREATE (R72, R331, R332). -/

namespace Sys2Proof.Machine

open Sys2Proof.Safety

/-- A command that is ready and is none of the three that may name a result slot. -/
theorem slotIs_of_ready {s : State} {c : Cmd} {op : Nat} (h : Ready s c op) (hop : op ≠ 0xB0 ∧ op ≠ 0xA0 ∧ op ≠ 0xA1) :
    SlotIs s c none := by
  have hopc : c.e.opc = op := h.2.2.1
  rw [← hopc] at hop
  exact slotIs_none hop.1 hop.2.1 hop.2.2

/-- Settles O39: every check of the two creations passes, and the record is stored. -/
theorem createCommands : Obligations.CreateCommands := by
  intro s d e
  dsimp only
  refine fun hp => ⟨?queue, ?ring⟩
  case queue =>
    intro h cls prio xset lim limEn ring fa fh port hport mem m q
      hsched h14 h25 h45 h56 h5 hbase hpage hhead hword hln8 hln20 hauto hfig hnone hsome hdb hring hfree hgiven hplace hhplace hspan
      hheads hresv
    refine State.act_command_ends h rfl hp (slotIs_of_ready h (by decide)) ?_
    change State.sqCreate (begun s ⟨d, e⟩) ⟨d, e⟩ = _
    generalize begun s ⟨d, e⟩ = b at *
    generalize (⟨d, e⟩ : Cmd) = c at *
    unfold State.sqCreate
    dsimp only
    rw [hsched]
    dsimp only
    rw [if_neg (by simpa [h14, h25, h45, h56, h5, hpage, hword, hfig, hln8, hln20] using ⟨hbase, hhead, hauto⟩),
      if_neg ?bound, if_neg (by simp [hdb]), hring]
    case bound =>
      cases hten : c.ten with
      | none =>
        rw [hten] at hnone
        simpa using hnone rfl
      | some t =>
        obtain ⟨ha, ht, hl, hle, hrd, hwr, hcls, hmax, hclass⟩ := hsome (by simp [hten])
        have hcls' : ¬(cls ≠ 0 ∧ cls ≠ 2) := by omega
        rw [hten] at hmax hclass
        dsimp only
        rw [if_neg (by simp [ha, ht, hl, hle, hrd, hwr]; omega), if_neg (by omega), hclass]
        decide
    dsimp only
    generalize hid : @ite (Except Nat Nat) _ (_) _ _ = id
    have hok : id = .ok q := by
      rw [← hid]
      cases ha : fbit (c.w 2) 13 with
      | true => rw [if_pos rfl, hfree ha]
      | false =>
        obtain ⟨hq, hfresh⟩ := hgiven ha
        rw [if_neg (by decide), ← hq, if_neg (ne_true_of_eq_false hfresh)]
    rw [hok]
    dsimp only
    rw [hplace]
    dsimp only
    rw [hhplace]
    dsimp only
    rw [if_neg (by simp [hspan, hheads]), if_neg (by rintro ⟨h1, h2⟩; simp [hresv h1] at h2)]
    cases c.ten with
    | none => rfl
    | some t => rfl
  case ring =>
    intro h fa port mem r h12 h30 h43 h56 h13 h3 hbase hpage hlm4 hlm16 hsm hauto hnone hsome hdb hvec hvten hfree hgiven hplace hheads
    refine State.act_command_ends h rfl hp (slotIs_of_ready h (by decide)) ?_
    change State.crCreate (begun s ⟨d, e⟩) ⟨d, e⟩ = _
    generalize begun s ⟨d, e⟩ = b at *
    generalize (⟨d, e⟩ : Cmd) = c at *
    unfold State.crCreate
    dsimp only
    rw [if_neg (by simpa [h12, h30, h43, h56, h13, h3, hpage, hlm4, hlm16, hsm] using ⟨hbase, hauto⟩),
      if_neg ?bound, if_neg (by simp [hdb]), if_neg (by simp [hvec, hvten])]
    case bound =>
      cases hten : c.ten with
      | none =>
        rw [hten] at hnone
        simpa using hnone rfl
      | some t =>
        obtain ⟨ha, ht, hmax⟩ := hsome (by simp [hten])
        rw [hten] at hmax
        dsimp only
        rw [if_neg (by simp [ha, ht]), if_neg (by omega)]
        decide
    generalize hid : @ite (Except Nat Nat) _ (_) _ _ = id
    have hok : id = .ok r := by
      rw [← hid]
      cases ha : fbit (c.w 1) 11 with
      | true => rw [if_pos rfl, hfree ha]
      | false =>
        obtain ⟨hr, hfresh⟩ := hgiven ha
        rw [if_neg (by decide), ← hr, if_neg (ne_true_of_eq_false hfresh)]
    rw [hok]
    dsimp only
    rw [hplace]
    dsimp only
    rw [if_neg (ne_true_of_eq_false hheads)]

end Sys2Proof.Machine
end

section
/-! PROOFS. Commands on queues and rings (R224, R227 to R230, R236, R331 to R333). -/

namespace Sys2Proof.Machine

open Sys2Proof.Safety

theorem not_of_true {p : Bool} (h : p = true) : ¬(!p) = true := by
  rw [h]
  decide

/-- A field shifted right is the field above. -/
theorem fld_shiftRight (x : Word) (lo n k : Nat) (h : k ≤ n) : fld x lo n >>> k = fld x (lo + k) (n - k) := by
  refine Nat.eq_of_testBit_eq fun j => ?_
  rw [Nat.testBit_shiftRight, testBit_fld, testBit_fld, Nat.add_assoc]
  congr 1
  rw [decide_eq_decide]
  omega

/-- The short form names its queue when every bit beyond is 0. -/
theorem State.shortQ_ok {b : State} {c : Cmd} {q : Nat} (n : Nat) (hn : n ≤ 48) (h1 : c.w 1 = 0) (h13 : fld (c.w 0) 13 3 = 0)
    (hq : b.cmdQueue c (fld (c.w 0) 0 13) = some q) (hz : fld (c.w 0) (16 + n) (48 - n) = 0) : b.shortQ c 16 n = .ok q := by
  unfold State.shortQ
  dsimp only
  rw [Nat.sub_self, Nat.zero_add, fld_shiftRight _ _ _ _ hn, if_neg (by simp [h1, h13, hz]), hq]

section
variable {b : State} {c : Cmd} {q : Nat}

theorem State.sqDelete_ok (hq : b.shortQ c 16 0 = .ok q)
    (hst : (b.queue q).st = .disabled ∨ (b.queue q).st = .held ∨ (b.queue q).st = .error) :
    b.sqDelete c = (b.deleteQ q, .wait (.sqDelete q)) := by
  unfold State.sqDelete
  rw [hq]
  dsimp only
  rw [if_neg (by simpa [or_iff_not_imp_left] using hst)]

theorem State.sqDisable_ok (hq : b.shortQ c 16 1 = .ok q) (h1 : (b.queue q).st ≠ .held) (h2 : (b.queue q).st ≠ .error) (abort : Bool) :
    b.sqDisable c abort = ((b.updQueue q (fun g => { g with quiesced := false })).disableQ q abort, .wait (.sqDisable q)) := by
  unfold State.sqDisable
  rw [hq]
  dsimp only
  rw [if_neg (by simp [h1, h2])]

theorem State.sqDrain_ok (hq : b.shortQ c 16 0 = .ok q) (hst : (b.queue q).st = .active ∨ (b.queue q).st = .backed) :
    b.sqDrain c = (b.drainQ q, .wait (.sqDrain q)) := by
  unfold State.sqDrain
  rw [hq]
  dsimp only
  rw [if_neg (by simpa [or_iff_not_imp_left] using hst)]

theorem State.sqEnable_running (hq : b.shortQ c 16 24 = .ok q) (hst : (b.queue q).st = .active ∨ (b.queue q).st = .backed) :
    b.sqEnable c = ((b.scanReq q).pumpQ q, .done 0 0 0) := by
  unfold State.sqEnable
  rw [hq]
  dsimp only
  rw [if_pos hst]

theorem State.sqEnable_stopped (hq : b.shortQ c 16 24 = .ok q) (hst : (b.queue q).st = .disabled ∨ (b.queue q).st = .error) :
    b.sqEnable c = (if b.quiescing then b.enableQuiesced q else b.enableScan q, .done 0 0 0) := by
  unfold State.sqEnable
  rw [hq]
  dsimp only
  rw [if_neg (by rcases hst with h | h <;> simp [h]), if_neg (by rcases hst with h | h <;> simp [h]), if_pos hst]

/-- A HELD queue is freed of the port named, when that port holds it, is UP and has this epoch. -/
theorem State.sqEnable_held (hq : b.shortQ c 16 24 = .ok q) (hst : (b.queue q).st = .held) (hten : c.ten = none)
    (hin : (b.queue q).heldSet.contains (fld (c.w 0) 16 8) = true) (hup : (b.port (fld (c.w 0) 16 8)).up = true)
    (hepoch : (b.port (fld (c.w 0) 16 8)).epoch = fld (c.w 0) 24 16) :
    b.sqEnable c =
      (if ((b.queue q).heldSet.filter (· != fld (c.w 0) 16 8)).isEmpty then
         (if b.quiescing then
            (b.updQueue q (fun g => { g with heldSet := (b.queue q).heldSet.filter (· != fld (c.w 0) 16 8) })).enableQuiesced q
          else (b.updQueue q (fun g => { g with heldSet := (b.queue q).heldSet.filter (· != fld (c.w 0) 16 8) })).enableScan q)
       else b.updQueue q (fun g => { g with heldSet := (b.queue q).heldSet.filter (· != fld (c.w 0) 16 8) }),
       .done 0 ((b.queue q).heldSet.filter (· != fld (c.w 0) 16 8)).length 0) := by
  unfold State.sqEnable
  rw [hq]
  dsimp only
  rw [if_neg (by simp [hst]), if_pos hst, if_neg (by simp [hten]), if_pos ⟨hin, hup, hepoch⟩]

theorem State.crDelete_ok (h1 : c.w 1 = 0) (h13 : fld (c.w 0) 13 51 = 0) (hr : b.cmdRing c (fld (c.w 0) 0 13) = some q)
    (hb : b.boundQ q = []) (hs : (b.ring q).siding = []) :
    b.crDelete c = ({ b with rings := Tbl.del q b.rings }, .done 0 0 0) := by
  unfold State.crDelete
  rw [if_neg (by simp [h1, h13]), hr]
  dsimp only
  rw [hb, hs]
  rfl

end

/-- Settles O40, command by command. -/
theorem queueCommands : Obligations.QueueCommands := by
  intro s d e q
  dsimp only
  refine fun hp => ⟨fun h1 h13 hq => ⟨fun hz hst h => ?delete, fun hz hheld herr h => ⟨fun hf => ?disable, fun hf => ?abort⟩,
    fun hz hst h => ?drain, fun hz h => ⟨fun hst => ?running, fun hst => ?stopped, fun hst hten hin hup hepoch => ?held⟩⟩,
    fun h1 h13 hr hb hs h => ?ring, ?modify⟩
  case delete =>
    exact State.act_command_waits h rfl hp (slotIs_of_ready h (by decide)) (fun _ _ _ _ => by simp)
      (State.sqDelete_ok (State.shortQ_ok 0 (by decide) h1 h13 hq hz) hst)
  case disable =>
    exact State.act_command_waits (body := fun s c => s.sqDisable c false) h (by simpa using hf) hp
      (slotIs_of_ready h (by decide)) (fun _ _ _ _ => by simp) (State.sqDisable_ok (State.shortQ_ok 1 (by decide) h1 h13 hq hz) hheld herr false)
  case abort =>
    exact State.act_command_waits (body := fun s c => s.sqDisable c true) h hf hp
      (slotIs_of_ready h (by decide)) (fun _ _ _ _ => by simp) (State.sqDisable_ok (State.shortQ_ok 1 (by decide) h1 h13 hq hz) hheld herr true)
  case drain =>
    exact State.act_command_waits h rfl hp (slotIs_of_ready h (by decide)) (fun _ _ _ _ => by simp)
      (State.sqDrain_ok (State.shortQ_ok 0 (by decide) h1 h13 hq hz) hst)
  case running =>
    exact State.act_command_ends h rfl hp (slotIs_of_ready h (by decide))
      (State.sqEnable_running (State.shortQ_ok 24 (by decide) h1 h13 hq hz) hst)
  case stopped =>
    exact State.act_command_ends h rfl hp (slotIs_of_ready h (by decide))
      (State.sqEnable_stopped (State.shortQ_ok 24 (by decide) h1 h13 hq hz) hst)
  case held =>
    exact State.act_command_ends h rfl hp (slotIs_of_ready h (by decide))
      (State.sqEnable_held (State.shortQ_ok 24 (by decide) h1 h13 hq hz) hst hten hin hup hepoch)
  case ring =>
    exact State.act_command_ends h rfl hp (slotIs_of_ready h (by decide)) (State.crDelete_ok h1 h13 hr hb hs)
  case modify =>
    intro cls prio xset lim limEn r h hsched h13 h21 h1 h0 h40 h5 hrd hwr hten hq hfig hring hkeep hdis hresv
    refine State.act_command_waits h rfl hp (slotIs_of_ready h (by decide)) (fun _ _ _ _ => by simp) ?_
    generalize begun s ⟨d, e⟩ = b at *
    generalize (⟨d, e⟩ : Cmd) = c at *
    unfold State.sqModify
    dsimp only
    rw [hsched]
    dsimp only
    rw [if_neg (by simpa [h13, h21, h1, h0, h40, h5] using ⟨hrd, hwr⟩), if_neg ?fields, hq]
    case fields =>
      rintro ⟨hs, hne⟩
      exact hne (hten (by intro hn; simp [hn] at hs)).1
    simp only [Nat.add_zero, Nat.reduceAdd]
    have hbound : (if c.ten.isSome = true ∧ fbit (c.w 0) 16 = true then
        classBound (b.tenant (b.queue q).tenant) (if fbit (c.w 0) 16 = true then cls else (b.queue q).cls)
          (if fbit (c.w 0) 16 = true then prio else (b.queue q).prio) else 0) = 0 := by
      split
      · next hc => exact (hten (by intro hn; simp [hn] at hc)).2 hc.2
      · rfl
    have hr : (if fbit (c.w 0) 20 = true then b.ringAt (b.queue q).tenant (fld (c.w 2) 32 8) else some (b.queue q).ring) = some r := by
      cases hm : fbit (c.w 0) 20 with
      | true => rw [if_pos rfl, hring hm]
      | false => rw [if_neg (by decide), hkeep hm]
    rw [hbound, hr, if_neg (by decide)]
    have hlive : ¬(r ≠ (b.queue q).ring ∧ (b.queue q).st ≠ .disabled) := fun hx => hdis.elim hx.1 hx.2
    cases hold : Tbl.get q b.tt.resv with
    | none =>
      rw [hold] at hfig hresv
      dsimp only
      rw [if_neg ?fig, if_neg hlive, if_neg ?resv]
      case fig => exact not_of_true hfig
      case resv => exact fun hx => not_of_true (hresv hx.1) hx.2
      rfl
    | some o =>
      rw [hold] at hfig hresv
      dsimp only
      rw [if_neg ?fig, if_neg hlive, if_neg ?resv]
      case fig => exact not_of_true hfig
      case resv => exact fun hx => not_of_true (hresv hx.1) hx.2
      rfl

end Sys2Proof.Machine
end

section
/-! PROOFS. Windows and tenants as commands (R117, R334, R336). -/

namespace Sys2Proof.Machine

open Sys2Proof.Safety

theorem State.winUsers_ne_value (b : State) (k ix sub n fa : Nat) : b.winUsers k ≠ .value ix sub n fa := by
  unfold State.winUsers
  cases Tbl.get k b.wins <;> simp

theorem State.winClear_ok {b : State} {c : Cmd} (h1 : c.w 1 = 0) (h13 : fld (c.w 0) 13 51 = 0) (hk : fld (c.w 0) 0 13 < 4096)
    (hin : Tbl.has (fld (c.w 0) 0 13) b.wins = true) :
    b.winClear c = ({ b with wins := Tbl.del (fld (c.w 0) 0 13) b.wins }, .wait (b.winUsers (fld (c.w 0) 0 13))) := by
  unfold State.winClear
  dsimp only
  rw [if_neg (by simpa [h1, h13] using hk), if_neg (not_of_true hin)]

/-- Settles O41, command by command. -/
theorem windowAndTenantCommands : Obligations.WindowAndTenantCommands := by
  intro s d e
  dsimp only
  refine fun hp hw1 => ⟨?set, fun h h13 hk hin => ?clear, fun h h57 hsq hcr h29 h31 => ⟨?enable, ?disable⟩⟩
  case set =>
    intro h h35 h4 h5 hbase hsize hmin hmax hend hlo hhi hten hover
    refine State.act_command_waits h rfl hp (slotIs_of_ready h (by decide)) (State.winUsers_ne_value _ _) ?_
    generalize begun s ⟨d, e⟩ = b at *
    generalize (⟨d, e⟩ : Cmd) = c at *
    unfold State.winSet
    dsimp only
    rw [if_neg (by simp only [h35, h4, h5, hbase, hsize, ne_eq, not_true, false_or]; omega), if_neg (not_of_true hten),
      if_neg (ne_true_of_eq_false hover)]
  case clear =>
    have h1 : Cmd.w ⟨d, e⟩ 1 = 0 := hw1.resolve_right (by rw [h.2.2.1]; decide)
    exact State.act_command_waits h rfl hp (slotIs_of_ready h (by decide)) (State.winUsers_ne_value _ _)
      (State.winClear_ok h1 h13 hk hin)
  case enable =>
    intro h8 hqs hrs hdup
    have h1 : Cmd.w ⟨d, e⟩ 1 = 0 := hw1.resolve_right (by rw [h.2.2.1]; decide)
    refine State.act_command_ends h rfl hp (slotIs_of_ready h (by decide)) ?_
    change State.tenantSet (begun s ⟨d, e⟩) ⟨d, e⟩ = _
    generalize begun s ⟨d, e⟩ = b at *
    generalize (⟨d, e⟩ : Cmd) = c at *
    unfold State.tenantSet
    dsimp only
    rw [if_neg (by simp [h57, h1, h29, h31]; omega), if_neg (not_of_true h8), if_neg (by omega),
      if_neg (by rintro ⟨h56, hx⟩; exact ne_true_of_eq_false (hdup h56) hx)]
    cases (b.tenant (fld (c.w 0) 0 8)).enabled with
    | true => rfl
    | false => rfl
  case disable =>
    intro h8 hqs hrs hch
    have h1 : Cmd.w ⟨d, e⟩ 1 = 0 := hw1.resolve_right (by rw [h.2.2.1]; decide)
    refine State.act_command_ends h rfl hp (slotIs_of_ready h (by decide)) ?_
    change State.tenantSet (begun s ⟨d, e⟩) ⟨d, e⟩ = _
    generalize begun s ⟨d, e⟩ = b at *
    generalize (⟨d, e⟩ : Cmd) = c at *
    unfold State.tenantSet
    dsimp only
    rw [hqs, hrs, if_neg (by simp [h57, h1, h29, h31]; omega), if_pos (by simp [h8]), if_neg ?free]
    case free =>
      rintro (h | h | h)
      · exact absurd h (by decide)
      · exact absurd h (by decide)
      · exact ne_true_of_eq_false hch h

end Sys2Proof.Machine
end

section
/-! PROOFS. Gate lists and limiters as commands (R55 to R58, R62 to R64, R335). -/

namespace Sys2Proof.Machine

open Sys2Proof.Safety

/-! ### Limiters read after a write -/

theorem State.limiter_setLimiter_same (s : State) (i : Nat) (l : Limiter) : (s.setLimiter i l).limiter i = l :=
  Tbl.getD_put_self i l {} s.tt.lims

theorem State.limiter_setLimiter_other (s : State) {i k : Nat} (h : k ≠ i) (l : Limiter) :
    (s.setLimiter i l).limiter k = s.limiter k := by
  show (Tbl.get k (Tbl.put i l s.tt.lims)).getD {} = (Tbl.get k s.tt.lims).getD {}
  rw [Tbl.get_put_of_ne h]

/-- The actions of a command on a limiter, in their order. -/
theorem State.limAct_ok {s : State} {i : Nat} {zero fill adapt : Bool} (h : ¬(zero = true ∧ fill = true)) :
    (s.limAct i zero fill adapt).1 =
      s.setLimiter i
        (let l1 := if zero then (s.limiter i).zero s.tt.ticks s.T s.clk else s.limiter i
         let l2 := if fill then l1.fill else l1
         if adapt then l2.resetAdapt s.tt.ticks s.T else l2) := by
  unfold State.limAct
  rw [if_neg h]

/-- LIMITER_SET writes the configuration where it is asked to, acts, and answers the status before. -/
theorem State.limiterSet_write {b : State} {c : Cmd} (h16 : fld (c.w 0) 16 48 = 0)
    (hact : ¬(fbit (c.w 0) 13 = true ∧ fbit (c.w 0) 14 = true)) (h12 : fbit (c.w 0) 12 = true) (h60 : fld (c.w 1) 60 4 = 0)
    (hok : limCfgOk (mkWord [(0, 60, fld (c.w 1) 0 60)]) = true) :
    b.limiterSet c =
      (((b.setLimiter (fld (c.w 0) 0 12)
          ((b.limiter (fld (c.w 0) 0 12)).write (mkWord [(0, 60, fld (c.w 1) 0 60)]) b.tt.ticks b.T)).limAct (fld (c.w 0) 0 12)
          (fbit (c.w 0) 13) (fbit (c.w 0) 14) (fbit (c.w 0) 15)).1,
       .done 0 0 (b.limiter (fld (c.w 0) 0 12)).stat.toNat) := by
  unfold State.limiterSet
  dsimp only
  rw [if_neg (by simp [h16, h12, h60]; simpa using hact), if_pos h12, State.limWrite_ok hok]
  rfl

theorem State.limiterSet_act {b : State} {c : Cmd} (h16 : fld (c.w 0) 16 48 = 0)
    (hact : ¬(fbit (c.w 0) 13 = true ∧ fbit (c.w 0) 14 = true)) (h12 : fbit (c.w 0) 12 = false) (h1 : c.w 1 = 0) :
    b.limiterSet c =
      ((b.limAct (fld (c.w 0) 0 12) (fbit (c.w 0) 13) (fbit (c.w 0) 14) (fbit (c.w 0) 15)).1,
       .done 0 0 (b.limiter (fld (c.w 0) 0 12)).stat.toNat) := by
  unfold State.limiterSet
  dsimp only
  rw [if_neg (by simp [h16, h12, h1]; simpa using hact), if_neg (ne_true_of_eq_false h12)]
  rfl

/-! ### Gate lists -/

/-- A bank that is neither in force nor pending is read in. -/
theorem State.gateLoad_ok {b : State} {c : Cmd} (h3 : fld (c.w 0) 3 13 = 0) (h37 : fld (c.w 0) 37 27 = 0) (hn : 1 ≤ fld (c.w 0) 26 11)
    (hfit : fld (c.w 0) 16 10 + fld (c.w 0) 26 11 ≤ 1024) (hsrc : (c.w 1).toNat + 16 * fld (c.w 0) 26 11 ≤ 2 ^ 52) (h2 : c.w 2 = 0)
    (hw3 : c.w 3 = 0) (hact : ¬((b.gate (fld (c.w 0) 0 2)).inForce = true ∧ (b.gate (fld (c.w 0) 0 2)).active = fld (c.w 0) 2 1))
    (hpend : ∀ p, (b.gate (fld (c.w 0) 0 2)).pend = some p → p.1 ≠ fld (c.w 0) 2 1) :
    b.gateLoad c = (b.cmdBursts c true (rdLines (c.w 1).toNat (16 * fld (c.w 0) 26 11) 0) none false,
      .wait (.gate (fld (c.w 0) 0 2) (fld (c.w 0) 2 1) (fld (c.w 0) 16 10) (fld (c.w 0) 26 11) (c.w 1).toNat)) := by
  unfold State.gateLoad
  dsimp only
  rw [if_neg (by simp only [h3, h37, h2, hw3, ne_eq, not_true, false_or, or_false]; omega), if_neg ?free]
  case free =>
    cases hp : (b.gate (fld (c.w 0) 0 2)).pend with
    | none => simpa using hact
    | some p => simpa using ⟨fun hf => fun ha => hact ⟨hf, ha⟩, hpend p hp⟩

/-- The base time is two ticks away or more: the list takes effect at its boundary. -/
theorem State.gateActivate_onTime {b : State} {c : Cmd} {cyc : Nat} (h3 : fld (c.w 0) 3 61 = 0)
    (hpend : (b.gate (fld (c.w 0) 0 2)).pend = none)
    (hcyc : gateCycle ((b.gate (fld (c.w 0) 0 2)).banks.getD (fld (c.w 0) 2 1) []) 1024 0 = some cyc) (hmax : cyc ≤ 65536) {b0 : Nat}
    (hb0 : bndFrom b.tt.cfgLen (b.phasePs b.tt.cfgPhase) ((c.w 1).toNat * 1000) = b0) (hlate : b.tt.tickEnd + tickPs b.tt.cfgLen ≤ b0) :
    b.gateActivate c =
      (b.updGate (fld (c.w 0) 0 2) (fun g => { g with
         pend := some (fld (c.w 0) 2 1, tickNumIn b.tt.cfgLen (b.phasePs b.tt.cfgPhase) b0, b0 / 1000) }),
       .done 0 0 (b0 / 1000)) := by
  have hd : decide (b0 < b.tt.tickEnd + tickPs b.tt.cfgLen) = false := by simpa using hlate
  unfold State.gateActivate
  dsimp only
  rw [if_neg (by simp [h3]), if_neg (by simp [hpend]), hcyc]
  dsimp only
  rw [if_neg (by omega), hb0, hd]
  simp only [Bool.false_eq_true, false_and, if_false, Bool.or_false]
  rfl

/-- The base time is nearer, and the class is not STRICT: the first boundary two ticks away, whole cycles later. -/
theorem State.gateActivate_late {b : State} {c : Cmd} {cyc : Nat} (h3 : fld (c.w 0) 3 61 = 0)
    (hpend : (b.gate (fld (c.w 0) 0 2)).pend = none)
    (hcyc : gateCycle ((b.gate (fld (c.w 0) 0 2)).banks.getD (fld (c.w 0) 2 1) []) 1024 0 = some cyc) (hmax : cyc ≤ 65536) {b0 at_ : Nat}
    (hb0 : bndFrom b.tt.cfgLen (b.phasePs b.tt.cfgPhase) ((c.w 1).toNat * 1000) = b0) (hlate : b0 < b.tt.tickEnd + tickPs b.tt.cfgLen)
    (hstrict : (b.gate (fld (c.w 0) 0 2)).strict = false)
    (hat : b0 + ceilDiv (b.tt.tickEnd + tickPs b.tt.cfgLen - b0) (cyc * tickPs b.tt.cfgLen) * (cyc * tickPs b.tt.cfgLen) = at_) :
    b.gateActivate c =
      (State.raise0 (b.updGate (fld (c.w 0) 0 2) (fun g => { g with
         pend := some (fld (c.w 0) 2 1, tickNumIn b.tt.cfgLen (b.phasePs b.tt.cfgPhase) at_, at_ / 1000), late := true }))
         0x083 (fld (c.w 0) 0 2),
       .done 0 1 (at_ / 1000)) := by
  have hd : decide (b0 < b.tt.tickEnd + tickPs b.tt.cfgLen) = true := by simpa using hlate
  unfold State.gateActivate
  dsimp only
  rw [if_neg (by simp [h3]), if_neg (by simp [hpend]), hcyc]
  dsimp only
  rw [if_neg (by omega), hb0, hd, hstrict]
  simp only [Bool.false_eq_true, and_false, if_false, if_true, Bool.or_true, hat]
  rfl

/-- Settles O42, command by command. -/
theorem gateAndLimiterCommands : Obligations.GateAndLimiterCommands := by
  intro s d e
  dsimp only
  refine fun hp => ⟨fun h h3 h37 hn hfit hsrc h2 hw3 hact hpend => ?load, fun h cyc h3 hpend hcyc hmax => ⟨fun hb => ?onTime,
    fun hb hstrict => ?late⟩, fun h h16 hact hcfg hnone => ?limiter⟩
  case load =>
    exact State.act_command_waits h rfl hp (slotIs_of_ready h (by decide)) (fun _ _ _ _ => by simp)
      (State.gateLoad_ok h3 h37 hn hfit hsrc h2 hw3 hact hpend)
  case onTime =>
    exact State.act_command_ends h rfl hp (slotIs_of_ready h (by decide))
      (State.gateActivate_onTime h3 hpend hcyc hmax rfl hb)
  case late =>
    exact State.act_command_ends h rfl hp (slotIs_of_ready h (by decide))
      (State.gateActivate_late h3 hpend hcyc hmax rfl hb hstrict rfl)
  case limiter =>
    cases h12 : fbit (Cmd.w ⟨d, e⟩ 0) 12 with
    | true =>
      obtain ⟨h60, hok⟩ := hcfg h12
      refine ⟨_, State.act_command_ends h rfl hp (slotIs_of_ready h (by decide)) (State.limiterSet_write h16 hact h12 h60 hok), ?_⟩
      rw [State.limAct_ok hact]
      refine ⟨?_, fun k hk => ?_, rfl⟩
      · rw [State.limiter_setLimiter_same, State.limiter_setLimiter_same]
        rfl
      · rw [State.limiter_setLimiter_other _ hk, State.limiter_setLimiter_other _ hk]
        rfl
    | false =>
      refine ⟨_, State.act_command_ends h rfl hp (slotIs_of_ready h (by decide)) (State.limiterSet_act h16 hact h12 (hnone h12)), ?_⟩
      rw [State.limAct_ok hact]
      refine ⟨?_, fun k hk => ?_, rfl⟩
      · rw [State.limiter_setLimiter_same]
        rfl
      · rw [State.limiter_setLimiter_other _ hk]
        rfl

end Sys2Proof.Machine
end

section
/-! PROOFS. Transit commands (R189 to R193). -/

namespace Sys2Proof.Machine

open Sys2Proof.Safety

/-- A short Transit command names its window when every other bit is 0. -/
theorem Cmd.tWin_ok {c : Cmd} {lo n : Nat} (hn : n ≤ 64 - lo) (haux : c.e.aux = 0) (h3 : fld (c.w 0) 3 (lo - 3) = 0)
    (hz : fld (c.w 0) (lo + n) (64 - lo - n) = 0) (h1 : c.w 1 = 0) : c.tWin lo n = some (fld (c.w 0) 0 3) := by
  unfold Cmd.tWin
  dsimp only
  rw [fld_shiftRight _ _ _ _ hn, if_neg (by simp [haux, h3, hz, h1])]

section
variable {b : State} {c : Cmd} {i : Nat}

theorem State.tReady_ok (hon : b.isOn domTRN = true) (h1 : (b.tw i).ph ≠ .idle) (h2 : (b.tw i).ph ≠ .failed) : b.tReady i = 0 := by
  unfold State.tReady
  rw [if_neg (not_of_true hon), if_neg (by simp [h1, h2])]

theorem State.cmdOpen_ok {k : Nat} {p : TParam} (haux : c.e.aux = 0) (hp : tParse ((List.range 8).map c.w) = some (k, p))
    (hmode : b.mode.dataIssue = true) (hon : b.isOn domTRN = true) (hph : (b.tw k).ph = .idle) (hok : b.tParamOk p = true) :
    b.cmdOpen c = (b.tOpen k p (some c.key) false, .out) := by
  unfold State.cmdOpen
  rw [if_pos haux, hp]
  dsimp only
  rw [if_neg (by simp [State.transitMode, hmode]), if_neg (not_of_true hon), if_neg (by simp [hph]), if_neg (not_of_true hok)]

/-- TRANSIT_ADVANCE with ACTION 1 or 3, before the switch. -/
theorem State.advanceT_early (hwin : c.tWin 8 8 = some i) (hready : b.tReady i = 0)
    (hph : (b.tw i).ph = .open_ ∨ (b.tw i).ph = .sweep ∨ (b.tw i).ph = .orbit) :
    b.advanceT c 1 = ((b.updTw i (fun t => { t with proceed := true })).tPump i, .done 0 0 0) ∧
    b.advanceT c 3 = ((b.updTw i (fun t => { t with toMirror := true })).tPump i, .done 0 0 0) := by
  have hearly : ((b.tw i).ph == TPh.open_ || (b.tw i).ph == TPh.sweep || (b.tw i).ph == TPh.orbit) = true := by
    rcases hph with h | h | h <;> rw [h] <;> decide
  constructor
  · unfold State.advanceT
    rw [hwin]
    dsimp only
    rw [if_neg (by decide), hready, if_neg (by decide), if_neg (by decide), hearly]
    rfl
  · unfold State.advanceT
    rw [hwin]
    dsimp only
    rw [if_neg (by decide), hready, if_neg (by decide), if_neg (by decide), hearly]
    rfl

theorem State.advanceT_recall (hwin : c.tWin 8 8 = some i) (hready : b.tReady i = 0) (hmem : (b.tw i).p.mem = true) :
    b.advanceT c 2 = ((b.updTw i (fun t => { t with recalled := true })).tPump i, .done 0 0 0) := by
  unfold State.advanceT
  rw [hwin]
  dsimp only
  rw [if_neg (by decide), hready, if_neg (by decide), if_pos rfl, if_neg (not_of_true hmem)]

theorem State.conjoinT_ok (hwin : c.tWin 8 4 = some i) (hready : b.tReady i = 0) (hnone : (b.tw i).conjoin = none) :
    b.conjoinT c = ((b.updTw i (fun t => { t with
      conjoin := some (c.q, c.e.uid, if fld (c.w 0) 8 4 = 0 then 4 else fld (c.w 0) 8 4) })).tPump i, .out) := by
  unfold State.conjoinT
  rw [hwin]
  dsimp only
  rw [hready, if_neg (by decide), if_neg (by simp [hnone])]

theorem State.abortT_ok (hwin : c.tWin 3 0 = some i) (hon : b.isOn domTRN = true) (hph : (b.tw i).ph ≠ .idle)
    (hnone : (b.tw i).abortCmd = none) : b.abortT c = (b.tAbort i (some c.key), .out) := by
  unfold State.abortT
  rw [hwin]
  dsimp only
  rw [if_neg (not_of_true hon), if_neg hph, if_neg (by simp [hnone])]

end

/-- Settles O43, command by command. -/
theorem transitCommands : Obligations.TransitCommands := by
  intro s d e
  dsimp only
  refine fun hon haux => ⟨fun hp => ⟨fun h k p hparse hmode hph hok => ?open_, fun h1 h3 hidle hfailed =>
    ⟨fun hz h => ⟨fun ha hph => ?proceed, fun ha hph => ?mirror, fun ha hmem => ?confirmed⟩, fun hz h hnone => ?conjoin⟩⟩,
    fun hp h1 h3 h hidle hnone => ?abort⟩
  case open_ =>
    exact State.act_command_leaves h rfl hp (slotIs_of_ready h (by decide)) (State.cmdOpen_ok haux hparse hmode hon hph hok)
  case proceed =>
    have hwin := Cmd.tWin_ok (c := ⟨d, e⟩) (lo := 8) (n := 8) (by decide) haux h3 hz h1
    refine State.act_command_ends (body := fun s c => s.advanceT c (fld (c.w 0) 8 8)) h (by simp [ha]) hp
      (slotIs_of_ready h (by decide)) ?_
    show State.advanceT _ _ (fld (Cmd.w ⟨d, e⟩ 0) 8 8) = _
    rw [ha]
    exact (State.advanceT_early hwin (State.tReady_ok hon hidle hfailed) hph).1
  case mirror =>
    have hwin := Cmd.tWin_ok (c := ⟨d, e⟩) (lo := 8) (n := 8) (by decide) haux h3 hz h1
    exact State.act_command_ends (body := fun s c => s.advanceT c 3) h (by simp [ha]) hp
      (slotIs_of_ready h (by decide)) (State.advanceT_early hwin (State.tReady_ok hon hidle hfailed) hph).2
  case confirmed =>
    have hwin := Cmd.tWin_ok (c := ⟨d, e⟩) (lo := 8) (n := 8) (by decide) haux h3 hz h1
    exact State.act_command_ends (body := fun s c => s.advanceT c 2) h (by simp [ha]) hp
      (slotIs_of_ready h (by decide)) (State.advanceT_recall hwin (State.tReady_ok hon hidle hfailed) hmem)
  case conjoin =>
    have hwin := Cmd.tWin_ok (c := ⟨d, e⟩) (lo := 8) (n := 4) (by decide) haux h3 hz h1
    exact State.act_command_leaves h rfl hp (slotIs_of_ready h (by decide))
      (State.conjoinT_ok hwin (State.tReady_ok hon hidle hfailed) hnone)
  case abort =>
    have hwin := Cmd.tWin_ok (c := ⟨d, e⟩) (lo := 3) (n := 0) (by decide) haux (Nat.mod_one _) h3 h1
    exact State.act_command_leaves h rfl hp (slotIs_of_ready h (by decide)) (State.abortT_ok hwin hon hidle hnone)

end Sys2Proof.Machine
end

section
/-! PROOFS. The dictionary, Engineering Services and QUERY as commands (R270, R271, R337, R338). -/

namespace Sys2Proof.Machine

open Sys2Proof.Safety

section
variable {s t : State} {d : DqRef} {e : Ent} {op : Nat} {form : Cmd → Bool} {moves : Bool} {sl : Option (Nat × Nat)}
  {body : State → Cmd → State × CRes}

/-- A command that waits to store its value in a buffer; OD_READ is not journalled. -/
theorem State.act_command_stores (h : Ready s ⟨d, e⟩ 0xA0) (hform : form ⟨d, e⟩ = true) (hp : Passes s ⟨d, e⟩ moves)
    (hsl : SlotIs s ⟨d, e⟩ sl) {n : Nat} (hbody : body (slotted (begun s ⟨d, e⟩) sl) ⟨d, e⟩ = (t, .wait (.store n))) :
    s.act (fun s => s.command d 0xA0 form moves body) = ended s
      ((t.addWait { q := dqId d, uid := e.uid, objs := (slotted (begun s ⟨d, e⟩) sl).cmdObjs ⟨d, e⟩, k := .store n,
                    slot := sl }).waitsRun.pumpQ (dqId d)) := by
  have hjrn : t.cmdJrn ⟨d, e⟩ 0 = t := by
    have hopc : e.opc = 0xA0 := h.2.2.1
    unfold State.cmdJrn Cmd.journalled
    dsimp only
    rw [hopc]
    rfl
  rw [State.act_command h hform hp hsl, hbody]
  show ended s (((t.cmdJrn ⟨d, e⟩ 0).addWait _).waitsRun.pumpQ _) = _
  rw [hjrn]
  rfl

/-- A command that waits for the value in a buffer: it is journalled when the value is written. -/
theorem State.act_command_value (h : Ready s ⟨d, e⟩ op) (hform : form ⟨d, e⟩ = true) (hp : Passes s ⟨d, e⟩ moves)
    (hsl : SlotIs s ⟨d, e⟩ sl) {ix sub n fa : Nat}
    (hbody : body (slotted (begun s ⟨d, e⟩) sl) ⟨d, e⟩ = (t, .wait (.value ix sub n fa))) :
    s.act (fun s => s.command d op form moves body) = ended s
      ((t.addWait { q := dqId d, uid := e.uid, objs := (slotted (begun s ⟨d, e⟩) sl).cmdObjs ⟨d, e⟩, k := .value ix sub n fa,
                    slot := sl }).waitsRun.pumpQ (dqId d)) := by
  rw [State.act_command h hform hp hsl, hbody]
  rfl

end

/-! ### OD_READ and OD_WRITE -/

section
variable {b t : State} {c : Cmd} {v n : Nat}

theorem State.cmdOdRead_short (hbad : odHeadBad c = false) (h24 : fld (c.w 0) 24 9 = 0) (h1 : c.w 1 = 0)
    (hr : b.odRead (.dq c.d) (fld (c.w 0) 0 16) (fld (c.w 0) 16 8) = (t, 0, v, n)) (hn : n ≤ 8) (h2 : c.w 2 = 0) :
    b.cmdOdRead c = (t, .done 0 0 v) := by
  unfold State.cmdOdRead
  dsimp only
  rw [if_neg (by simp [hbad, h24, h1]), hr]
  dsimp only
  rw [if_neg (by decide), if_pos hn, if_neg (by simp [h2])]

theorem State.cmdOdRead_long (hbad : odHeadBad c = false) (h24 : fld (c.w 0) 24 9 = 0) (h1 : c.w 1 = 0)
    (hr : b.odRead (.dq c.d) (fld (c.w 0) 0 16) (fld (c.w 0) 16 8) = (t, 0, v, n)) (hn : 8 < n) (h2 : c.w 2 ≠ 0)
    {fa : Nat} {port : Option Nat} {mem : Bool} (hbuf : b.cmdBuf c (c.w 2).toNat n false true = .ok (fa, port, mem)) :
    b.cmdOdRead c = (t.cmdBursts c false (wrRange fa (leBytes n v)) port mem, .wait (.store n)) := by
  unfold State.cmdOdRead
  dsimp only
  rw [if_neg (by simp [hbad, h24, h1]), hr]
  dsimp only
  rw [if_neg (by decide), if_neg (by omega), if_neg h2, hbuf]

theorem State.cmdOdWrite_short (hbad : odHeadBad c = false) (h1 : 1 ≤ fld (c.w 0) 24 9) (h8 : fld (c.w 0) 24 9 ≤ 8) (h2 : c.w 2 = 0)
    (hv : (c.w 1).toNat < 2 ^ (8 * fld (c.w 0) 24 9))
    (hr : b.odWrite (.dq c.d) (fld (c.w 0) 0 16) (fld (c.w 0) 16 8) (c.w 1).toNat (fld (c.w 0) 24 9) = (t, 0, v)) :
    b.cmdOdWrite c = (t, .done 0 0 v) := by
  unfold State.cmdOdWrite
  dsimp only
  rw [if_neg (by simp only [hbad, Bool.false_eq_true, false_or]; omega), if_pos h8, if_neg ?value, hr]
  · rfl
  case value =>
    rintro (h | h)
    · exact h h2
    · omega

theorem State.cmdOdWrite_long (hbad : odHeadBad c = false) (h8 : 8 < fld (c.w 0) 24 9) (h256 : fld (c.w 0) 24 9 ≤ 256) (h1 : c.w 1 = 0)
    (h2 : c.w 2 ≠ 0) {fa : Nat} {port : Option Nat} {mem : Bool}
    (hbuf : b.cmdBuf c (c.w 2).toNat (fld (c.w 0) 24 9) true false = .ok (fa, port, mem)) :
    b.cmdOdWrite c = (b.cmdBursts c true (rdLines fa (fld (c.w 0) 24 9) 0) port mem,
      .wait (.value (fld (c.w 0) 0 16) (fld (c.w 0) 16 8) (fld (c.w 0) 24 9) fa)) := by
  unfold State.cmdOdWrite
  dsimp only
  rw [if_neg (by simp only [hbad, Bool.false_eq_true, false_or]; omega), if_neg (by omega), if_neg (fun h => h.elim (fun h => h h1) h2), hbuf]

/-! ### BG_SCHEDULE -/

theorem State.cmdBgStart_ok (haux : c.e.aux = 0) (h4 : fld (c.w 0) 4 4 = 1) (hmode : b.mode.grants = true) (hon : b.isOn domBGS = true)
    (ht : b.bgStart ((List.range 8).map c.w) = some t) : b.cmdBgStart c = (t, .done 0 0 0) := by
  unfold State.cmdBgStart
  rw [if_neg (by simp [haux, h4]), if_neg (by simp [State.bgMode, hmode]), if_neg (not_of_true hon), ht]

theorem State.cmdBgStop_ok (haux : c.e.aux = 0) (hon : b.isOn domBGS = true)
    (ht : b.bgStop ((List.range 8).map c.w) c.key = some t) : b.cmdBgStop c = (t, .out) := by
  unfold State.cmdBgStop
  rw [if_neg (by simp [haux]), if_neg (not_of_true hon), ht]

/-! ### QUERY -/

/-- What QUERY answers about a ring. -/
def queryRing (g : Ring) : Nat :=
  (mkWord [(0, 16, g.wr), (16, 1, b2n g.wrWrap), (17, 1, b2n g.full), (18, 1, b2n g.sided),
           (32, 16, min 65535 g.siding.length)]).toNat

theorem Cmd.query_fields {c : Cmd} (h4 : fld (c.w 0) 4 12 = 0) (h29 : fld (c.w 0) 29 3 = 0) (h37 : fld (c.w 0) 37 27 = 0) (h1 : c.w 1 = 0) :
    ¬(fld (c.w 0) 4 12 ≠ 0 ∨ fld (c.w 0) 29 3 ≠ 0 ∨ fld (c.w 0) 37 27 ≠ 0 ∨ c.w 1 ≠ 0) := by
  simp [h4, h29, h37, h1]

section
variable (hz : ¬(fld (c.w 0) 4 12 ≠ 0 ∨ fld (c.w 0) 29 3 ≠ 0 ∨ fld (c.w 0) 37 27 ≠ 0 ∨ c.w 1 ≠ 0))
include hz

theorem State.cmdQuery_queue {q : Nat} (hw : fld (c.w 0) 0 4 = 1) (hq : b.cmdQueue c (fld (c.w 0) 16 13) = some q) :
    b.cmdQuery c = (b.hwNow q, .done 0 0 (queryQ (b.queue q) (b.queue q).st.code)) := by
  unfold State.cmdQuery
  dsimp only
  rw [if_neg hz, hw, if_pos rfl, hq]

theorem State.cmdQuery_ring {r : Nat} (hw : fld (c.w 0) 0 4 = 2) (hr : b.cmdRing c (fld (c.w 0) 16 13) = some r) :
    b.cmdQuery c = (b, .done 0 0 (queryRing (b.ring r))) := by
  unfold State.cmdQuery
  dsimp only
  rw [if_neg hz, hw, if_neg (by decide), if_pos rfl, hr]
  rfl

theorem State.cmdQuery_tenant (hw : fld (c.w 0) 0 4 = 3)
    (hten : c.ten = some (fld (c.w 0) 16 13) ∨ (c.ten = none ∧ fld (c.w 0) 16 13 < 256)) :
    b.cmdQuery c = (b, .done 0 0 (b.tenStatus (fld (c.w 0) 16 13)).toNat) := by
  unfold State.cmdQuery
  dsimp only
  rw [if_neg hz, hw, if_neg (by decide), if_neg (by decide), if_pos rfl]
  rcases hten with h | ⟨h, hid⟩
  · rw [h]
    dsimp only
    rw [if_pos rfl]
  · rw [h]
    dsimp only
    rw [if_neg (by omega)]

theorem State.cmdQuery_own (hw : fld (c.w 0) 0 4 = 4) :
    b.cmdQuery c = (b.hwNow c.q, .done 0 0 (queryQ (b.queue c.q) (b.dqState c.q))) := by
  unfold State.cmdQuery
  dsimp only
  rw [if_neg hz, hw, if_neg (by decide), if_neg (by decide), if_neg (by decide), if_pos rfl]

end
end

/-- Settles O44, command by command. -/
theorem serviceCommands : Obligations.ServiceCommands := by
  intro s d e sl
  dsimp only
  refine fun hsl => ⟨fun hp => ⟨fun h hbad h24 h1 t v n hr => ⟨fun hn h2 => ?readShort, fun hn h2 fa port mem hbuf => ?readLong⟩,
    fun h hbad => ⟨fun hn h8 h2 hv t v hr => ?writeShort, fun h8 h256 h1 h2 fa port mem hbuf => ?writeLong⟩,
    fun h h4 haux hon t ht => ?stop, fun h h4 h29 h37 h1 => ⟨fun hw q hq => ?queue, fun hw r hr => ?ring, fun hw hten => ?tenant,
      fun hw => ?own⟩⟩, fun hp h h4 haux hmode hon t ht => ?start⟩
  case readShort => exact State.act_command_ends h rfl hp hsl (State.cmdOdRead_short hbad h24 h1 hr hn h2)
  case readLong => exact State.act_command_stores h rfl hp hsl (State.cmdOdRead_long hbad h24 h1 hr hn h2 hbuf)
  case writeShort => exact State.act_command_ends h rfl hp hsl (State.cmdOdWrite_short hbad hn h8 h2 hv hr)
  case writeLong => exact State.act_command_value h rfl hp hsl (State.cmdOdWrite_long hbad h8 h256 h1 h2 hbuf)
  case stop =>
    exact State.act_command_leaves h (by simp [h4]) hp hsl (State.cmdBgStop_ok haux hon ht)
  case queue =>
    exact State.act_command_ends h rfl hp hsl (State.cmdQuery_queue (Cmd.query_fields h4 h29 h37 h1) hw hq)
  case ring =>
    exact State.act_command_ends h rfl hp hsl (State.cmdQuery_ring (Cmd.query_fields h4 h29 h37 h1) hw hr)
  case tenant =>
    exact State.act_command_ends h rfl hp hsl (State.cmdQuery_tenant (Cmd.query_fields h4 h29 h37 h1) hw hten)
  case own =>
    exact State.act_command_ends h rfl hp hsl (State.cmdQuery_own (Cmd.query_fields h4 h29 h37 h1) hw)
  case start =>
    have hsl0 : sl = none := by
      rcases hsl with ⟨-, hn⟩ | ⟨i, -, hi, -⟩
      · exact hn
      · rcases (slotIs_of_ready h (by decide) : SlotIs s ⟨d, e⟩ none) with ⟨hn, -⟩ | ⟨_, _, -, -, -, hx⟩
        · rw [hn] at hi
          exact absurd hi (by simp)
        · exact absurd hx (by simp)
    subst hsl0
    exact State.act_command_ends h (by simp [h4]) hp hsl (State.cmdBgStart_ok haux h4 hmode hon ht)

end Sys2Proof.Machine
end

section
/-! PROOFS. Grants and issues of bursts (R22, R41 to R47, R84). -/

namespace Sys2Proof.Machine

open Sys2Proof.Safety

/-- The burst next in the order of service is debited and granted. -/
theorem State.grant_next {s : State} {id n : Nat} {p : Pay} {x : Burst} (hx : s.bursts.find? (fun b => b.id == id) = some x)
    (hport : s.portUp x.port = true) (hmay : s.mayStart x = true) (hg : s.grantable x = some (n, p)) (hdst : s.dstLater x = false)
    (hpick : (s.pick n x.rd).map (fun y => y.1.id) = some id) :
    s.grant id =
      State.granted1 { (s.debit x n p).unwait id with
        granted := ((s.debit x n p).unwait id).granted ++ [{ x with xa := n, rs := p == .share }] } x := by
  unfold State.grant
  rw [hx]
  dsimp only
  rw [if_neg (not_of_true hport), if_neg (not_of_true hmay), hg]
  dsimp only
  rw [if_neg (ne_true_of_eq_false hdst), if_pos hpick]

/-- A granted burst whose turn has come leaves under the tags named. -/
theorem State.issue_turn {s : State} {id : Nat} {tags : List Nat} {x : Burst} (hx : s.granted.find? (fun b => b.id == id) = some x)
    (hmay : s.mayStart x = true) (hcan : s.canIssue x tags = true) (hon : s.isOn (domXa x.xa) = true) (hmode : s.burstMode x = true)
    (hturn : s.turn x = true) :
    s.issue id tags =
      ((((x.lines.zip tags).foldl (fun (u : State) l => u.issueLine { x with tenant := s.burstTenant x } l.1 l.2)
        ((s.ungrant x).served x)).meterBurst x).issued0 x).injAct x.mover (some x.xa) (s.bankEvent x) x.ctx := by
  unfold State.issue
  rw [hx]
  dsimp only
  rw [if_neg (by simp [hcan, hon, hmode, hturn]), if_neg (not_of_true hmay)]

/-- Settles O45: the conditions of a grant and of an issue are met, and each has its effect. -/
theorem grantAndIssue : Obligations.GrantAndIssue := by
  refine fun s id n p x tags hheld hmay => ⟨fun hx hport hg hdst hpick => ?grant, fun hx hcan hon hmode hturn => ?issue⟩
  case grant =>
    show s.run (fun s => s.grant id) = _
    rw [State.run_of_free hheld, State.grant_next (s := bare s) hx hport hmay hg hdst hpick]
  case issue =>
    show s.run (fun s => s.issue id tags) = _
    rw [State.run_of_free hheld, State.issue_turn (s := bare s) hx hmay hcan hon hmode hturn]
    rfl

/-! ### Responses (R377) -/

/-- A completion that answers no outstanding write and no quarantined tag is discarded with kind 0x03. -/
theorem State.writeCompletion_stray {s : State} (h : Live s) {n : Fin 8} {info : BitVec 18} (hhold : bit info.toNat 17 = false)
    (ht : s.txns.find? (fun t => t.xa == n.val && t.rd == false && t.tag == bits info.toNat 0 13) = none)
    (hq : s.quar.find? (fun t => t.xa == n.val && t.rd == false && t.tag == bits info.toNat 0 13) = none) :
    exec (.writeCompletion n info) s = ran s ((bare s).raise (0x040 + n.val) 3 0 0xFFFF) := by
  have hm : ¬((bare s).mode = .safe ∨ (bare s).mode = .off) := by simp [bare, h.2.1, h.2.2]
  have ht' : (bare s).txns.find? (fun t => t.xa == n.val && t.rd == false && t.tag == bits info.toNat 0 13) = none := ht
  have hq' : (bare s).quar.find? (fun t => t.xa == n.val && t.rd == false && t.tag == bits info.toNat 0 13) = none := hq
  show s.run (fun s => s.writeComp n.val info) = _
  rw [State.run_of_free h.1]
  unfold State.writeComp State.response State.strayResponse
  dsimp only
  rw [if_neg (ne_true_of_eq_false hhold), ht']
  dsimp only
  rw [if_neg hm, hq']

theorem State.txns_done (s t : State) : (s.done t).txns = t.txns := by
  obtain ⟨h, i, heq, -⟩ := samplingChangesOnlyMarks t
  unfold State.done
  rw [heq]

/-- A write of no owner, outstanding under tag 0 of attachment 0. -/
def soleWrite : Txn := { xa := 0, rd := false, tag := 0, op := { line := 0 }, own := ⟨.work, 0, 0⟩, issued := 0, tmo := 0, port := none, lim := none, ctx := 0, cls := 0 }

/-- A Station in FACTORY_TEST with one write outstanding. -/
def soleWriteState : State :=
  { State.reset with held := false, mode := .factoryTest, txns := [soleWrite] }

/-- Refutes O46: bit 12 of a completion is a bit of its tag, and a completion in which it is 1 does not answer the write
under the tag of the 12 bits below. -/
theorem not_responsesAndLosses : ¬ Obligations.ResponsesAndLosses := by
  intro h
  have hlive : Live soleWriteState := by decide
  have hends := (h soleWriteState 0 0x1000 0 soleWrite ⟨0, false, 0, 0, 0, 0⟩ 0 false hlive).2.1 (by decide) rfl
  rw [State.writeCompletion_stray hlive (by decide) (by decide) (by decide)] at hends
  have hw : (bare soleWriteState).works = [] := rfl
  rw [ran, ran, stillMachineStaysStill _ _ (State.still_of_factoryTest rfl rfl rfl rfl) hw,
    stillMachineStaysStill _ _ (State.still_of_factoryTest rfl rfl rfl rfl) hw] at hends
  have htxns := congrArg State.txns (Host.Outcome.next.inj hends)
  rw [State.txns_done, State.txns_done] at htxns
  exact absurd (congrArg List.length htxns) (by decide)

end Sys2Proof.Machine
end

section
/-! PROOFS. Port reports, interrupt messages, tick boundaries and the time input (R36 to R40, R48, R102, R233, R393). -/

namespace Sys2Proof.Machine

open Sys2Proof.Safety

/-! ### Ports and interrupts -/

theorem State.portReport_changed {s : State} {p ep : Nat} {up : Bool} (h : ¬((s.port p).up = up ∧ (s.port p).epoch = ep)) :
    s.portReport p up ep =
      if up = true ∨ s.mode = .safe ∨ s.mode = .off ∨ (!s.isOn domQM) = true then
        { s with ports := Tbl.put p { up := up, epoch := ep } s.ports }
      else State.portDown { s with ports := Tbl.put p { up := up, epoch := ep } s.ports } p := by
  unfold State.portReport
  dsimp only
  rw [if_neg h]

/-- A due message that no other precedes is sent, HOLDOFF after the vector's last one. -/
theorem State.irqSend_first {s : State} {v : Nat} (hdue : (s.vec v).due = true) (hmask : (s.vec v).mask = false)
    (hm : s.mode ≠ .safe) (hoff : s.mode ≠ .off)
    (hfirst : ∀ k y, (k, y) ∈ s.vecs → y.due = true → y.mask = false → (s.vec v).sendAt ≤ y.sendAt) :
    ((s.vec v).last = none → s.irqSend v =
      (s.updVec v (fun y => { y with due := false, sent := (y.sent + 1) % 2 ^ 32, last := some s.clk })).emit
        (.irq v (s.vec v).tenant)) ∧
    (∀ t, (s.vec v).last = some t → s.irqSend v =
      ((s.reach (t + (s.vec v).hold)).updVec v (fun y => { y with
        due := false, sent := (y.sent + 1) % 2 ^ 32, last := some (s.reach (t + (s.vec v).hold)).clk })).emit
        (.irq v (s.vec v).tenant)) := by
  have hnone : (Tbl.vals s.vecs).any (fun y => y.due && !y.mask && decide (y.sendAt < (s.vec v).sendAt)) = false := by
    rw [List.any_eq_false]
    intro y hy hlt
    obtain ⟨⟨k, y'⟩, hin, rfl⟩ := List.mem_map.mp hy
    simp only [Bool.and_eq_true, Bool.not_eq_true', decide_eq_true_eq] at hlt
    obtain ⟨⟨hd, hk⟩, hlt⟩ := hlt
    exact absurd (hfirst k y' hin hd hk) (by omega)
  have hguard : ¬((!(s.vec v).due) = true ∨ (s.vec v).mask = true ∨ s.mode = .safe ∨ s.mode = .off ∨
      (Tbl.vals s.vecs).any (fun y => y.due && !y.mask && decide (y.sendAt < (s.vec v).sendAt)) = true) := by
    simp [hdue, hmask, hm, hoff, hnone]
  constructor
  · intro hlast
    unfold State.irqSend
    dsimp only
    rw [if_neg hguard, hlast]
  · intro t hlast
    unfold State.irqSend
    dsimp only
    rw [if_neg hguard, hlast]

/-- Settles O47: reports that change something, and a due message that no other precedes. -/
theorem portsAndInterrupts : Obligations.PortsAndInterrupts := by
  refine fun s p up ep v => ⟨fun hheld hne => ⟨fun hup => ?up, fun hup hm hoff hon => ?down⟩, fun hlive hdue hmask hfirst => ?irq⟩
  case up =>
    show s.run (fun s => s.portReport p.toNat up ep.toNat) = _
    rw [State.run_of_free hheld, State.portReport_changed (s := bare s) hne, if_pos (.inl hup)]
    rfl
  case down =>
    have hguard : ¬(up = true ∨ (bare s).mode = .safe ∨ (bare s).mode = .off ∨ (!(bare s).isOn domQM) = true) := by
      rintro (h | h | h | h)
      · rw [hup] at h
        exact absurd h (by decide)
      · exact hm h
      · exact hoff h
      · exact not_of_true hon h
    show s.run (fun s => s.portReport p.toNat up ep.toNat) = _
    rw [State.run_of_free hheld, State.portReport_changed (s := bare s) hne, if_neg hguard]
    rfl
  case irq =>
    obtain ⟨hnone, hsome⟩ := State.irqSend_first (s := bare s) (v := v.val) hdue hmask hlive.2.1 hlive.2.2 hfirst
    show s.act (fun s => s.irqSend v.val) = _
    rw [State.act_of_free hlive.1]
    cases hlast : (s.vec v.val).last with
    | none => rw [hnone hlast]; rfl
    | some t => rw [hsome t hlast]; rfl

/-! ### Tick boundaries -/

theorem reduceC_small {c T : Int} (h1 : -T < 2 * c) (h2 : 2 * c ≤ T) : reduceC c T = c := by
  unfold reduceC
  rw [if_neg (by omega), if_neg (by omega)]

/-- The next tick, where no slew, step or change of length is under way. -/
theorem State.turnTick_plain {s : State} (hslew : s.tt.slew = 0) (hstep : s.tt.stepTo = none) (hline : s.stn.step = none)
    (hls : s.stn.slew = 0) (htr : s.tt.transitional = false) (hlen : s.tt.cfgLen = s.tt.len) (hphase : s.tt.cfgPhase = s.tt.phase)
    (hc1 : -(tickPs s.tt.len : Int) < 2 * s.stn.corr) (hc2 : 2 * s.stn.corr ≤ (tickPs s.tt.len : Int)) :
    s.turnTick = { s with
      tt := { s.tt with
        tickNum := s.tt.tickNum + 1, ticks := s.tt.ticks + 1, tickStart := s.tt.tickEnd,
        tickEnd := s.tt.tickEnd + tickPs s.tt.len, transitional := false, reclaimed := false },
      stn := { s.stn with tick := some s.tt.tickEnd } } := by
  have hd : s.slewStep = 0 := by
    unfold State.slewStep
    rw [hslew]
    decide
  have hend : ((s.tt.tickEnd : Int) + (tickPs s.tt.len : Int)).toNat = s.tt.tickEnd + tickPs s.tt.len := by omega
  unfold State.turnTick
  simp only [hd, hslew, hstep, hline, hls, htr, hlen, hphase, Int.add_zero, reduceC_small hc1 hc2, bne_self_eq_false, Bool.or_false,
    Option.isSome_none, Bool.false_eq_true, if_false, Int.toNat_natCast, Int.sub_zero, hend]

/-- TICK frames have not been missing for exactly one tick: the count of quiet ticks goes on, and nothing follows. -/
theorem State.quietTick_plain {s : State} (h : s.stn.id = 0 ∨ s.stn.quiet ≠ 1) :
    s.quietTick = { s with stn := { s.stn with
      quiet := if s.stn.id = 0 ∨ 2 ≤ s.stn.quiet then s.stn.quiet else s.stn.quiet + 1 } } := by
  unfold State.quietTick
  by_cases hq : s.stn.id = 0 ∨ 2 ≤ s.stn.quiet
  · rw [if_pos hq, if_pos hq]
  · rw [if_neg hq, if_neg hq, if_neg (by omega)]
    rfl

/-- A boundary that is none of the special ones: time goes to the end of the tick, and the next one begins. -/
theorem State.tickBoundary_plain {s : State} (hon : s.isOn domTT = true) (hev : s.tt.everValid = true) (hoff : s.mode ≠ .off)
    (hrun : s.tt.running = true) (hslew : s.tt.slew = 0) (htr : s.tt.transitional = false) (htime : s.tt.time ≤ s.tt.tickEnd) :
    s.tickBoundary = (s.advance (s.tt.tickEnd - s.tt.time)).quietTick.turnTick.tickWork s.T := by
  have hd : s.slewStep = 0 := by
    unfold State.slewStep
    rw [hslew]
    decide
  have hps : ((s.tt.tickEnd : Int) - (s.tt.time : Int) - 0).toNat = s.tt.tickEnd - s.tt.time := by omega
  unfold State.tickBoundary
  dsimp only
  rw [if_neg (by simp [hon, hev, hoff]), if_neg (not_of_true hrun), hd, hps, htr]
  rfl

/-- The keeper starts. -/
theorem State.tickBoundary_first {s : State} (hon : s.isOn domTT = true) (hev : s.tt.everValid = true) (hoff : s.mode ≠ .off)
    (hrun : s.tt.running = false) : s.tickBoundary = s.startTicks.tickWork 0 := by
  unfold State.tickBoundary
  rw [if_neg (by simp [hon, hev, hoff]), if_pos (by simp [hrun])]

theorem State.reclaimPoint_first {s : State} (hon : s.isOn domTT = true) (hsafe : s.mode ≠ .safe) (hoff : s.mode ≠ .off)
    (hrun : s.tt.running = true) (hnot : s.tt.reclaimed = false) :
    s.reclaimPoint =
      let u := s.advance (s.tt.tickStart + s.tt.reclaim * s.tickLen / 64 - s.tt.time)
      { u with tt := { u.tt with reclaimed := true, pools := u.tt.pools.map Pool.reclaim } } := by
  unfold State.reclaimPoint
  rw [if_neg (by simp [hon, hsafe, hoff, hrun, hnot])]

/-- Settles O48: the ordinary boundary, the keeper's start, and the reclaim point. -/
theorem tickBoundaries : Obligations.TickBoundaries := by
  refine fun s hheld hon hev hoff => ⟨fun hrun hslew hstep hline hls htr hlen hphase htime hquiet hc1 hc2 => ⟨?time, ?next⟩,
    fun hrun => ?first, fun hrun hnot hsafe => ?reclaim⟩
  case time =>
    show s.tt.time + (if s.tt.everValid then s.tt.tickEnd - s.tt.time else 0) = s.tt.tickEnd
    rw [hev, if_pos rfl]
    omega
  case next =>
    show s.run (fun s => s.tickBoundary) = _
    rw [State.run_of_free hheld, State.tickBoundary_plain (s := bare s) hon hev hoff hrun hslew htr htime,
      State.quietTick_plain (s := (bare s).advance ((bare s).tt.tickEnd - (bare s).tt.time)) hquiet,
      State.turnTick_plain (by exact hslew) (by exact hstep) (by exact hline) (by exact hls) (by exact htr) (by exact hlen)
        (by exact hphase) (by exact hc1) (by exact hc2)]
    rfl
  case first =>
    show s.run (fun s => s.tickBoundary) = _
    rw [State.run_of_free hheld, State.tickBoundary_first (s := bare s) hon hev hoff hrun]
    rfl
  case reclaim =>
    show s.run (fun s => s.reclaimPoint) = _
    rw [State.run_of_free hheld, State.reclaimPoint_first (s := bare s) hon hsafe hoff hrun hnot]
    rfl

/-! ### The time input -/

/-- The fabric time at an edge of TIME_VALID, and the Weighbridge's with it. -/
def State.timeAt (s : State) (t : Nat) : State := { s with wbg := { s.wbg with time := t, valid := true } }

theorem State.validFall_high {s : State} (h : s.tt.timeValid = true) :
    s.validFall = State.raise0 { s with tt := { s.tt with timeValid := false, holdover := true },
                                        wbg := { s.wbg with valid := false, ivHold := true } } 0x080 0 := by
  unfold State.validFall
  rw [if_neg (not_of_true h)]

theorem State.validRise_first {s : State} (h : s.tt.everValid = false) (ns : Nat) :
    s.validRise ns = State.timeAt { s with tt := { s.tt with
      time := ns * 1000, timeValid := true, everValid := true, holdover := false } } (ns * 1000) := by
  unfold State.validRise
  dsimp only
  rw [if_pos (by simp [h])]
  rfl

/-- A difference of at most a quarter tick is slewed to. -/
theorem State.validRise_slew {s : State} {ns : Nat} (hev : s.tt.everValid = true) (hrun : s.tt.running = true)
    (hd : 4 * ((((ns * 1000 : Nat) : Int) - (s.tt.time : Int)).natAbs : Int) ≤ (s.T : Int)) :
    s.validRise ns = State.timeAt { s with tt := { s.tt with
      timeValid := true, holdover := false, slew := ((ns * 1000 : Nat) : Int) - (s.tt.time : Int), stepTo := none } } (ns * 1000) := by
  unfold State.validRise absI
  dsimp only
  rw [if_neg (not_of_true hev), if_neg (not_of_true hrun), if_pos hd]
  rfl

/-- Any other is stepped to. -/
theorem State.validRise_step {s : State} {ns : Nat} (hev : s.tt.everValid = true) (hrun : s.tt.running = true)
    (hd : (s.T : Int) < 4 * ((((ns * 1000 : Nat) : Int) - (s.tt.time : Int)).natAbs : Int)) :
    s.validRise ns = State.timeAt { s with tt := { s.tt with
      timeValid := true, holdover := false, slew := 0, stepTo := some (ns * 1000, s.clk) } } (ns * 1000) := by
  unfold State.validRise absI
  dsimp only
  rw [if_neg (not_of_true hev), if_neg (not_of_true hrun), if_neg (not_le.mpr hd)]
  rfl

theorem State.validRiseEdge_low {s : State} (h : s.tt.timeValid = false) (ns : Nat) : s.validRiseEdge ns = s.validRise ns :=
  if_neg (ne_true_of_eq_false h)

theorem State.timeJump_high {s : State} (h : s.tt.timeValid = true) (ns : Nat) : s.timeJump ns = s.validFall.validRise ns :=
  if_pos h

/-- Settles O49: the fall, the first rise, a later one, and a jump. -/
theorem timeInput : Obligations.TimeInput := by
  refine fun s ns hheld => ⟨fun hv => ?fall, fun hv hev => ?first, fun hev hrun =>
    ⟨fun hv => ⟨fun hd => ?slew, fun hd => ?step⟩, fun hv => ⟨fun hd => ?jumpSlew, fun hd => ?jumpStep⟩⟩⟩
  case fall =>
    show s.act (fun s => s.validFall) = _
    rw [State.act_of_free hheld, State.validFall_high (s := bare s) hv]
    rfl
  case first =>
    show s.act (fun s => s.validRiseEdge ns.toNat) = _
    rw [State.act_of_free hheld, State.validRiseEdge_low (s := bare s) hv, State.validRise_first (s := bare s) hev]
    rfl
  case slew =>
    show s.act (fun s => s.validRiseEdge ns.toNat) = _
    rw [State.act_of_free hheld, State.validRiseEdge_low (s := bare s) hv, State.validRise_slew (s := bare s) hev hrun hd]
    rfl
  case step =>
    show s.act (fun s => s.validRiseEdge ns.toNat) = _
    rw [State.act_of_free hheld, State.validRiseEdge_low (s := bare s) hv, State.validRise_step (s := bare s) hev hrun hd]
    rfl
  case jumpSlew =>
    show s.act (fun s => s.timeJump ns.toNat) = _
    rw [State.act_of_free hheld, State.timeJump_high (s := bare s) hv, State.validFall_high (s := bare s) hv,
      State.validRise_slew (by exact hev) (by exact hrun) (by exact hd)]
    rfl
  case jumpStep =>
    show s.act (fun s => s.timeJump ns.toNat) = _
    rw [State.act_of_free hheld, State.timeJump_high (s := bare s) hv, State.validFall_high (s := bare s) hv,
      State.validRise_step (by exact hev) (by exact hrun) (by exact hd)]
    rfl

end Sys2Proof.Machine
end

section
/-! PROOFS. Sessions, nonces, lockouts and the journal's spill (R348 to R351). -/

namespace Sys2Proof.Machine

open Sys2Proof.Safety

/-! ### Ends of sessions -/

/-- A session of a role ends with its journal entry. -/
theorem State.endSession_open {s : State} {p : Path} {x : Sess} (h : Tbl.get (pathKey p) s.dct.sess = some x) (hr : x.role ≠ 0) :
    s.endSession p =
      let v := s.journalE 3 (pathCode p) x.role (pathEid p) 0 (x.role + 256) 0 0
      { v with dct := { v.dct with sess := Tbl.del (pathKey p) v.dct.sess } } := by
  have hrole : s.sessRole (pathKey p) = x.role := by
    unfold State.sessRole
    rw [h]
    rfl
  unfold State.endSession
  dsimp only
  rw [hrole, if_neg hr]
  cases p with
  | reg => rfl
  | mctp e => rfl
  | dq d => rfl

theorem State.idleEnd_some {s : State} {p : Path} {x : Sess} {k : Nat} (h : Tbl.get (pathKey p) s.dct.sess = some x)
    (hk : s.dct.idleS = k) : s.idleEnd p = (s.reach (x.last + k * 10 ^ 12)).endSession p := by
  unfold State.idleEnd
  rw [h, ← hk]

theorem State.nonceEnd_some {s : State} {k : Nat} {n : Nonce} (h : Tbl.get k s.dct.nonces = some n) :
    s.nonceEnd k =
      let u := s.reach (n.at_ + 10 ^ 13)
      { u with dct := { u.dct with nonces := Tbl.del k u.dct.nonces } } := by
  unfold State.nonceEnd
  rw [h]

theorem State.lockEnd_some {s : State} {k t : Nat} (h : Tbl.get k s.dct.lock = some t) :
    s.lockEnd k =
      let u := s.reach t
      { u with dct := { u.dct with lock := Tbl.del k u.dct.lock } } := by
  unfold State.lockEnd
  rw [h]

/-- An access holds a session open, and its role stays. -/
theorem State.get_sess_touch {s : State} {p : Path} {x : Sess} (h : Tbl.get (pathKey p) s.dct.sess = some x) :
    Tbl.get (pathKey p) (s.touch p).dct.sess = some { x with last := s.clk } := by
  show Tbl.get (pathKey p) (Tbl.upd (pathKey p) _ s.dct.sess) = _
  rw [Tbl.get_upd, if_pos rfl, h]
  rfl

/-! ### A write of END -/

theorem State.odwRegWrite_end (s : State) : s.odwRegWrite (0x30108 % 65536) 1 0xFF = (s.endSession .reg, true) := by
  unfold State.odwRegWrite
  rw [if_neg (by decide), if_neg (by decide), if_neg (by decide), if_neg (by decide), if_pos (by decide), if_pos (by decide)]

theorem State.odObj_end (s : State) : s.odObj 0x1010 3 = some ⟨1, 2, 2, 2, none, none⟩ := rfl

/-- Every path may end its session. -/
theorem State.odRight_end (s : State) (p : Path) : s.odRight p 0x1010 3 ⟨1, 2, 2, 2, none, none⟩ = 2 := by
  unfold State.odRight
  dsimp only
  split
  · rw [if_pos (by decide)]
  · rw [ite_self, ite_self]

/-- The object 0x1010:0x03, written with 1 where a session is open, ends it. -/
theorem State.odWrite_end {s : State} {e : BitVec 8} (hrole : s.sessRole (1 + e.toNat) ≠ 0) (hfull : s.jFull = false) :
    (s.odWrite (.mctp e) 0x1010 3 1 1).1 = s.endSession (.mctp e) := by
  have hput : s.odPut (.mctp e) 0x1010 3 1 = (s.endSession (.mctp e), 0) := by
    unfold State.odPut
    rw [if_pos rfl, if_neg (by decide), if_pos rfl, if_neg (by decide), if_pos rfl]
  have hses : ((0x1010 : Nat) == 0x1010 && ((3 : Nat) == 2 || ((3 : Nat) == 3 && (1 : Nat) == 1 &&
      s.sessRole (pathKey (.mctp e)) != 0))) = true := by
    have : (s.sessRole (pathKey (.mctp e)) != 0) = true := bne_iff_ne.mpr hrole
    rw [this]
    rfl
  unfold State.odWrite
  rw [State.odObj_end]
  dsimp only
  rw [State.odRight_end, hput, hfull, hses]
  rfl

/-! ### The spill (R351) -/

theorem State.spill_group {s : State} (hon : fbit s.jCfg 0 = true) (hnone : s.dct.spill = []) (hmin : s.spillMin ≤ s.journal.length)
    (hm : s.mode.grants = true) (hup : s.dspUp = true) (hroom : 64 ≤ s.jRoom) :
    s.spill =
      let g := s.journal.take 64
      let base := fld s.jCfg 12 40 * 4096 + 32 * s.dct.wr
      let bytes := g.flatMap JEnt.bytes ++ List.replicate (32 * (64 - g.length)) 0
      let ops := (List.range 32).map (fun i => wrLine (base + 64 * i) (lineOf ((bytes.drop (64 * i)).take 64)))
      State.engCtl { s with
        journal := s.journal.drop 64, dct := { s.dct with spill := g, spillOut := 32, spillBad := false, fullRaised := false } }
        0xC302 0xC300 false ops ⟨.spill, 0, 0⟩ := by
  unfold State.spill
  dsimp only
  rw [if_neg (by simp [hon, hnone, hm, hup, hmin]), if_neg (by omega)]

/-- Settles O50: the timers of a path, the two writes of END, and a group that leaves for the spill ring. -/
theorem sessionsAndJournal : Obligations.SessionsAndJournal := by
  refine ⟨fun s p x n t hheld => ⟨fun hx hr => ?idle, fun hn => ?nonce, fun ht => ?lock⟩,
    fun s x e hheld hr => ⟨fun hx hreach => ?reg, fun hx hup hfull => ?mctp⟩,
    fun s hheld hon hnone hmin hm hup hroom => ?spill⟩
  case idle =>
    show s.act (fun s => s.idleEnd p) = _
    rw [State.act_of_free hheld, State.idleEnd_some (s := bare s) (k := s.dct.idleS) hx rfl]
    obtain ⟨at_, hat⟩ : ∃ a, a = x.last + s.dct.idleS * 10 ^ 12 := ⟨_, rfl⟩
    rw [← hat]
    rw [State.endSession_open (s := (bare s).reach at_) hx hr]
    cases p with
    | reg => rfl
    | mctp e => rfl
    | dq d => rfl
  case nonce =>
    show s.act (fun s => s.nonceEnd (pathKey p)) = _
    rw [State.act_of_free hheld, State.nonceEnd_some (s := bare s) hn]
  case lock =>
    show s.act (fun s => s.lockEnd (pathKey p)) = _
    rw [State.act_of_free hheld, State.lockEnd_some (s := bare s) ht]
  case reg =>
    have hx' : Tbl.get (pathKey .reg) (touched s).dct.sess = some { x with last := (bare s).clk } :=
      State.get_sess_touch (s := bare s) (p := .reg) hx
    show s.bus 0x30108 1 0xFF = _
    refine State.bus_odw_ok hreach (by decide) ?_
    rw [State.odwRegWrite_end, State.endSession_open hx' hr]
    rfl
  case mctp =>
    have hx' : Tbl.get (pathKey (.mctp e)) ((bare s).touch (.mctp e)).dct.sess = some { x with last := (bare s).clk } :=
      State.get_sess_touch (s := bare s) (p := .mctp e) hx
    have hrole : ((bare s).touch (.mctp e)).sessRole (1 + e.toNat) ≠ 0 := by
      rw [State.sessRole_touch]
      show ((Tbl.get (1 + e.toNat) s.dct.sess).map (·.role)).getD 0 ≠ 0
      rw [hx]
      exact hr
    have hup' : (bare s).dspUp = true := hup
    show s.act (fun s => if s.dspUp then ((s.touch (.mctp e)).odWrite (.mctp e) 0x1010 3 1 1).1 else s) = _
    rw [State.act_of_free hheld, if_pos hup', State.odWrite_end hrole hfull, State.endSession_open hx' hr]
    rfl
  case spill =>
    show s.act (fun s => s.spill) = _
    rw [State.act_of_free hheld, State.spill_group (s := bare s) hon hnone hmin hm hup hroom]
    rfl

end Sys2Proof.Machine
end

section
/-! PROOFS. MCTP: Kalmet reads and writes, control requests, discarded packets (R345, R346, R389). -/

namespace Sys2Proof.Machine

open Sys2Proof.Safety

/-! ### Dictionary accesses of an endpoint -/

section
variable {s : State} {e : BitVec 8} {ix sub : Nat} {ob : Obj}

theorem State.odRead_none (p : Path) (h : s.odObj ix sub = none) : s.odRead p ix sub = (s, 2, 0, 0) := by
  unfold State.odRead
  rw [h]

theorem State.odRead_noRight (h : s.odObj ix sub = some ob) (hr : s.odRight (.mctp e) ix sub ob = 0) :
    s.odRead (.mctp e) ix sub = (s, 3, 0, 0) := by
  unfold State.odRead
  rw [h]
  dsimp only
  rw [hr, if_pos (by simp)]

/-- An object that is neither the nonce nor drawn afresh is read with its value. -/
theorem State.odRead_plain (h : s.odObj ix sub = some ob) (hr : s.odRight (.mctp e) ix sub ob ≠ 0) (hdown : objDown s ob = false)
    (hnonce : ¬(ix = 0x1010 ∧ sub = 1)) (hfresh : ix ≠ 0xA002) :
    s.odRead (.mctp e) ix sub = (s, 0, s.odValue (.mctp e) ix sub, ob.size) := by
  unfold State.odRead
  rw [h]
  dsimp only
  rw [if_neg (by simp [isDq, hr]), if_neg (ne_true_of_eq_false hdown), if_neg hnonce, if_neg hfresh]

/-- An object other than a session's, the mode's and the key's is written, and the write is journalled. -/
theorem State.odWrite_plain {v len : Nat} (h : s.odObj ix sub = some ob) (hr : s.odRight (.mctp e) ix sub ob = 2)
    (hft : ob.i = 2 ∨ s.mode = .factoryTest) (hlen : len = ob.size) (hdown : objDown s ob = false) (hfull : s.jFull = false)
    (h1 : ix ≠ 0x1010) (h2 : ix ≠ 0x1100) (h3 : ix ≠ 0xF010) :
    s.odWrite (.mctp e) ix sub v len =
      ((s.odPut (.mctp e) ix sub v).1.jrn 0 (.mctp e) (s.odPut (.mctp e) ix sub v).2 (ix + sub * 65536)
        (BitVec.ofNat 64 (s.odValue (.mctp e) ix sub % 2 ^ 64)) (BitVec.ofNat 64 (v % 2 ^ 64)),
       (s.odPut (.mctp e) ix sub v).2, s.odValue (.mctp e) ix sub % 2 ^ 64) := by
  have hmode : ¬(ob.i ≠ 2 ∧ s.mode ≠ .factoryTest) := fun hx => hft.elim hx.1 hx.2
  have b1 : (ix == 0x1010) = false := beq_eq_false_iff_ne.mpr h1
  have b2 : (ix == 0x1100) = false := beq_eq_false_iff_ne.mpr h2
  have b3 : (ix == 0xF010) = false := beq_eq_false_iff_ne.mpr h3
  unfold State.odWrite
  rw [h]
  dsimp only
  rw [b1, b2, b3, hr, if_neg (by simp), if_neg hmode, if_neg (fun hx => hx hlen), if_neg (ne_true_of_eq_false hdown),
    if_neg (by simp [hfull])]
  rfl

end

/-! ### Kalmet requests (R346) -/

/-- The answer to a Kalmet request. -/
def kalmetBody (m : List Nat) (why n v : Nat) : List Nat :=
  [0x7F, 0, 0, 0xD1, 0xA4, bits (m.getD 5 0) 0 5, m.getD 6 0, why] ++ leBytes 2 (leNat ((m.drop 8).take 2)) ++ [m.getD 10 0, 0] ++
    leBytes 2 n ++ [0, 0] ++ leBytes n v

/-- The zero fields of a request are 0. -/
def kalmetZeros (m : List Nat) : Prop :=
  bits (m.getD 5 0) 5 2 = 0 ∧ m.getD 7 0 = 0 ∧ m.getD 11 0 = 0 ∧ leNat ((m.drop 14).take 2) = 0

section
variable {s t : State} {h : MctpHdr} {msg : List Byte} {m : List Nat} (hm : msg.map BitVec.toNat = m)
  (hok : s.kalmetOk h m = true) (hz : kalmetZeros m)
include hm hok hz

/-- A read is answered with what the dictionary reads. -/
theorem State.kalmet_read (hcmd : m.getD 6 0 = 1) (hlen : leNat ((m.drop 12).take 2) = 0) (hdata : m.drop 16 = [])
    (hup : s.dspUp = true ∨ (0x1000 ≤ leNat ((m.drop 8).take 2) ∧ leNat ((m.drop 8).take 2) < 0x1100) ∨
      (0x6000 ≤ leNat ((m.drop 8).take 2) ∧ leNat ((m.drop 8).take 2) < 0x6100)) {why v n : Nat}
    (hr : (s.touch (.mctp h.src)).odRead (.mctp h.src) (leNat ((m.drop 8).take 2)) (m.getD 10 0) = (t, why, v, n)) :
    s.kalmet h msg = t.reply h (kalmetBody m why (if why = 0 then n else 0) v) := by
  obtain ⟨h5, h7, h11, h14⟩ := hz
  have hserve : ¬((!s.dspUp && !((m.getD 6 0 == 1) && ((decide (0x1000 ≤ leNat ((m.drop 8).take 2)) &&
      decide (leNat ((m.drop 8).take 2) < 0x1100)) || (decide (0x6000 ≤ leNat ((m.drop 8).take 2)) &&
      decide (leNat ((m.drop 8).take 2) < 0x6100))))) = true) := by
    rw [hcmd]
    rcases hup with hup | hup | hup <;> simp [hup]
  unfold State.kalmet
  dsimp only
  rw [hm, if_neg (not_of_true hok), if_neg (by simp [h5, h7, h11, h14, hcmd, hlen, hdata, -List.getD_eq_getElem?_getD]), if_neg hserve, if_pos hcmd, hr]
  rfl

theorem State.kalmet_write (hcmd : m.getD 6 0 = 2) (hlen : (m.drop 16).length = leNat ((m.drop 12).take 2)) (hup : s.dspUp = true)
    {why old : Nat} (hw : (s.touch (.mctp h.src)).odWrite (.mctp h.src) (leNat ((m.drop 8).take 2)) (m.getD 10 0)
      (leNat (m.drop 16)) (leNat ((m.drop 12).take 2)) = (t, why, old)) :
    s.kalmet h msg = t.reply h (kalmetBody m why 0 0) := by
  obtain ⟨h5, h7, h11, h14⟩ := hz
  unfold State.kalmet
  dsimp only
  rw [hm, if_neg (not_of_true hok), if_neg (by simp [h5, h7, h11, h14, hcmd, -List.getD_eq_getElem?_getD]), if_neg (by simp [hup]), if_neg (by omega),
    if_neg (fun hx => hx hlen), hw]
  dsimp only
  rw [ite_self]
  rfl

end

/-! ### Control requests (R345) -/

section
variable {s t : State} {h : MctpHdr} {msg : List Byte} {m : List Nat} (hm : msg.map BitVec.toNat = m)
  (hdst : h.dst.toNat = s.dct.eid ∨ h.dst = 0) (h3 : 3 ≤ m.length) (h320 : m.length ≤ 320) (h0 : m.getD 0 0 = 0)
  (h7 : bit (m.getD 1 0) 7 = true)
include hm hdst h3 h320 h0 h7

/-- A control request is answered by its command. -/
theorem State.control_ok {code : Nat} (hcode : m.getD 2 0 = code) (k : State → List Nat → State × List Nat) {body : List Nat}
    (hk : k s (m.drop 3) = (t, body)) :
    s.control h msg code k = t.reply h ([0, bits (m.getD 1 0) 0 5, code] ++ body) := by
  have hguard : ¬((h.dst.toNat ≠ s.dct.eid ∧ h.dst ≠ 0) ∨ m.length < 3 ∨ 320 < m.length ∨ m.getD 0 0 ≠ 0 ∨ (!bit (m.getD 1 0) 7) = true) := by
    rintro (hx | hx | hx | hx | hx)
    · exact hdst.elim hx.1 hx.2
    · omega
    · omega
    · exact hx h0
    · exact not_of_true h7 hx
  unfold State.control
  dsimp only
  rw [hm, if_neg hguard, if_pos hcode, hk, hcode]

end

theorem State.mctpSetEid_ok {s : State} {d : List Nat} (hlen : d.length = 2) (hop : bits (d.getD 0 0) 0 2 ≤ 1) (h0 : d.getD 1 0 ≠ 0)
    (h255 : d.getD 1 0 ≠ 255) :
    s.mctpSetEid d = ({ s.endMctp with dct := { s.endMctp.dct with eid := d.getD 1 0 } }, [0, 0, d.getD 1 0, 0]) := by
  unfold State.mctpSetEid
  dsimp only
  rw [if_neg (fun hx => hx hlen), if_neg (by omega)]

theorem State.mctpVersions_ok {s : State} {d : List Nat} (hlen : d.length = 1)
    (ht : d.getD 0 0 = 0xFF ∨ d.getD 0 0 = 0 ∨ d.getD 0 0 = 0x7F) :
    s.mctpVersions d = (s.freeVal.2, [0, 1] ++ leBytes 4 s.freeVal.1) := by
  unfold State.mctpVersions
  dsimp only
  rw [if_neg (fun hx => hx hlen), if_pos ht]

theorem State.mctpVendor_ok {s : State} {d : List Nat} (hlen : d.length = 1) (ht : d.getD 0 0 = 0) :
    s.mctpVendor d = (s.freeVal.2, [0, 0xFF, 1, 0, 0, 0xD1, 0xA4] ++ leBytes 2 s.freeVal.1) := by
  unfold State.mctpVendor
  rw [if_neg (fun hx => hx hlen), if_neg (fun hx => hx ht)]

/-- A packet that R345 or R389 excludes. -/
theorem State.packetBad_of {s : State} {m : List Nat}
    (h : 68 < m.length ∨ m.length < 4 ∨ bits (m.getD 0 0) 0 4 ≠ 1 ∨
        (m.getD 1 0 ≠ s.dct.eid ∧ ¬(m.getD 1 0 = 0 ∧ bits (m.getD 4 0) 0 7 = 0)) ∨
        (bit (m.getD 3 0) 7 = true ∧ (bit (m.getD 4 0) 7 = true ∨ (bits (m.getD 4 0) 0 7 ≠ 0 ∧ bits (m.getD 4 0) 0 7 ≠ 0x7F))) ∨
        (bits (m.getD 3 0) 6 2 = 3 ∧ m.getD 4 0 = 0x7F ∧ (m.drop 5).take 4 ≠ [0, 0, 0xD1, 0xA4])) : s.packetBad m = true := by
  unfold State.packetBad
  simp only [Bool.or_eq_true, decide_eq_true_eq, Bool.and_eq_true, Bool.not_eq_true', Bool.and_eq_false_iff, beq_eq_false_iff_ne,
    bne_iff_ne, beq_iff_eq]
  rcases h with h | h | h | ⟨h1, h2⟩ | h | h
  · exact .inl (.inl (.inl (.inl (.inl h))))
  · exact .inl (.inl (.inl (.inr h)))
  · exact .inl (.inl (.inl (.inl (.inr h))))
  · exact .inl (.inl (.inr ⟨h1, not_and_or.mp h2⟩))
  · exact .inl (.inr h)
  · exact .inr ⟨⟨h.1, h.2.1⟩, h.2.2⟩

/-- Settles O51, request by request. -/
theorem mctpRequests : Obligations.MctpRequests := by
  intro s h msg hheld hoff
  dsimp only
  refine ⟨fun hok h5 h7 h11 h14 => ⟨fun hcmd hlen hdata hup => ⟨fun hob => ?none_, fun ob hob => ⟨fun hr => ?noRight,
      fun hr hdown hnonce hfresh => ?value⟩⟩, fun hcmd hlen hup ob hob hr hft hsize hdown hfull h1 h2 h3 => ?write⟩,
    fun hdst h3 h320 h0 h7 => ⟨fun hc hl hop h0' h255 => ?setEid, fun hc => ?getEid, fun hc hl ht => ?versions, fun hc => ?types,
      fun hc hl ht => ?vendor⟩, fun hbad => ?discard⟩
  case none_ =>
    have hr := State.odRead_none (s := (bare s).touch (.mctp h.src)) (.mctp h.src) hob
    show s.mctp (fun s => s.kalmet h msg) = _
    rw [State.mctp_of_free hheld hoff, State.kalmet_read (s := bare s) rfl hok ⟨h5, h7, h11, h14⟩ hcmd hlen hdata hup hr, kalmetBody, hcmd]
    rfl
  case noRight =>
    have hr := State.odRead_noRight (s := (bare s).touch (.mctp h.src)) hob hr
    show s.mctp (fun s => s.kalmet h msg) = _
    rw [State.mctp_of_free hheld hoff, State.kalmet_read (s := bare s) rfl hok ⟨h5, h7, h11, h14⟩ hcmd hlen hdata hup hr, kalmetBody, hcmd]
    rfl
  case value =>
    have hr := State.odRead_plain (s := (bare s).touch (.mctp h.src)) hob hr hdown hnonce hfresh
    show s.mctp (fun s => s.kalmet h msg) = _
    rw [State.mctp_of_free hheld hoff, State.kalmet_read (s := bare s) rfl hok ⟨h5, h7, h11, h14⟩ hcmd hlen hdata hup hr, kalmetBody, hcmd]
    rfl
  case write =>
    have hw := State.odWrite_plain (s := (bare s).touch (.mctp h.src)) (v := leNat ((msg.map BitVec.toNat).drop 16)) hob hr hft hsize
      hdown hfull h1 h2 h3
    show s.mctp (fun s => s.kalmet h msg) = _
    rw [State.mctp_of_free hheld hoff, State.kalmet_write (s := bare s) rfl hok ⟨h5, h7, h11, h14⟩ hcmd hlen hup hw, kalmetBody, hcmd]
  case setEid =>
    have hk := State.mctpSetEid_ok (s := bare s) hl hop h0' h255
    show s.mctp (fun s => s.control h msg 1 State.mctpSetEid) = _
    rw [State.mctp_of_free hheld hoff, State.control_ok (s := bare s) rfl hdst h3 h320 h0 h7 hc _ hk]
  case getEid =>
    show s.mctp (fun s => s.control h msg 2 State.mctpGetEid) = _
    rw [State.mctp_of_free hheld hoff, State.control_ok (s := bare s) rfl hdst h3 h320 h0 h7 hc State.mctpGetEid rfl]
    rfl
  case versions =>
    have hk := State.mctpVersions_ok (s := bare s) hl ht
    show s.mctp (fun s => s.control h msg 4 State.mctpVersions) = _
    rw [State.mctp_of_free hheld hoff, State.control_ok (s := bare s) rfl hdst h3 h320 h0 h7 hc _ hk]
  case types =>
    show s.mctp (fun s => s.control h msg 5 State.mctpTypes) = _
    rw [State.mctp_of_free hheld hoff, State.control_ok (s := bare s) rfl hdst h3 h320 h0 h7 hc State.mctpTypes rfl]
  case vendor =>
    have hk := State.mctpVendor_ok (s := bare s) hl ht
    show s.mctp (fun s => s.control h msg 6 State.mctpVendor) = _
    rw [State.mctp_of_free hheld hoff, State.control_ok (s := bare s) rfl hdst h3 h320 h0 h7 hc _ hk]
  case discard =>
    have hb : (bare s).packetBad (msg.map BitVec.toNat) = true := State.packetBad_of (s := bare s) hbad
    show s.mctp (fun s => s.packetDiscard msg) = _
    rw [State.mctp_of_free hheld hoff, State.packetDiscard]
    rw [if_pos hb]
    rfl

end Sys2Proof.Machine
end

section
/-! PROOFS. Channel events: request lines, levels, presented requests and pulses (R203 to R208, R210, R213). -/

namespace Sys2Proof.Machine

open Sys2Proof.Safety

/-! ### An assertion of a request line -/

/-- What an assertion leaves after the channel has counted it: a kick, where the channel wakes. -/
def State.chWoken (t : State) (c : Nat) (x : Chan) : State :=
  if x.wake then (t.updChan c (fun x => { x with kick := true })).chKicked c else t

/-- The one channel that binds a line counts the assertion, marks the overflow, or does neither. -/
theorem State.chAssert_one {s : State} {line c : Nat} {x : Chan}
    (h : s.chn.chans.filter (fun p => p.2.src != 0 && p.2.line == line) = [(c, x)]) :
    s.chAssert line = State.chWoken
      (if x.src = 1 ∧ x.binds line = true then
        if 1023 ≤ x.reqcnt then (s.updChan c (fun x => { x with reqOvf := true })).raise0 0x0E1 c
        else s.updChan c (fun x => { x with reqcnt := x.reqcnt + 1 })
      else s) c x := by
  unfold State.chAssert
  rw [h]
  rfl

/-- The channel found on a line binds it, unless it is disabled. -/
theorem Chan.binds_of_filter {cs : Tbl Chan} {line c : Nat} {x : Chan}
    (h : cs.filter (fun p => p.2.src != 0 && p.2.line == line) = [(c, x)]) : x.binds line = (x.st != .disabled) := by
  have hin : (c, x) ∈ cs.filter (fun p => p.2.src != 0 && p.2.line == line) := by simp [h]
  have hp := (List.mem_filter.mp hin).2
  unfold Chan.binds
  simp only [Bool.and_eq_true] at hp
  rw [hp.1, hp.2, Bool.and_true, Bool.and_true]

theorem State.rql_served {s : State} (hm : s.mode ≠ .safe) (hoff : s.mode ≠ .off) (hon : s.isOn domCHN = true) (hf : s.sbx.fchn = false)
    (line : Nat) : s.rql line = (s.chAssert line).waitEvents 0 line 0 := by
  unfold State.rql
  rw [if_neg (by simp [hm, hoff]), hon, hf]
  rfl

theorem State.rql_unserved {s : State} (hm : s.mode ≠ .safe) (hoff : s.mode ≠ .off) (h : s.isOn domCHN = false ∨ s.sbx.fchn = true)
    (line : Nat) : s.rql line = s.waitEvents 0 line 0 := by
  unfold State.rql
  rw [if_neg (by simp [hm, hoff])]
  dsimp only
  rw [if_neg (by rcases h with h | h <;> simp [h])]

/-! ### Pulses and levels -/

/-- A due pulse leaves, from its line's moment on. -/
theorem State.evoPulse_due {s u : State} {line n : Nat} (hm : s.mode ≠ .safe) (hoff : s.mode ≠ .off)
    (hn : Tbl.getD line 0 s.chn.evo = n + 1)
    (hu : (Tbl.get line s.chn.evoLast = none ∧ u = s) ∨ ∃ t, Tbl.get line s.chn.evoLast = some t ∧ u = s.reach (t + 2500)) :
    s.evoPulse line = State.emit { u with chn := { u.chn with
      evo := if n = 0 then Tbl.del line u.chn.evo else Tbl.put line n u.chn.evo,
      evoLast := Tbl.put line u.clk u.chn.evoLast } } (.evo line) := by
  unfold State.evoPulse
  dsimp only
  rw [hn, if_neg (by simp [hm, hoff])]
  simp only [Nat.add_eq_right, Nat.add_sub_cancel]
  rcases hu with ⟨hl, rfl⟩ | ⟨t, hl, rfl⟩
  · rw [hl]
  · rw [hl]

theorem State.chLevel_open {s u : State} {c : Nat} (hsrc : (s.chan c).src = 2) (hst : (s.chan c).st ≠ .disabled)
    (hlvl : (s.chan c).lvl = false) (hacked : (s.chan c).reqs.all (·.acked) = true) (hm : s.mode ≠ .safe)
    (hu : ((s.chan c).lastAck = none ∧ u = s) ∨ ∃ t, (s.chan c).lastAck = some t ∧ u = s.reach (t + ((s.chan c).gap + 1) * 1250))
    (high : Bool) : s.chLevel c high = u.updChan c (fun x => { x with lvl := high }) := by
  have hany : (s.chan c).reqs.any (fun r => !r.acked) = false := by
    rw [List.any_eq_false]
    intro r hr
    simpa using List.all_eq_true.mp hacked r hr
  unfold State.chLevel
  dsimp only
  rw [if_neg (by simp [hsrc, hst, hlvl, hany, hm, -List.any_eq_true])]
  rcases hu with ⟨hl, rfl⟩ | ⟨t, hl, rfl⟩
  · rw [hl]
  · rw [hl]

/-! ### Presented requests -/

/-- A request of a descriptor is presented on a work item. -/
def State.chShow (s u : State) (c : Nat) (x : Chan) (d : ChDesc) (wid : Nat) : State :=
  let len := min d.k (d.count - d.pos)
  let r0 : ChReq := { id := u.nextId, d := d.uid, off := d.pos, len := len, ph := if d.mode = 2 then 0 else 1,
                      line := if x.src = 0 then none else some x.line }
  let r : ChReq := { r0 with
    todo := if d.mode = 2 then [[{ line := addOff (d.x + d.pos / d.k * d.iw) d.to_ / 64, key := d.pos }]]
            else d.reads r0 (s.chMax c true) }
  let v := { u with nextId := u.nextId + 1 }.updDesc c d.uid (fun d => { d with wid := some wid, pos := d.pos + len })
  (v.updChan c (fun x => { x with reqs := x.reqs ++ [r], reqcnt := if x.src = 1 then x.reqcnt - 1 else x.reqcnt,
                                  lvl := false })).chPump c

section
variable {s : State} {c : Nat} {d : ChDesc} (hst : (s.chan c).st = .active ∨ (s.chan c).st = .stopping)
  (hreq : (s.chan c).hasReq = true) (hon : s.isOn domCHN = true) (hm : s.mode.dataIssue = true ∨ s.mode = .quiesce)
  (ht : (s.chan c).target = some d)
include hst hreq hon hm ht

theorem State.chPresent_started {wid : Nat} (hw : d.wid = some wid) : s.chPresent c = s.chShow s c (s.chan c) d wid := by
  have hguard : (!((s.chan c).st == .active || (s.chan c).st == .stopping) || !(s.chan c).hasReq || !s.isOn domCHN ||
      !(s.mode.dataIssue || s.mode == .quiesce)) = false := by
    rw [hreq, hon]
    rcases hst with h | h <;> rcases hm with h' | h' <;> simp [h, h']
  unfold State.chPresent
  dsimp only
  rw [hguard, if_neg (by decide), ht]
  dsimp only
  rw [hw]
  rfl

theorem State.chPresent_fresh {mv : Nat} (hw : d.wid = none) (hissue : s.mode.dataIssue = true)
    (hmv : s.moverFor (s.chan c).cls = some mv) :
    s.chPresent c = s.chShow { s with
      nextId := s.nextId + 1,
      works := Tbl.put s.nextId
        { uid := d.uid, who := 1, which := c, cls := (s.chan c).cls, seg := 0, mover := some mv, lo := 0, hi := d.count } s.works }
      c (s.chan c) d s.nextId := by
  have hguard : (!((s.chan c).st == .active || (s.chan c).st == .stopping) || !(s.chan c).hasReq || !s.isOn domCHN ||
      !(s.mode.dataIssue || s.mode == .quiesce)) = false := by
    rw [hreq, hon]
    rcases hst with h | h <;> rcases hm with h' | h' <;> simp [h, h']
  unfold State.chPresent
  dsimp only
  rw [hguard, if_neg (by decide), ht]
  dsimp only
  rw [hw]
  dsimp only
  rw [if_neg (not_of_true hissue), hmv]
  rfl

end

/-- Settles O52, event by event. -/
theorem channelEvents : Obligations.ChannelEvents := by
  refine ⟨fun s line c x hlive => ⟨fun hon hf hone => ⟨fun hsrc hst hcnt => ?count, fun hsrc hst hcnt => ?overflow,
      fun hnot => ?unbound⟩, fun hoff => ?fenced, fun n hn => ?pulse⟩,
    fun s ch high hlive => ⟨fun hsrc hst hlvl hacked => ?level, fun hst hreq hon hm d ht => ⟨fun wid hw => ?started,
      fun mv hw hissue hmv => ?fresh⟩⟩⟩
  case count =>
    have hb : x.binds line.val = true := by rw [Chan.binds_of_filter hone]; simp [hst]
    show s.run (fun s => s.rql line.val) = _
    rw [State.run_of_free hlive.1, State.rql_served (s := bare s) hlive.2.1 hlive.2.2 hon hf, State.chAssert_one (s := bare s) hone,
      if_pos ⟨hsrc, hb⟩, if_neg (by omega)]
    rfl
  case overflow =>
    have hb : x.binds line.val = true := by rw [Chan.binds_of_filter hone]; simp [hst]
    show s.run (fun s => s.rql line.val) = _
    rw [State.run_of_free hlive.1, State.rql_served (s := bare s) hlive.2.1 hlive.2.2 hon hf, State.chAssert_one (s := bare s) hone,
      if_pos ⟨hsrc, hb⟩, if_pos hcnt]
    rfl
  case unbound =>
    have hb : ¬(x.src = 1 ∧ x.binds line.val = true) := by
      rw [Chan.binds_of_filter hone]
      rcases hnot with h | h <;> simp [h]
    show s.run (fun s => s.rql line.val) = _
    rw [State.run_of_free hlive.1, State.rql_served (s := bare s) hlive.2.1 hlive.2.2 hon hf, State.chAssert_one (s := bare s) hone,
      if_neg hb]
    rfl
  case fenced =>
    show s.run (fun s => s.rql line.val) = _
    rw [State.run_of_free hlive.1, State.rql_unserved (s := bare s) hlive.2.1 hlive.2.2 hoff]
  case pulse =>
    show s.act (fun s => s.evoPulse line.val) = _
    rw [State.act_of_free hlive.1]
    cases hl : Tbl.get line.val s.chn.evoLast with
    | none =>
      rw [State.evoPulse_due (s := bare s) (u := bare s) hlive.2.1 hlive.2.2 hn (.inl ⟨hl, rfl⟩)]
      rfl
    | some t =>
      rw [State.evoPulse_due (s := bare s) hlive.2.1 hlive.2.2 hn (.inr ⟨t, hl, rfl⟩)]
      rfl
  case level =>
    show s.live (fun s => s.chLevel ch.val high) = _
    rw [State.live_of_live hlive]
    cases hl : (s.chan ch.val).lastAck with
    | none => rw [State.chLevel_open (s := bare s) (u := bare s) hsrc hst hlvl hacked hlive.2.1 (.inl ⟨hl, rfl⟩)]
    | some t =>
      rw [State.chLevel_open (s := bare s) hsrc hst hlvl hacked hlive.2.1 (.inr ⟨t, hl, rfl⟩)]
      rfl
  case started =>
    show s.live (fun s => s.chPresent ch.val) = _
    rw [State.live_of_live hlive, State.chPresent_started (s := bare s) hst hreq hon hm ht hw]
    rfl
  case fresh =>
    show s.live (fun s => s.chPresent ch.val) = _
    rw [State.live_of_live hlive, State.chPresent_fresh (s := bare s) hst hreq hon hm ht hw hissue hmv]
    rfl

end Sys2Proof.Machine
end

section
/-! PROOFS. Transit events: notifications, decoder answers, timers and clean intervals (R170 to R180, R390, R391). -/

namespace Sys2Proof.Machine

open Sys2Proof.Safety

/-- Two changes of one place of a list agree where they agree on what stands there. -/
theorem updAt_congr {α : Type} {i : Nat} {f g : α → α} {l : List α} (h : ∀ a, l[i]? = some a → f a = g a) : updAt i f l = updAt i g l := by
  induction l generalizing i with
  | nil => rfl
  | cons a t ih =>
    unfold updAt
    split
    · next hi =>
      subst hi
      rw [h a rfl]
    · next hi =>
      obtain ⟨j, rfl⟩ := Nat.exists_eq_succ_of_ne_zero hi
      rw [ih (i := j + 1 - 1) fun a ha => h a ha]

theorem State.updTw_congr {s : State} {w : Nat} {f g : TWin → TWin} (h : f (s.tw w) = g (s.tw w)) : s.updTw w f = s.updTw w g := by
  unfold State.updTw
  rw [updAt_congr fun a ha => ?_]
  have ht : s.tw w = a := by
    unfold State.tw
    rw [List.getD_eq_getElem?_getD, ha]
    rfl
  rw [← ht, h]

/-! ### Notifications -/

section
variable {s : State} {w p : Nat}

theorem State.dtr_open (hm : s.mode ≠ .safe) (h1 : (s.tw w).ph ≠ .idle) (h2 : (s.tw w).ph ≠ .failed) (hp : p < (s.tw w).pages) :
    s.dtr w p =
      if 4096 ≤ s.trn.nq.length then
        (s.updTw w (fun t => { t with
          lost := min (2 ^ 32 - 1) (t.lost + 1), fullPass := true,
          copies := if t.mirrored then t.copies.map (fun c => if c.issued then { c with conflict := true } else c)
                    else t.copies })).raise0 0x0C0 w
      else (s.tNote w p).tPump w := by
  unfold State.dtr
  dsimp only
  rw [if_neg (by simpa [hm, h1, h2] using hp)]

theorem State.tNote_orbit (hph : (s.tw w).ph = .orbit) (hbit : (s.tw w).bitOf p ≠ none) :
    s.tNote w p = s.updTw w (fun t => t.setBit p true) := by
  obtain ⟨v, hv⟩ := Option.ne_none_iff_exists'.mp hbit
  unfold State.tNote
  dsimp only
  rw [hph, if_neg (by decide), if_neg (by simp), if_pos (.inl rfl), State.tMark, hv]

theorem State.tNote_mirrored (hph : (s.tw w).ph = .mirror ∨ (s.tw w).ph = .recall) (hmir : (s.tw w).mirrored = true) :
    s.tNote w p = s.updTw w (fun t => { t with copies := t.copies.map (fun c =>
      if c.page = p ∧ c.issued = true then { c with conflict := true } else c) }) := by
  unfold State.tNote
  dsimp only
  rw [if_neg (by rcases hph with h | h <;> simp [h]), if_pos ⟨hph, hmir⟩]

/-- A write to a held page before the rebind request is out: the attempt is abandoned. -/
theorem State.tNote_held {c : TConj} (hph : (s.tw w).ph = .conjunction) (hc : (s.tw w).conj = some c) (hack : c.acked = true)
    (hreb : c.rebind = none) (hab : c.abandoning = false) : s.tNote w p = (s.raise0 0x0C5 w).tAbandon w := by
  unfold State.tNote
  dsimp only
  rw [hph, if_neg (by decide), if_neg (by simp), if_neg (by simp), hc]
  dsimp only
  rw [if_neg (not_of_true hack), if_pos (by simp [hreb, hab])]

end

/-! ### Answers of the decoder -/

section
variable {s : State} {w op code o at_ : Nat}

theorem State.decAnswer_none (h : (s.tw w).dec = none) : s.decAnswer w op code = s.raise0 0x0C5 w := by
  unfold State.decAnswer
  dsimp only
  rw [h]

theorem State.decAnswer_other (h : (s.tw w).dec = some (o, at_)) (ho : o ≠ op) : s.decAnswer w op code = s.raise0 0x0C5 w := by
  unfold State.decAnswer
  dsimp only
  rw [h]
  dsimp only
  rw [if_pos ho]

theorem State.decAnswer_ending (h : (s.tw w).dec = some (1, at_)) (he : (s.tw w).ending ≠ none) :
    s.decAnswer w 1 code =
      (if code = 0 then s.updTw w (fun t => { t with dec := none })
       else (s.updTw w (fun t => { t with dec := none })).raise0 0x0C5 w).tEnd w := by
  unfold State.decAnswer
  dsimp only
  rw [h]
  dsimp only
  rw [if_neg (by decide), if_pos ⟨rfl, Option.isSome_iff_ne_none.mpr he⟩]

theorem not_isSome {α : Type} {x : Option α} (h : x = none) : ¬x.isSome = true := by
  simp [h]

/-- The window is armed: SWEEP begins, and TRANSIT_OPEN is completed. -/
theorem State.decAnswer_armed (h : (s.tw w).dec = some (1, at_)) (he : (s.tw w).ending = none) :
    ((s.tw w).openCmd = none → s.decAnswer w 1 0 =
      ((s.updTw w (fun t => { t with dec := none })).updTw w (fun t => { t with ph := .sweep, cursor := 0, openCmd := none })).tPump w) ∧
    (∀ c, (s.tw w).openCmd = some c → s.decAnswer w 1 0 =
      (((s.updTw w (fun t => { t with dec := none })).updTw w (fun t => { t with
        ph := .sweep, cursor := 0, openCmd := none })).endCmd c 0 0 0).tPump w) := by
  constructor
  · intro hc
    unfold State.decAnswer
    dsimp only
    rw [h]
    dsimp only
    rw [if_neg (by decide), if_neg (fun hx => not_isSome he hx.2), if_pos rfl, if_pos rfl, hc]
  · intro c hc
    unfold State.decAnswer
    dsimp only
    rw [h]
    dsimp only
    rw [if_neg (by decide), if_neg (fun hx => not_isSome he hx.2), if_pos rfl, if_pos rfl, hc]

/-- The arm request is refused: the window goes back to IDLE, and TRANSIT_OPEN fails. -/
theorem State.decAnswer_unarmed (h : (s.tw w).dec = some (1, at_)) (he : (s.tw w).ending = none) (hcode : code ≠ 0) :
    ((s.tw w).openCmd = none → s.decAnswer w 1 code =
      (((s.updTw w (fun t => { t with dec := none })).raise0 0x0C5 w).updTw w (fun t => { t with openCmd := none })).tIdle w
        (s.tw w).outcome) ∧
    (∀ c, (s.tw w).openCmd = some c → s.decAnswer w 1 code =
      ((((s.updTw w (fun t => { t with dec := none })).raise0 0x0C5 w).updTw w (fun t => { t with openCmd := none })).endCmd c 0x19 0
        0).tIdle w (s.tw w).outcome) := by
  constructor
  · intro hc
    unfold State.decAnswer
    dsimp only
    rw [h]
    dsimp only
    rw [if_neg (by decide), if_neg (fun hx => not_isSome he hx.2), if_pos rfl, if_neg hcode, hc]
  · intro c hc
    unfold State.decAnswer
    dsimp only
    rw [h]
    dsimp only
    rw [if_neg (by decide), if_neg (fun hx => not_isSome he hx.2), if_pos rfl, if_neg hcode, hc]

theorem State.decAnswer_mirror (h : (s.tw w).dec = some (3, at_)) :
    s.decAnswer w 3 0 =
      ((s.updTw w (fun t => { t with dec := none })).updTw w (fun t => { t with mirrored := true, cursor := 0 })).tPump w := by
  unfold State.decAnswer
  dsimp only
  rw [h]
  dsimp only
  rw [if_neg (by decide), if_neg (by simp), if_neg (by decide), if_pos rfl, if_pos rfl]

theorem State.decAnswer_unmirror (h : (s.tw w).dec = some (3, at_)) (hcode : code ≠ 0) :
    s.decAnswer w 3 code = s.raise0 0x0C5 w := by
  unfold State.decAnswer
  dsimp only
  rw [h]
  dsimp only
  rw [if_neg (by decide), if_neg (by simp), if_neg (by decide), if_pos rfl, if_neg hcode]

/-- The answer to a request of an ending. -/
theorem State.decAnswer_off (h : (s.tw w).dec = some (o, at_)) (h1 : o ≠ 1) (h3 : o ≠ 3) (h5 : o ≠ 5) :
    s.decAnswer w o code =
      (if code = 0 then s.updTw w (fun t => { t with dec := none })
       else (s.updTw w (fun t => { t with dec := none })).raise0 0x0C5 w).tEnd w := by
  unfold State.decAnswer
  dsimp only
  rw [h]
  dsimp only
  rw [if_neg (by simp), if_neg (fun hx => h1 hx.1), if_neg h1, if_neg h3, if_neg h5]

/-- The rebind request is done: the hold is released, and the window closes. -/
theorem State.decAnswer_rebound {c : TConj} (h : (s.tw w).dec = some (5, at_)) (hc : (s.tw w).conj = some c) :
    ((s.tw w).conjoin = none → s.decAnswer w 5 0 =
      (((s.updTw w (fun t => { t with dec := none })).tRelease w).updTw w (fun t => { t with conj := none, conjoin := none })).tBegin w
        .close) ∧
    (∀ q id k, (s.tw w).conjoin = some (q, id, k) → s.decAnswer w 5 0 =
      ((((s.updTw w (fun t => { t with dec := none })).tRelease w).updTw w (fun t => { t with conj := none, conjoin := none })).endCmd
        (q, id) 0 0 (BitVec.ofNat 64 ((((s.updTw w (fun t => { t with dec := none })).tRelease w).updTw w (fun t => { t with
          conj := none, conjoin := none })).tw w).last)).tBegin w .close) := by
  constructor
  · intro hj
    unfold State.decAnswer
    dsimp only
    rw [h]
    dsimp only
    rw [if_neg (by decide), if_neg (by simp), if_neg (by decide), if_neg (by decide), if_pos rfl, hc]
    dsimp only
    rw [if_pos rfl, hj]
  · intro q id k hj
    unfold State.decAnswer
    dsimp only
    rw [h]
    dsimp only
    rw [if_neg (by decide), if_neg (by simp), if_neg (by decide), if_neg (by decide), if_pos rfl, hc]
    dsimp only
    rw [if_pos rfl, hj]

theorem State.decAnswer_refused {c : TConj} (h : (s.tw w).dec = some (5, at_)) (hc : (s.tw w).conj = some c) :
    s.decAnswer w 5 1 =
      ((s.updTw w (fun t => { t with dec := none })).updTw w (fun t => { t with conj := some { c with rebind := none } })).tAbandon w := by
  unfold State.decAnswer
  dsimp only
  rw [h]
  dsimp only
  rw [if_neg (by decide), if_neg (by simp), if_neg (by decide), if_neg (by decide), if_pos rfl, hc]
  dsimp only
  rw [if_neg (by decide), if_pos rfl]

/-! ### Timers -/

theorem State.decTimeout_mirror (h : (s.tw w).dec = some (3, at_)) :
    s.decTimeout w = ((s.reach (at_ + 100000000)).raise0 0x0C5 w).updTw w (fun t => { t with
      dec := some (3, ((s.reach (at_ + 100000000)).raise0 0x0C5 w).clk) }) := by
  unfold State.decTimeout
  dsimp only
  rw [h]
  dsimp only
  rw [if_neg (by decide), if_pos rfl]

theorem State.decTimeout_open (h : (s.tw w).dec = some (1, at_)) (he : (s.tw w).ending = none) :
    ((s.tw w).openCmd = none → s.decTimeout w =
      ((((s.reach (at_ + 100000000)).raise0 0x0C5 w).updTw w (fun t => { t with dec := none })).updTw w (fun t => { t with
        openCmd := none })).tIdle w (s.tw w).outcome) ∧
    (∀ c, (s.tw w).openCmd = some c → s.decTimeout w =
      (((((s.reach (at_ + 100000000)).raise0 0x0C5 w).updTw w (fun t => { t with dec := none })).updTw w (fun t => { t with
        openCmd := none })).endCmd c 0x19 0 0).tIdle w (s.tw w).outcome) := by
  have hnone : (s.tw w).ending.isNone = true := by rw [he]; rfl
  constructor
  · intro hc
    unfold State.decTimeout
    dsimp only
    rw [h]
    dsimp only
    rw [if_neg (by decide), if_neg (by decide), if_pos ⟨rfl, hnone⟩, hc]
  · intro c hc
    unfold State.decTimeout
    dsimp only
    rw [h]
    dsimp only
    rw [if_neg (by decide), if_neg (by decide), if_pos ⟨rfl, hnone⟩, hc]

theorem State.decTimeout_ending (h : (s.tw w).dec = some (o, at_)) (h3 : o ≠ 3) (h5 : o ≠ 5) (h1 : o ≠ 1 ∨ (s.tw w).ending ≠ none) :
    s.decTimeout w =
      (((s.reach (at_ + 100000000)).raise0 0x0C5 w).updTw w (fun t => { t with dec := none })).tEnd w := by
  have hguard : ¬(o = 1 ∧ (s.tw w).ending.isNone = true) := by
    rintro ⟨ho, hn⟩
    exact h1.elim (fun hx => hx ho) (fun hx => hx (Option.isNone_iff_eq_none.mp hn))
  unfold State.decTimeout
  dsimp only
  rw [h]
  dsimp only
  rw [if_neg h5, if_neg h3, if_neg hguard]

theorem State.rebindTimeout_out {c : TConj} {t : Nat} (hc : (s.tw w).conj = some c) (hr : c.rebind = some t) :
    s.rebindTimeout w = ((s.reach (t + 2000000)).updTw w (fun t => { t with dec := none })).raise0 0x0C6 w := by
  unfold State.rebindTimeout
  rw [hc]
  dsimp only
  rw [hr]

theorem State.holdAckTimeout_waiting {c : TConj} (hc : (s.tw w).conj = some c) (hack : c.acked = false) (hab : c.abandoning = false) :
    s.holdAckTimeout w = ((s.reach (c.tH + s.holdMax)).raise0 0x0C5 w).tAbandon w := by
  unfold State.holdAckTimeout
  rw [hc]
  dsimp only
  rw [if_neg (by simp [hack, hab])]

theorem State.conjDeadline_copying {c : TConj} (hc : (s.tw w).conj = some c) (hab : c.abandoning = false) (hr : c.rebind = none) :
    s.conjDeadline w = (s.reach (c.tH + (s.holdMax - s.guardPs))).tAbandon w := by
  unfold State.conjDeadline
  rw [hc]
  dsimp only
  rw [if_neg (by simp [hab, hr])]

/-! ### Clean intervals (R175) -/

/-- A page whose clean interval no notification fell into is clean. -/
theorem State.tClean_clean {c : PCopy} {p : Nat} (hc : (s.tw w).copies.find? (fun c => c.page == p && c.doneAt.isSome) = some c)
    (hd : c.doneAt = some at_) (hcon : c.conflict = false) :
    s.tClean w p =
      ((s.reach (at_ + s.dtrLat)).updTw w (fun t => { t with copies := t.copies.filter (fun x => x.page != p) })).tPump w := by
  unfold State.tClean
  dsimp only
  rw [hc]
  dsimp only
  rw [hd, hcon]
  rfl

/-- A page copied again, after its clean interval was broken: the fourth time it is deferred. -/
def TWin.conflicted (p k : Nat) (t : TWin) : TWin :=
  let v := t.setBit p true
  { v with conflicts := Tbl.put p k v.conflicts,
           deferred := if 4 ≤ k ∧ v.deferred.contains p = false then v.deferred ++ [p] else v.deferred }

theorem State.tClean_conflict {c : PCopy} {p : Nat} (hc : (s.tw w).copies.find? (fun c => c.page == p && c.doneAt.isSome) = some c)
    (hd : c.doneAt = some at_) (hcon : c.conflict = true) :
    s.tClean w p =
      ((s.reach (at_ + s.dtrLat)).updTw w (fun t =>
        TWin.conflicted p (Tbl.getD p 0 (s.tw w).conflicts + 1) { t with copies := t.copies.filter (fun x => x.page != p) })).tPump w := by
  unfold State.tClean
  dsimp only
  rw [hc]
  dsimp only
  rw [hd, hcon]
  refine congrArg (fun u => State.tPump u w) (State.updTw_congr ?_)
  simp only [if_true, Bool.not_eq_true']
  rfl

end

end Sys2Proof.Machine
end

section
/-! PROOFS. The statement on Transit events, clause by clause. -/

namespace Sys2Proof.Machine

open Sys2Proof.Safety

section
variable {s : State} {i : Fin 8} (hlive : Live s)
include hlive

theorem State.exec_dtrNotification (page : BitVec 30) :
    exec (.dtrNotification i page) s = ran s ((bare s).dtr i.val page.toNat) :=
  State.live_of_live hlive (fun s => s.dtr i.val page.toNat)

theorem State.exec_decAnswer (op : BitVec 3) (code : BitVec 2) :
    exec (.decAnswer i op code) s = ran s ((bare s).decAnswer i.val op.toNat code.toNat) :=
  State.live_of_live hlive (fun s => s.decAnswer i.val op.toNat code.toNat)

theorem State.exec_decAnswerTimeout : exec (.decAnswerTimeout i) s = ran s ((bare s).decTimeout i.val) :=
  State.live_of_live hlive (fun s => s.decTimeout i.val)

end

/-- What an answer of the decoder does, by the request it answers. -/
theorem decAnswer_clauses {s : State} {i : Fin 8} (hlive : Live s) (op : BitVec 3) (code : BitVec 2) :
    let b := bare s
    let w := i.val
    let t := s.tw w
    let does := fun (u : State) => exec (.decAnswer i op code) s = ran s u
    let u := b.updTw w (fun t => { t with dec := none })
    (t.dec = none → does (b.raise 0x0C5 0 0 w)) ∧
    (∀ o at_, t.dec = some (o, at_) →
      (o ≠ op.toNat → does (b.raise 0x0C5 0 0 w)) ∧
      (o = op.toNat → o = 1 → t.ending ≠ none → does ((if code = 0 then u else u.raise 0x0C5 0 0 w).tEnd w)) ∧
      (o = op.toNat → o = 1 → t.ending = none → code = 0 →
        let v := u.updTw w (fun t => { t with ph := .sweep, cursor := 0, openCmd := none })
        (t.openCmd = none → does (v.tPump w)) ∧ (∀ c, t.openCmd = some c → does ((v.endCmd c 0 0 0).tPump w))) ∧
      (o = op.toNat → o = 1 → t.ending = none → code ≠ 0 →
        let v := (u.raise 0x0C5 0 0 w).updTw w (fun t => { t with openCmd := none })
        (t.openCmd = none → does (v.tIdle w t.outcome)) ∧
        (∀ c, t.openCmd = some c → does ((v.endCmd c 0x19 0 0).tIdle w t.outcome))) ∧
      (o = op.toNat → o = 3 → code = 0 →
        does (State.tPump (u.updTw w (fun t => { t with mirrored := true, cursor := 0 })) w)) ∧
      (o = op.toNat → o = 3 → code ≠ 0 → does (b.raise 0x0C5 0 0 w)) ∧
      (o = op.toNat → o ≠ 1 → o ≠ 3 → o ≠ 5 → does ((if code = 0 then u else u.raise 0x0C5 0 0 w).tEnd w)) ∧
      (o = op.toNat → o = 5 → ∀ c, t.conj = some c →
        (code = 0 →
          let v := (u.tRelease w).updTw w (fun t => { t with conj := none, conjoin := none })
          (t.conjoin = none → does (v.tBegin w .close)) ∧
          (∀ q id k, t.conjoin = some (q, id, k) →
            does ((v.endCmd (q, id) 0 0 (BitVec.ofNat 64 (v.tw w).last)).tBegin w .close))) ∧
        (code = 1 →
          does (State.tAbandon (u.updTw w (fun t => { t with conj := some { c with rebind := none } })) w)))) := by
  have hcode0 : code.toNat = 0 ↔ code = 0 := by
    rw [← BitVec.toNat_inj]
    rfl
  have hne : code ≠ 0 → code.toNat ≠ 0 := fun h hx => h (hcode0.mp hx)
  intro b w t does u
  have hdoes : ∀ v, (bare s).decAnswer w op.toNat code.toNat = v → does v := by
    intro v hv
    rw [← hv]
    exact State.exec_decAnswer hlive op code
  refine ⟨fun h => hdoes _ (State.decAnswer_none (s := b) h), fun o at_ h => ⟨fun ho => ?other, fun ho h1 he => ?ending,
    fun ho h1 he hc => ?armed, fun ho h1 he hc => ?unarmed, fun ho h3 hc => ?mirror, fun ho h3 hc => ?unmirror,
    fun ho h1 h3 h5 => ?off, fun ho h5 c hconj => ⟨fun hc => ?rebound, fun hc => ?refused⟩⟩⟩
  case other => exact hdoes _ (State.decAnswer_other (s := b) h ho)
  case ending =>
    subst h1
    refine hdoes _ ?_
    rw [← ho, State.decAnswer_ending (s := b) h he, if_congr hcode0 rfl rfl]
    rfl
  case armed =>
    subst h1
    subst hc
    obtain ⟨hn, hs⟩ := State.decAnswer_armed (s := b) h he
    refine ⟨fun hcmd => hdoes _ ?_, fun c hcmd => hdoes _ ?_⟩
    · rw [← ho]
      exact hn hcmd
    · rw [← ho]
      exact hs c hcmd
  case unarmed =>
    subst h1
    obtain ⟨hn, hs⟩ := State.decAnswer_unarmed (s := b) h he (hne hc)
    refine ⟨fun hcmd => hdoes _ ?_, fun c hcmd => hdoes _ ?_⟩
    · rw [← ho]
      exact hn hcmd
    · rw [← ho]
      exact hs c hcmd
  case mirror =>
    subst h3
    subst hc
    refine hdoes _ ?_
    rw [← ho]
    exact State.decAnswer_mirror (s := b) h
  case unmirror =>
    subst h3
    refine hdoes _ ?_
    rw [← ho]
    exact State.decAnswer_unmirror (s := b) h (hne hc)
  case off =>
    refine hdoes _ ?_
    rw [← ho, State.decAnswer_off (s := b) h h1 h3 h5, if_congr hcode0 rfl rfl]
    rfl
  case rebound =>
    subst h5
    subst hc
    obtain ⟨hn, hs⟩ := State.decAnswer_rebound (s := b) h hconj
    refine ⟨fun hj => hdoes _ ?_, fun q id k hj => hdoes _ ?_⟩
    · rw [← ho]
      exact hn hj
    · rw [← ho]
      exact hs q id k hj
  case refused =>
    subst h5
    subst hc
    refine hdoes _ ?_
    rw [← ho]
    exact State.decAnswer_refused (s := b) h hconj

/-- Settles O53: notifications, answers, timers and clean intervals. -/
theorem transitEvents : Obligations.TransitEvents := by
  intro s i hlive
  dsimp only
  refine ⟨fun page h1 h2 hp => ⟨fun hroom => ?note, fun hph hbit => ?orbit, fun hph hmir => ?mirrored,
      fun c hph hc hack hreb hab => ?hold, fun hfull => ?lost⟩,
    decAnswer_clauses hlive,
    fun o at_ h => ⟨fun h3 => ?mirror, fun h1 he => ?ending, fun h1 he => ⟨fun hc => ?openNone, fun c hc => ?openSome⟩,
      fun h1 h3 h5 => ?off⟩,
    fun c hc => ⟨fun t0 hr => ?rebind, fun hack hab => ?ack, fun hab hr => ?deadline⟩,
    fun page c at_ hfind hd => ⟨fun hcon => ?clean, fun hcon => ?conflict⟩⟩
  case note =>
    rw [State.exec_dtrNotification hlive, State.dtr_open (s := bare s) hlive.2.1 h1 h2 hp, if_neg (by exact not_le.mpr hroom)]
  case orbit => exact State.tNote_orbit (s := bare s) hph hbit
  case mirrored => exact State.tNote_mirrored (s := bare s) hph hmir
  case hold => exact State.tNote_held (s := bare s) hph hc hack hreb hab
  case lost =>
    rw [State.exec_dtrNotification hlive, State.dtr_open (s := bare s) hlive.2.1 h1 h2 hp, if_pos (by exact hfull)]
    rfl
  case mirror =>
    subst h3
    rw [State.exec_decAnswerTimeout hlive, State.decTimeout_mirror (s := bare s) h]
    rfl
  case ending =>
    subst h1
    rw [State.exec_decAnswerTimeout hlive, State.decTimeout_ending (s := bare s) h (by decide) (by decide) (.inr he)]
    rfl
  case openNone =>
    subst h1
    rw [State.exec_decAnswerTimeout hlive, (State.decTimeout_open (s := bare s) h he).1 hc]
    rfl
  case openSome =>
    subst h1
    rw [State.exec_decAnswerTimeout hlive, (State.decTimeout_open (s := bare s) h he).2 c hc]
    rfl
  case off =>
    rw [State.exec_decAnswerTimeout hlive, State.decTimeout_ending (s := bare s) h h3 h5 (.inl h1)]
    rfl
  case rebind =>
    show s.live (fun s => s.rebindTimeout i.val) = _
    rw [State.live_of_live hlive, State.rebindTimeout_out (s := bare s) hc hr]
    rfl
  case ack =>
    show s.live (fun s => s.holdAckTimeout i.val) = _
    rw [State.live_of_live hlive, State.holdAckTimeout_waiting (s := bare s) hc hack hab]
    rfl
  case deadline =>
    show s.live (fun s => s.conjDeadline i.val) = _
    rw [State.live_of_live hlive, State.conjDeadline_copying (s := bare s) hc hab hr]
    rfl
  case clean =>
    show s.live (fun s => s.tClean i.val page.toNat) = _
    rw [State.live_of_live hlive, State.tClean_clean (s := bare s) hfind hd hcon]
    rfl
  case conflict =>
    show s.live (fun s => s.tClean i.val page.toNat) = _
    rw [State.live_of_live hlive, State.tClean_conflict (s := bare s) hfind hd hcon]
    rfl

end Sys2Proof.Machine
end

section
/-! PROOFS. Events of Engineering Services (R258 to R267). -/

namespace Sys2Proof.Machine

open Sys2Proof.Safety

/-! ### Rewrites and wear -/

theorem State.scrHoldTimeout_hold {s : State} {r ln t : Nat} (h : (s.scr r).rw_ = some (ln, .hold, t)) :
    s.scrHoldTimeout r =
      ((((((s.reach (t + 2000000)).scrRelease r).updScr r (fun c => { c with rw_ := none })).scrLog r 7 ln).raise0 0x123 r).scrPump
        r) := by
  unfold State.scrHoldTimeout
  rw [h]

/-- What the end of a wear interval does to the plan: the next step, the next round, or its end. -/
def State.wearTurn (u : State) (x : Wear) : State :=
  if x.step + 1 < x.nsteps then u.updWear (fun w => { w with waiting := none, step := x.step + 1 })
  else if x.loop_ = true then u.updWear (fun w => { w with waiting := none, step := 0, rounds := (x.rounds + 1) % 65536 })
  else u.updWear (fun w => { w with waiting := none, active := false })

theorem State.wearInterval_over {s : State} {t k : Nat} (h : s.bgs.wear.waiting = some t) (hnow : s.dataNow = true)
    (hk : s.bgs.wear.interval = k) :
    s.wearInterval = ((s.reach (t + k * 10 ^ 12)).wearTurn s.bgs.wear).wearFetch := by
  unfold State.wearInterval
  dsimp only
  rw [h]
  dsimp only
  rw [if_neg (not_of_true hnow), hk]
  obtain ⟨at_, hat⟩ : ∃ a, a = t + k * 10 ^ 12 := ⟨_, rfl⟩
  rw [← hat]
  rfl

theorem State.wearStart_step {s : State} {ws : List Word} {i n : Nat} {p : TParam} (hrec : s.bgs.wear.rec_ = some ws)
    (hact : s.bgs.wear.active = true) (hin : s.bgs.wear.inStep = false) (hwait : s.bgs.wear.waiting = none) (hnow : s.dataNow = true)
    (htrn : s.isOn domTRN = true) (hbgs : s.isOn domBGS = true) (hi : (List.range 8).find? (fun i => (s.tw i).ph == .idle) = some i)
    (hp : tParse ws = some (n, p)) (hcls : p.cls = 3) (hok : s.tParamOk p = true) :
    s.wearStart = State.updTw ((s.updWear (fun w => { w with inStep := true, win := i, rec_ := none })).tOpen i p none true) i
      (fun t => { t with conjoin := some (0x3000, 0, s.bgs.wear.tries) }) := by
  unfold State.wearStart
  dsimp only
  rw [hrec]
  dsimp only
  rw [if_neg (by simp [hact, hin, hwait, hnow, htrn, hbgs]), hi]
  dsimp only
  rw [hp]
  dsimp only
  rw [if_neg (by simp [hcls, hok])]

/-! ### Calibration -/

/-- A calibration of one attachment changes no register. -/
theorem State.cfg_calXa (s : State) (n f : Nat) : (s.calXa n f).cfg = s.cfg := by
  have htag : ∀ (s : State) (tags avg : Nat), (s.tagRate tags avg).2.cfg = s.cfg := by
    intro s tags avg
    unfold State.tagRate
    split <;> rfl
  unfold State.calXa
  dsimp only
  split
  · exact (htag _ _ _).trans (htag _ _ _)
  · exact (htag _ _ _).trans (htag _ _ _)

theorem State.cfg_calAll (s : State) (f : List Nat) (l : List Nat) :
    (l.foldl (fun s n => s.calXa n (f.getD n 0)) s).cfg = s.cfg := by
  induction l generalizing s with
  | nil => rfl
  | cons n l ih => rw [List.foldl_cons, ih, State.cfg_calXa]

/-- What the calibration of an attachment finds, where both directions have been sampled. -/
def State.xaFound (s : State) (n f : Nat) : RateM :=
  let est := fun (tags i : Nat) => min (budgetB (min (s.xaFreq n) f) s.T) (tags * (s.T / 1000) / (s.bgs.lat.getD (2 * n + i) {}).avg)
  { rdEst := est 8192 0, wrEst := est 4096 1, fMeas := f, fLow := decide (f * 100 < s.xaFreq n * 99) }

theorem State.calXa_sampled {s : State} {n : Nat} (hrd : (s.bgs.lat.getD (2 * n) {}).avg ≠ 0)
    (hwr : (s.bgs.lat.getD (2 * n + 1) {}).avg ≠ 0) (f : Nat) :
    s.calXa n f =
      let u : State := { s with bgs := { s.bgs with rate := setAt n (s.xaFound n f) s.bgs.rate } }
      if decide (f * 100 < s.xaFreq n * 99) = true then u.raise0 0x124 n else u := by
  have htag : ∀ (tags avg : Nat), avg ≠ 0 → s.tagRate tags avg = (tags * (s.T / 1000) / avg, s) := fun tags avg h => if_neg h
  unfold State.calXa
  dsimp only
  rw [htag _ _ hrd]
  dsimp only
  rw [htag _ _ hwr]
  rfl

/-- The figures of a calibration period: extremes, temperatures, voltage. -/
def State.calFigures (u : State) (temps : List Int) (vcore : Nat) : State :=
  { u with bgs := { u.bgs with
    lat := u.bgs.lat.map (fun l => { l with max := l.curMax, samples := l.curN, curMax := 0, curN := 0 }),
    temp := temps.foldl max (temps.headD 0), hot := (temps.findIdx? (· == temps.foldl max (temps.headD 0))).getD 0, vcore := vcore } }

theorem State.bgsCtl_of_cfg {s u : State} (h : u.cfg = s.cfg) : u.bgsCtl = s.bgsCtl := by
  unfold State.bgsCtl State.reg
  rw [h]

/-- WARN rises with a period whose top temperature reaches the limit. -/
theorem State.warnRise_calFigures {s u : State} (h : u.cfg = s.cfg) (temps : List Int) (vcore : Nat) :
    (u.calFigures temps vcore).warnRise s.warm =
      if 4 * (fld s.bgsCtl 16 10 : Int) ≤ temps.foldl max (temps.headD 0) ∧ ¬4 * (fld s.bgsCtl 16 10 : Int) ≤ s.bgs.temp then
        (u.calFigures temps vcore).raise0 0x125 ((temps.findIdx? (· == temps.foldl max (temps.headD 0))).getD 0)
      else u.calFigures temps vcore := by
  have hwarm : (u.calFigures temps vcore).warm = decide (4 * (fld s.bgsCtl 16 10 : Int) ≤ temps.foldl max (temps.headD 0)) := by
    rw [← State.bgsCtl_of_cfg h]
    rfl
  unfold State.warnRise
  rw [hwarm, State.warm]
  simp only [decide_eq_true_eq, Bool.not_eq_true', decide_eq_false_iff_not]
  rfl

section
variable {s : State} (hm : s.mode ≠ .safe) (hoff : s.mode ≠ .off) (hen : fbit s.bgsCtl 0 = true) (hon : s.isOn domBGS = true)
  (hcal : s.bgs.calOff = false)
include hm hoff hen hon hcal

theorem State.calibrate_period (f : List Nat) (temps : List Int) (vcore : Nat) :
    s.calibrate f temps vcore =
      if 4 * (fld s.bgsCtl 16 10 : Int) ≤ temps.foldl max (temps.headD 0) ∧ ¬4 * (fld s.bgsCtl 16 10 : Int) ≤ s.bgs.temp then
        (((List.range 8).foldl (fun s n => s.calXa n (f.getD n 0)) s).calFigures temps vcore).raise0 0x125
          ((temps.findIdx? (· == temps.foldl max (temps.headD 0))).getD 0)
      else ((List.range 8).foldl (fun s n => s.calXa n (f.getD n 0)) s).calFigures temps vcore := by
  unfold State.calibrate
  rw [if_neg (by simp [hm, hoff, hen, hon, hcal])]
  exact State.warnRise_calFigures (State.cfg_calAll s f (List.range 8)) temps vcore

/-! ### The tick-phase trim (R263) -/

theorem State.trimTick_on (hhold : s.tt.holdover = false) (err : Int) :
    s.trimTick err =
      if err = 0 then { s with bgs := { s.bgs with lastErr := err } }
      else if (if err > 0 then s.bgs.trim - 1 else s.bgs.trim + 1) < -512 ∨ (if err > 0 then s.bgs.trim - 1 else s.bgs.trim + 1) > 511 then
        State.raise0 { s with bgs := { s.bgs with lastErr := err, range := true } } 0x126 0
      else { s with bgs := { s.bgs with
        lastErr := err, trim := if err > 0 then s.bgs.trim - 1 else s.bgs.trim + 1, updates := (s.bgs.updates + 1) % 2 ^ 32 } } := by
  unfold State.trimTick
  dsimp only
  rw [if_neg (by simp [hm, hoff, hen, hon, hcal, hhold])]

end

/-- Settles O54, event by event. -/
theorem engineeringEvents : Obligations.EngineeringEvents := by
  intro s
  dsimp only
  refine ⟨fun hlive => ⟨fun r ln t hrw => ?rewrite, fun t ht hnow => ?interval,
      fun ws i n p hrec hact hin hwait hnow htrn hbgs hi hp hcls hok => ?step⟩,
    fun hlive hen hon hcal => ⟨fun f temps vcore _ => ⟨fun hw => ?quiet, fun hw hwas => ?warn⟩, fun n f hrd hwr => ?xa,
      fun err hhold => ⟨fun he => ?zero, fun he hlo hhi => ?trim, fun he hrange => ?range⟩⟩⟩
  case rewrite =>
    show s.live (fun s => s.scrHoldTimeout r.val) = _
    rw [State.live_of_live hlive, State.scrHoldTimeout_hold (s := bare s) hrw]
    rfl
  case interval =>
    show s.live (fun s => s.wearInterval) = _
    rw [State.live_of_live hlive, State.wearInterval_over (s := bare s) (k := s.bgs.wear.interval) ht hnow rfl]
    rfl
  case step =>
    show s.live (fun s => s.wearStart) = _
    rw [State.live_of_live hlive, State.wearStart_step (s := bare s) hrec hact hin hwait hnow htrn hbgs hi hp hcls hok]
    rfl
  case quiet =>
    show s.act (fun s => s.calibrate f temps vcore) = _
    rw [State.act_of_free hlive.1, State.calibrate_period (s := bare s) hlive.2.1 hlive.2.2 hen hon hcal, if_neg ?cold]
    · rfl
    case cold =>
      rintro ⟨h1, h2⟩
      rcases hw with hw | hw
      · exact (decide_eq_false_iff_not.mp hw) h1
      · exact h2 (decide_eq_true_iff.mp hw)
  case warn =>
    show s.act (fun s => s.calibrate f temps vcore) = _
    rw [State.act_of_free hlive.1, State.calibrate_period (s := bare s) hlive.2.1 hlive.2.2 hen hon hcal,
      if_pos (by exact ⟨decide_eq_true_iff.mp hw, decide_eq_false_iff_not.mp hwas⟩)]
    rfl
  case xa => exact State.calXa_sampled hrd hwr f
  case zero =>
    show s.act (fun s => s.trimTick err) = _
    rw [State.act_of_free hlive.1, State.trimTick_on (s := bare s) hlive.2.1 hlive.2.2 hen hon hcal hhold, if_pos he]
    rfl
  case trim =>
    show s.act (fun s => s.trimTick err) = _
    rw [State.act_of_free hlive.1, State.trimTick_on (s := bare s) hlive.2.1 hlive.2.2 hen hon hcal hhold, if_neg he,
      if_neg (by exact fun hx => hx.elim (not_lt.mpr hlo) (not_lt.mpr hhi))]
    rfl
  case range =>
    show s.act (fun s => s.trimTick err) = _
    rw [State.act_of_free hlive.1, State.trimTick_on (s := bare s) hlive.2.1 hlive.2.2 hen hon hcal hhold, if_neg he,
      if_pos (by exact hrange)]
    rfl

end Sys2Proof.Machine
end

section
/-! PROOFS. Fault messages (R279, R285, R290): a forced message of a hardwired source is no trip. -/

namespace Sys2Proof.Machine

open Sys2Proof.Safety

/-- The cause of SAFE outlives the end of the command. -/
theorem State.cause_done (s t : State) : (s.done t).sbx.cause = t.sbx.cause := by
  obtain ⟨h, i, heq, -⟩ := samplingChangesOnlyMarks t
  unfold State.done
  rw [heq]

/-- The cause of SAFE after a command can be read off its result. -/
theorem cause_of_ran {s t u : State} (h : ran s t = ran s u) :
    ((bare s).follow t).sbx.cause = ((bare s).follow u).sbx.cause := by
  rw [ran, ran] at h
  have hcause := congrArg (fun t => t.sbx.cause) (Host.Outcome.next.inj h)
  simpa only [State.cause_done] using hcause

/-- A message latched, and recorded where its class or NOLOG says so (R279). -/
def State.recorded (u : State) (m : Msg) : State :=
  let l := u.latch m (u.applied m)
  let x := l.logMsg (m.word (u.applied m))
  if u.noLog m.source = true ∧ u.applied m < 3 then l
  else { x with sbx := { x.sbx with fltq := fltPush x.sbx.fltq (m.word (u.applied m)) } }

/-- The message of a detector's report. -/
def reportMsg (d : Detection) (ns : Nat) : Msg :=
  { source := d.source, kind := d.kind.toNat, addr := d.addr.toNat, ctx := d.context.toNat, time := ns }

/-- What O55 says of a report of a class above Containing. -/
theorem entering_of_faultEvents (h : Obligations.FaultEvents) {s : State} {d : Detection} (hheld : s.held = false)
    (hsafe : s.mode ≠ .safe) (hoff : s.mode ≠ .off) (hk : d.kind.toNat = 0x3F) (hc : 2 < (bare s).applied (reportMsg d s.ns)) :
    exec (.faultMessage (some d)) s = ran s (entering ((bare s).recorded (reportMsg d s.ns))
      (if hardwired d.source = true then 3 else 0) d.source ((bare s).applied (reportMsg d s.ns) == 4)) :=
  (((h s d (reportMsg d s.ns) 0 0 hheld).1 (.inr hk)).1 hsafe hoff).2.2.2 hc

theorem exec_faultMessage {s : State} (hheld : s.held = false) (det : Option Detection) :
    exec (.faultMessage det) s = ran s ((bare s).faultMessage det) := by
  show s.run (fun s => s.faultMessage det) = _
  rw [State.run_of_free hheld]

/-- A Station in FACTORY_TEST at reset values. -/
def idleStation : State := { State.reset with held := false, mode := .factoryTest }

/-- A detector's report of a Terminal source of the hardwired path, with the kind of a forced message. -/
def forcedTrip : Detection := ⟨0x17C, 0x3F, 0, 0⟩

/-- The model enters SAFE with CAUSE 0. -/
theorem forcedTrip_cause : ((bare idleStation).follow ((bare idleStation).faultMessage (some forcedTrip))).sbx.cause = 0 := by
  decide

/-- CAUSE 3 of a trip stays in what follows. -/
theorem hardwiredTrip_cause :
    ((bare idleStation).follow (entering ((bare idleStation).recorded (reportMsg forcedTrip idleStation.ns))
      (if hardwired forcedTrip.source = true then 3 else 0) forcedTrip.source
      ((bare idleStation).applied (reportMsg forcedTrip idleStation.ns) == 4))).sbx.cause = 3 := by
  decide

/-- Refutes O55: a report of source 0x17C with kind 0x3F is no trip, and SAFE is entered with CAUSE 0. -/
theorem not_faultEvents : ¬ Obligations.FaultEvents := by
  intro h
  have hmode : idleStation.mode = .factoryTest := rfl
  have hclass : 2 < (bare idleStation).applied (reportMsg forcedTrip idleStation.ns) := by decide
  have hclaim := entering_of_faultEvents h (s := idleStation) (d := forcedTrip) rfl (by simp [hmode]) (by simp [hmode]) rfl hclass
  have hran := exec_faultMessage (s := idleStation) rfl (some forcedTrip)
  have hcause := cause_of_ran (hran.symm.trans hclaim)
  rw [forcedTrip_cause, hardwiredTrip_cause] at hcause
  exact absurd hcause (by decide)

end Sys2Proof.Machine
end

section
/-! PROOFS. Metering (R303 to R307, R310, R312 to R316, R397). -/

namespace Sys2Proof.Machine

open Sys2Proof.Safety

/-! ### The Tap -/

/-- The Weighbridge after a lost event. -/
def State.tapLoss (s : State) : State :=
  (s.updWbg (fun w => { w with lost := min (2 ^ 32 - 1) (w.lost + 1), tapLost := true, ivTap := true })).raise0 0x171 0

theorem State.tapEvent_counted {s : State} {e : Tap} {rest : List Tap} (htap : s.tap = e :: rest) (hst : s.wbg.st ≠ 2)
    (seen : Option Tap) (hok : tapOk (seen.getD e) = true) :
    s.tapEvent seen true =
      let n := (seen.getD e).toNat
      let k := 8 * bits n 4 8 + bits n 0 3
      let a := bits n 28 36 + (if byteQty (bits n 0 3) = true then bits n 12 16 * s.wbg.ovh else 0)
      State.updWbg { s with tap := rest } (fun w => { w with pend := Tbl.put k (min (2 ^ 48 - 1) (Tbl.getD k 0 w.pend + a)) w.pend }) := by
  unfold State.tapEvent
  rw [htap]
  dsimp only
  rw [if_neg hst]
  exact if_pos ⟨rfl, hok⟩

theorem State.tapEvent_lost {s : State} {e : Tap} {rest : List Tap} (htap : s.tap = e :: rest) (hst : s.wbg.st ≠ 2)
    (seen : Option Tap) {clocked : Bool} (hbad : ¬(clocked = true ∧ tapOk (seen.getD e) = true)) :
    s.tapEvent seen clocked = State.tapLoss { s with tap := rest } := by
  unfold State.tapEvent
  rw [htap]
  dsimp only
  rw [if_neg hst]
  exact if_neg hbad

theorem State.tapDrain_counting {s : State} (hst : s.wbg.st ≠ 2) :
    s.tapDrain none = s.updWbg (fun w => { w with pend := [], ctr := s.wbg.pend.foldl (fun c p =>
      Tbl.put p.1 (min (2 ^ 96 - 1) (Tbl.getD p.1 0 c + p.2)) c) w.ctr }) := by
  unfold State.tapDrain
  exact if_neg hst

/-! ### Intervals and records -/

theorem State.updWbg_congr {s : State} {f g : Wbg → Wbg} (h : f s.wbg = g s.wbg) : s.updWbg f = s.updWbg g :=
  congrArg (fun w => { s with wbg := w }) h

/-- A record put into the interval slot leaves the chain as it stands. -/
theorem State.ivPut_chain (s : State) (r : WRec) :
    (s.ivPut r).wbg.seq = s.wbg.seq ∧ (s.ivPut r).wbg.n = s.wbg.n ∧ (s.ivPut r).wbg.valid = s.wbg.valid := by
  unfold State.ivPut
  dsimp only
  split <;> exact ⟨rfl, rfl, rfl⟩

/-- The chain after the record r of an interval that ended at `last`. -/
def Wbg.nextInterval (w : Wbg) (seq n last : Nat) (valid : Bool) (r : WRec) : Wbg :=
  { w with seq := seq, n := n, ivStart := last, last := some r, ivHold := !valid, ivTap := false, ivTick := false }

theorem State.ivPut_nextInterval (s : State) (r : WRec) (last : Nat) :
    (s.ivPut r).updWbg (fun w => w.nextInterval (w.seq + 1) (w.n + 1) last w.valid r) =
      (s.ivPut r).updWbg (fun w => w.nextInterval (s.wbg.seq + 1) (s.wbg.n + 1) last s.wbg.valid r) := by
  obtain ⟨hseq, hn, hvalid⟩ := State.ivPut_chain s r
  refine State.updWbg_congr ?_
  rw [hseq, hn, hvalid]

theorem State.intervalEnd_chain {s : State} (h : s.wbg.chain = true) {last : Nat} (hl : last = s.wbg.ivStart + s.wbg.secs * 1000000000) :
    s.intervalEnd =
      let u := s.advance (last * 1000 - s.wbg.time)
      let r : WRec := { u.wrec 1 with seq := s.wbg.seq + 1, end_ := last }
      (u.ivPut r).updWbg (fun w => w.nextInterval (s.wbg.seq + 1) (s.wbg.n + 1) last s.wbg.valid r) := by
  unfold State.intervalEnd
  dsimp only
  rw [if_neg (not_of_true h), ← hl]
  exact State.ivPut_nextInterval (s.advance (last * 1000 - s.wbg.time)) _ last

theorem State.recordReady_interval {s : State} (h : s.wbg.iv.rec_.isSome = true) :
    s.recordReady false = s.updWbg (fun w => { w with iv := { w.iv with ready := true } }) := by
  show s.updWbg (fun w => { w with iv := { w.iv with ready := w.iv.rec_.isSome } }) = _
  exact State.updWbg_congr (congrArg (fun x => { s.wbg with iv := { s.wbg.iv with ready := x } }) h)

theorem State.recordReady_snap {s : State} (h : s.wbg.snap.rec_.isSome = true) :
    s.recordReady true = s.updWbg (fun w => { w with snap := { w.snap with ready := true } }) := by
  show s.updWbg (fun w => { w with snap := { w.snap with ready := w.snap.rec_.isSome } }) = _
  exact State.updWbg_congr (congrArg (fun x => { s.wbg with snap := { s.wbg.snap with ready := x } }) h)

/-! ### Keys -/

/-- A key transfer of 36 bytes whose checksum is that of its key. -/
def keyGood (bs : List Byte) : Prop :=
  (bs.map BitVec.toNat).length = 36 ∧ crc32c 0 ((bs.map BitVec.toNat).take 32) = leNat ((bs.map BitVec.toNat).drop 32)

/-- The Weighbridge with a key it has taken. -/
def State.keyed (s : State) (bs : List Byte) : State :=
  s.updWbg (fun w => { w with keyStat := 1, key := some (leNat ((bs.map BitVec.toNat).take 32)) })

theorem State.keyTransfer_held {s : State} (h : s.wbg.keyStat = 1 ∨ s.wbg.keyStat = 3) (bs : List Byte) :
    s.keyTransfer bs = (s.updWbg (fun w => { w with keyStat := 3 })).tamper 4 (3, 4, 0) :=
  if_pos h

theorem State.keyTransfer_bad {s : State} (h : ¬(s.wbg.keyStat = 1 ∨ s.wbg.keyStat = 3)) {bs : List Byte} (hbad : ¬keyGood bs) :
    s.keyTransfer bs = s.updWbg (fun w => { w with keyStat := 2 }) :=
  (if_neg h).trans (if_neg hbad)

theorem State.keyTransfer_taken {s : State} (h : ¬(s.wbg.keyStat = 1 ∨ s.wbg.keyStat = 3)) {bs : List Byte} (hgood : keyGood bs)
    (hst : s.wbg.st ≠ 1 ∨ s.wbg.chain = true) : s.keyTransfer bs = s.keyed bs := by
  refine (if_neg h).trans ((if_pos hgood).trans (if_neg ?_))
  rintro ⟨h1, h2⟩
  rcases hst with hst | hst
  · exact hst h1
  · exact not_of_true hst h2

theorem State.keyTransfer_sealed {s : State} (h : ¬(s.wbg.keyStat = 1 ∨ s.wbg.keyStat = 3)) {bs : List Byte} (hgood : keyGood bs)
    (hst : s.wbg.st = 1) (hchain : s.wbg.chain = false) {ovh secs kcv : Nat} (hcells : s.wbg.cells = some (ovh, secs, kcv)) :
    s.keyTransfer bs =
      if kcv = kcvOf (leNat ((bs.map BitVec.toNat).take 32)) then (s.keyed bs).chainStart else (s.keyed bs).wbgBreak 0x17B 0 := by
  unfold State.keyTransfer
  dsimp only
  rw [if_neg h]
  refine (if_pos hgood).trans ?_
  rw [if_pos ⟨hst, by simp [hchain]⟩, hcells]
  rfl

theorem State.keyGap_idle {s : State} (h : s.wbg.keyStat = 0 ∨ s.wbg.keyStat = 2) :
    s.keyGap = s.updWbg (fun w => { w with keyStat := 2 }) :=
  if_pos h

theorem State.keyTimeout_sealed {s : State} {at_ : Nat} (hst : s.wbg.st = 1) (hchain : s.wbg.chain = false)
    (hat : at_ = s.wbg.relAt + 100000000000) : s.keyTimeout = (s.reach at_).wbgBreak 0x17B 0 := by
  unfold State.keyTimeout
  rw [if_pos ⟨hst, by simp [hchain]⟩, hat]

/-! ### The Weighbridge's events -/

/-- Settles O56: each event of the Weighbridge, by what it finds. -/
theorem meteringEvents : Obligations.MeteringEvents := by
  intro s hheld
  dsimp only
  refine ⟨fun e rest htap hst seen => ⟨fun hok => ?counted, fun hbad => ?badly, ?unclocked⟩, fun hst => ?drain, fun t => ?mismatch,
    fun hchain => ?interval, fun hrec => ?ready, fun hrec => ?snapReady,
    fun bs => ⟨fun h1 h3 hgood => ⟨fun hst => ?taken, fun hst hchain ovh secs kcv hcells => ?atStart⟩, fun h1 h3 hbad => ?rejected,
      fun hkey => ?second⟩,
    fun hkey => ?gap, fun hst hchain => ?late, fun khz => ?clock⟩
  case counted =>
    show s.act (fun s => s.tapEvent seen true) = _
    rw [State.act_of_free hheld, State.tapEvent_counted (s := bare s) htap hst seen hok]
    rfl
  case badly =>
    show s.act (fun s => s.tapEvent seen true) = _
    rw [State.act_of_free hheld, State.tapEvent_lost (s := bare s) htap hst seen (by simp [hbad])]
    rfl
  case unclocked =>
    show s.act (fun s => s.tapEvent seen false) = _
    rw [State.act_of_free hheld, State.tapEvent_lost (s := bare s) htap hst seen (by simp)]
    rfl
  case drain =>
    show s.act (fun s => s.tapDrain none) = _
    rw [State.act_of_free hheld, State.tapDrain_counting (s := bare s) hst]
    rfl
  case mismatch =>
    show s.act (fun s => s.tapDrain (some t)) = _
    rw [State.act_of_free hheld]
    rfl
  case interval =>
    show s.act (fun s => s.intervalEnd) = _
    rw [State.act_of_free hheld, State.intervalEnd_chain (s := bare s) hchain rfl]
    rfl
  case ready =>
    show s.act (fun s => s.recordReady false) = _
    rw [State.act_of_free hheld, State.recordReady_interval (s := bare s) hrec]
    rfl
  case snapReady =>
    show s.act (fun s => s.recordReady true) = _
    rw [State.act_of_free hheld, State.recordReady_snap (s := bare s) hrec]
    rfl
  case taken =>
    show s.act (fun s => s.keyTransfer bs) = _
    rw [State.act_of_free hheld, State.keyTransfer_taken (s := bare s) (not_or.2 ⟨h1, h3⟩) hgood hst]
    rfl
  case atStart =>
    show s.act (fun s => s.keyTransfer bs) = _
    rw [State.act_of_free hheld,
      State.keyTransfer_sealed (s := bare s) (not_or.2 ⟨h1, h3⟩) hgood hst hchain hcells]
    rfl
  case rejected =>
    show s.act (fun s => s.keyTransfer bs) = _
    rw [State.act_of_free hheld, State.keyTransfer_bad (s := bare s) (not_or.2 ⟨h1, h3⟩) hbad]
    rfl
  case second =>
    show s.act (fun s => s.keyTransfer bs) = _
    rw [State.act_of_free hheld, State.keyTransfer_held (s := bare s) hkey]
    rfl
  case gap =>
    show s.act (fun s => s.keyGap) = _
    rw [State.act_of_free hheld, State.keyGap_idle (s := bare s) hkey]
    rfl
  case late =>
    show s.act (fun s => s.keyTimeout) = _
    rw [State.act_of_free hheld, State.keyTimeout_sealed (s := bare s) hst hchain rfl]
    rfl
  case clock =>
    show s.act (fun s => s.vltCal khz) = _
    rw [State.act_of_free hheld]
    rfl

end Sys2Proof.Machine
end

section
/-! PROOFS. Frames received on the Peer Link (R356 to R363, R369). -/

namespace Sys2Proof.Machine

open Sys2Proof.Safety

/-! ### Discovery -/

/-- What a presence frame says of its sender. -/
def presOf (now : Nat) (f : Word) : Pres :=
  { at_ := now, dist := fHops f + 1, len := fld f 32 3, phase := fld f 35 14, log2l := fld f 49 4, fwdEn := fbit f 53, modeOk := fbit f 54 }

theorem State.presence_other {s : State} {f : Word} (hin : s.peerIn = true) (hok : frameOk f = true) (ht : fType f = 1)
    (horg : fOrigin f ≠ s.stn.id) (hopen : s.sbx.fpeer = false) :
    s.presence f = (s.updStn (fun x => { x with seen := Tbl.put (fOrigin f) (presOf s.clk f) x.seen })).relay f := by
  unfold State.presence
  rw [if_neg (by simp [hok, ht, hin]), if_neg horg]
  dsimp only
  rw [if_neg (ne_true_of_eq_false hopen)]
  rfl

theorem State.presence_duplicate {s : State} {f : Word} (hin : s.peerIn = true) (hok : frameOk f = true) (ht : fType f = 1)
    (horg : fOrigin f = s.stn.id) (hnonce : fld f 16 16 ≠ s.stn.nonce % 65536) (hopen : s.sbx.fpeer = false) :
    s.presence f = (s.updStn (fun x => { x with dup := true })).raise0 0x142 s.stn.id := by
  unfold State.presence
  rw [if_neg (by simp [hok, ht, hin]), if_pos horg, if_neg (by simp [hnonce, hopen])]

theorem State.presenceExpiry_seen {s : State} {n at_ : Nat} {p : Pres} (h : Tbl.get n s.stn.seen = some p) (hat : at_ = p.at_ + 65536000) :
    s.presenceExpiry n = (s.reach at_).updStn (fun x => { x with seen := Tbl.del n x.seen }) := by
  unfold State.presenceExpiry
  rw [h, hat]

/-! ### Tick agreement -/

/-- The nearest own boundary, counted from the tick in progress, of a received TICK frame's first edge. -/
def State.frameUp (s : State) (f : Word) (arrival : Nat) : Int :=
  (arrival : Int) - (fld s.stnCtl 16 16 * 10 : Nat) - (fld f 16 14 * 10 : Nat)
def State.frameTicks (s : State) (f : Word) (arrival : Nat) : Int :=
  (2 * (s.frameUp f arrival - (s.tt.tickStart : Int)) + (s.T : Int)) / (2 * (s.T : Int))

/-- The error of a TICK frame against that boundary. -/
def State.frameErr (s : State) (f : Word) (arrival : Nat) : Int :=
  s.frameUp f arrival - (s.tt.tickStart : Int) - s.frameTicks f arrival * (s.T : Int)

/-- The number of that boundary, and how far the frame's number is from it. -/
def State.frameNum (s : State) (f : Word) (arrival : Nat) : Int := (s.tt.tickNum : Int) + s.frameTicks f arrival
def State.frameOff (s : State) (f : Word) (arrival : Nat) : Int :=
  ((fld f 32 16 : Nat) - s.frameNum f arrival + 32768) % 65536 - 32768

/-- The Station with the error of its last TICK frame. -/
def State.erred (s : State) (f : Word) (arrival : Nat) : State :=
  s.updStn (fun x => { x with lastErr := max (-32768) (min 32767 (s.frameErr f arrival / 10)) })

/-- A follower that slews: its error, whether it was aligned and no longer is, and its count of good frames. -/
def Stn.slewed (x : Stn) (e : Int) (lose : Bool) (good : Nat) : Stn :=
  { x with holdover := false, quiet := 0, good := good, aligned := !lose && (x.aligned || decide (16 ≤ good)),
           slew := if e < 0 then -(min (e.natAbs : Int) 250) else min (e.natAbs : Int) 250, step := none }

/-- A follower that steps at the next boundary. -/
def Stn.stepped (x : Stn) (corr up num : Int) : Stn :=
  { x with holdover := false, quiet := 0, good := 0, aligned := false, slew := 0, step := some (corr, up, num) }

theorem ite_false_bool (b c : Bool) : (if b = true then false else c) = (!b && c) := by cases b <;> rfl

section
variable {s : State} {f : Word} {arrival : Nat} (hin : s.peerIn = true) (hok : frameOk f = true) (ht : fType f = 2)
  (hopen : s.sbx.fpeer = false) (hrun : s.tt.running = true)
include hin hok ht hopen hrun

theorem State.tickFrame_zero (hid : s.stn.id = 0) :
    s.tickFrame f arrival =
      if 2000 < (s.frameErr f arrival).natAbs then (s.erred f arrival).raise0 0x141 0 else s.erred f arrival := by
  unfold State.tickFrame
  rw [if_neg (by simp [hok, ht, hin, hopen, hrun])]
  dsimp only
  rw [if_pos (by simp [hid])]
  rfl

section
variable {p : Pres} (hid : s.stn.id ≠ 0) (hp : Tbl.get 0 s.stn.seen = some p) (hlen : p.len = s.tt.cfgLen) (hph : p.phase = s.tt.cfgPhase)
include hid hp hlen hph

theorem State.tickFrame_unusable (h : fbit f 30 = false ∨ s.alignEn = false) :
    s.tickFrame f arrival = (s.erred f arrival).lineHoldover := by
  unfold State.tickFrame
  rw [if_neg (by simp [hok, ht, hin, hopen, hrun])]
  dsimp only
  rw [if_neg (by simp [hid]), hp]
  dsimp only
  rw [if_neg (by simp [hlen, hph]), if_pos (by rcases h with h | h <;> simp [h])]
  rfl

theorem State.tickFrame_slew (hon : fbit f 30 = true) (hal : s.alignEn = true) (hoff : s.frameOff f arrival = 0)
    (hsmall : 4 * ((s.frameErr f arrival).natAbs : Int) ≤ (s.T : Int)) {good : Nat} {lose : Bool}
    (hgood : good = if (s.frameErr f arrival).natAbs ≤ 1000 then min 16 (s.stn.good + 1) else 0)
    (hlose : lose = (s.stn.aligned && decide (2000 < (s.frameErr f arrival).natAbs))) :
    s.tickFrame f arrival =
      let u := (s.erred f arrival).updStn (fun x => x.slewed (s.frameErr f arrival) lose good)
      if lose = true then u.raise0 0x141 s.stn.id else u := by
  unfold State.tickFrame
  rw [if_neg (by simp [hok, ht, hin, hopen, hrun])]
  dsimp only
  rw [if_neg (by simp [hid]), hp]
  dsimp only
  rw [if_neg (by simp [hlen, hph]), if_neg (by simp [hon, hal])]
  refine (if_pos ⟨hoff, hsmall⟩).trans ?_
  simp only [ite_false_bool]
  subst hgood hlose
  rfl

theorem State.tickFrame_step (hon : fbit f 30 = true) (hal : s.alignEn = true)
    (hfar : s.frameOff f arrival ≠ 0 ∨ (s.T : Int) < 4 * ((s.frameErr f arrival).natAbs : Int)) :
    s.tickFrame f arrival =
      let u := (s.erred f arrival).updStn (fun x => x.stepped (reduceC (s.stn.corr + s.frameErr f arrival) s.T) (s.frameUp f arrival)
        (s.frameNum f arrival + s.frameOff f arrival))
      if s.stn.aligned = true then u.raise0 0x141 s.stn.id else u := by
  have hnot : ¬(s.frameOff f arrival = 0 ∧ 4 * ((s.frameErr f arrival).natAbs : Int) ≤ (s.T : Int)) := by
    rintro ⟨h0, hle⟩
    rcases hfar with h | h
    · exact h h0
    · exact absurd hle (not_le.2 h)
  unfold State.tickFrame
  rw [if_neg (by simp [hok, ht, hin, hopen, hrun])]
  dsimp only
  rw [if_neg (by simp [hid]), hp]
  dsimp only
  rw [if_neg (by simp [hlen, hph]), if_neg (by simp [hon, hal])]
  exact if_neg hnot

end
end

/-! ### Frames passed on -/

theorem State.frameDiscard_bad {s : State} {f : Word} (hin : s.peerIn = true) (h : frameOk f = false) :
    s.frameDiscard f = (s.updStn (fun x => { x with crcErrs := min 65535 (x.crcErrs + 1) })).raise0 0x144 s.stn.id := by
  unfold State.frameDiscard
  rw [if_neg (by simp [h, hin])]

theorem State.linkBroken_in {s : State} (hin : s.peerIn = true) :
    s.linkBroken = ((s.updStn (fun x => { x with broken := true })).raise0 0x140 s.stn.id).lineHoldover :=
  if_neg (not_of_true hin)

theorem State.relay_room {s : State} {f : Word} (hmode : s.mode ≠ .safe) (hhops : fHops f < 15) (hroom : s.stn.relay.length < 16) :
    s.relay f = s.updStn (fun x => { x with relay := x.relay ++ [hopped f] }) := by
  unfold State.relay
  rw [if_neg (by simp [hmode, Nat.not_le.2 hhops, Nat.not_le.2 hroom])]

theorem State.notifyRelay_other {s : State} {f : Word} (hin : s.peerIn = true) (hok : frameOk f = true) (ht : fType f = 3)
    (hdest : fDest f ≠ s.stn.id) : s.notifyRelay f = s.relay f := by
  unfold State.notifyRelay
  rw [if_neg (by simp [hok, ht, hin, hdest])]

theorem State.eventRelay_other {s : State} {f : Word} (hin : s.peerIn = true) (hok : frameOk f = true) (ht : fType f = 4)
    (horg : fOrigin f ≠ s.stn.id) : s.eventRelay f = s.relay f :=
  if_pos ⟨hok, ht, hin, horg⟩

theorem State.peerEvent_sampled {s : State} {f : Word} (hok : frameOk f = true) (ht : fType f = 4) (horg : fOrigin f ≠ s.stn.id)
    (hopen : s.peerOpen = true) (hdsp : s.isOn domDSP = true) :
    s.peerEvent f = (s.waitEvents 1 (fld f 16 8) (fOrigin f)).eventRelay f := by
  have hin : s.eventIn f = some (fld f 16 8, fOrigin f) := if_pos ⟨hok, ht, hopen, horg, hdsp⟩
  unfold State.peerEvent
  rw [hin]

theorem State.peerEvent_unsampled {s : State} {f : Word} (h : s.peerOpen = false ∨ s.isOn domDSP = false) :
    s.peerEvent f = s.eventRelay f := by
  have hin : s.eventIn f = none := if_neg (by rcases h with h | h <;> simp [h])
  unfold State.peerEvent
  rw [hin]

/-! ### Line events -/

/-- Settles O57: each frame and timer of the Line, by what it finds. -/
theorem lineEvents : Obligations.LineEvents := by
  intro s f hheld hpeer
  have hin : (bare s).peerIn = true := hpeer
  dsimp only
  refine ⟨fun hok ht => ⟨fun horg hopen => ?other, fun horg hnonce hopen => ?duplicate⟩, fun n p hp => ?lapse,
    fun arrival hok ht hopen hrun => ⟨fun hid => ?zero, fun p hid hp hlen hph => ⟨fun h => ?unusable, fun hon hal hoff hsmall => ?slew,
      fun hon hal hfar => ?step⟩⟩,
    ?broken, fun hbad => ?discard, fun hmode hhops hroom hok => ⟨fun ht hdest => ?notify, fun ht horg hopen hdsp => ?sampled,
      fun ht horg hclosed => ?passed⟩⟩
  case other =>
    show s.act (fun s => s.presence f) = _
    rw [State.act_of_free hheld, State.presence_other (s := bare s) hin hok ht horg hopen]
    rfl
  case duplicate =>
    show s.act (fun s => s.presence f) = _
    rw [State.act_of_free hheld, State.presence_duplicate (s := bare s) hin hok ht horg hnonce hopen]
    rfl
  case lapse =>
    show s.act (fun s => s.presenceExpiry n.val) = _
    rw [State.act_of_free hheld, State.presenceExpiry_seen (s := bare s) hp rfl]
  case zero =>
    show s.act (fun s => s.tickFrame f arrival) = _
    rw [State.act_of_free hheld, State.tickFrame_zero (s := bare s) hin hok ht hopen hrun hid]
    rfl
  case unusable =>
    show s.act (fun s => s.tickFrame f arrival) = _
    rw [State.act_of_free hheld, State.tickFrame_unusable (s := bare s) hin hok ht hopen hrun hid hp hlen hph h]
    rfl
  case slew =>
    show s.act (fun s => s.tickFrame f arrival) = _
    rw [State.act_of_free hheld, State.tickFrame_slew (s := bare s) hin hok ht hopen hrun hid hp hlen hph hon hal hoff hsmall rfl rfl]
    rfl
  case step =>
    show s.act (fun s => s.tickFrame f arrival) = _
    rw [State.act_of_free hheld, State.tickFrame_step (s := bare s) hin hok ht hopen hrun hid hp hlen hph hon hal hfar]
    rfl
  case broken =>
    show s.act (fun s => s.linkBroken) = _
    rw [State.act_of_free hheld, State.linkBroken_in (s := bare s) hin]
    rfl
  case discard =>
    show s.act (fun s => s.frameDiscard f) = _
    rw [State.act_of_free hheld, State.frameDiscard_bad (s := bare s) hin hbad]
    rfl
  case notify =>
    show s.act (fun s => s.notifyRelay f) = _
    rw [State.act_of_free hheld, State.notifyRelay_other (s := bare s) hin hok ht hdest,
      State.relay_room (s := bare s) hmode hhops hroom]
    rfl
  case sampled =>
    show s.run (fun s => s.peerEvent f) = _
    rw [State.run_of_free hheld, State.peerEvent_sampled (s := bare s) hok ht horg hopen hdsp]
  case passed =>
    show s.run (fun s => s.peerEvent f) = _
    rw [State.run_of_free hheld, State.peerEvent_unsampled (s := bare s) hclosed, State.eventRelay_other (s := bare s) hin hok ht horg,
      State.relay_room (s := bare s) hmode hhops hroom]
    rfl

end Sys2Proof.Machine
end

section
/-! PROOFS. Forwarded entries (R364 to R367): doorbells, the time limit, quarantine. -/

namespace Sys2Proof.Machine

open Sys2Proof.Safety

/-- Two folds whose steps agree wherever an invariant of both holds. -/
theorem foldl_congr_of_inv {α β : Type} {f g : β → α → β} {P : β → Prop} (hstep : ∀ b a, P b → P (g b a))
    (heq : ∀ b a, P b → f b a = g b a) (l : List α) {b : β} (hb : P b) : l.foldl f b = l.foldl g b := by
  induction l generalizing b with
  | nil => rfl
  | cons a l ih => rw [List.foldl_cons, List.foldl_cons, heq b a hb]; exact ih (hstep b a hb)

/-! ### Doorbells -/

/-- The two lines of a forward slot are read. -/
def State.slotRead (u : State) (base o slot : Nat) : State :=
  (u.updStn (fun x => { x with ins := x.ins ++ [{ o := o, slot := slot }] })).ctl (0xC200 + o) true
    [{ line := (base + slot * 128) / 64, key := 0 }, { line := (base + slot * 128) / 64 + 1, key := 1 }] ⟨.fwdRd, o, slot⟩ none false

/-- The same, unless the slot is being read already. -/
def State.slotAsk (u : State) (base o slot : Nat) : State :=
  if u.stn.ins.any (fun x => x.o == o && x.slot == slot) = true then u else u.slotRead base o slot

theorem State.slotAsk_cfg (u : State) (base o slot : Nat) : (u.slotAsk base o slot).cfg = u.cfg := by
  unfold State.slotAsk
  split <;> rfl

theorem State.fwdq_congr {s u : State} (h : u.cfg = s.cfg) : u.fwdq = s.fwdq := by
  unfold State.fwdq State.reg
  rw [h]

theorem State.retq_congr {s u : State} (h : u.cfg = s.cfg) : u.retq = s.retq := by
  unfold State.retq State.reg
  rw [h]

theorem State.forwardDoorbell_in {s : State} {f : Word} (h : s.notifyIn f 1 = true) :
    s.forwardDoorbell f = (List.range (fld f 28 4 + 1)).foldl (fun u i =>
      u.slotAsk (fld s.fwdq 12 40 * 4096 + fOrigin f * 2 ^ fld s.fwdq 0 4 * 128) (fOrigin f)
        ((fld f 20 8 + i) % 2 ^ fld s.fwdq 0 4)) (s.fwdQueue (fOrigin f)) := by
  unfold State.forwardDoorbell
  dsimp only
  rw [if_neg (not_of_true h)]
  refine foldl_congr_of_inv (P := fun u => u.cfg = s.cfg) (fun u i hu => (State.slotAsk_cfg _ _ _ _).trans hu) (fun u i hu => ?_) _ rfl
  rw [State.fwdq_congr hu]
  rfl

/-- The record of an entry that waits for its return is read. -/
def State.recordAsk (u : State) (fwd : List FwdOut) (base w slot : Nat) : State :=
  ((fwd.find? (fun o => o.w == w && o.slot == slot)).map (fun o =>
    u.ctl o.q true [{ line := (base + w * 8192 + slot * 32) / 64, key := slot }] ⟨.retRd, w, o.seq⟩ none false)).getD u

theorem State.recordAsk_frame (u : State) (fwd : List FwdOut) (base w slot : Nat) :
    (u.recordAsk fwd base w slot).cfg = u.cfg ∧ (u.recordAsk fwd base w slot).stn = u.stn := by
  unfold State.recordAsk
  cases fwd.find? (fun o => o.w == w && o.slot == slot) <;> exact ⟨rfl, rfl⟩

theorem State.returnDoorbell_in {s : State} {f : Word} (h : s.notifyIn f 2 = true) :
    s.returnDoorbell f = (List.range (fld f 28 4 + 1)).foldl (fun u i =>
      u.recordAsk s.stn.fwd (fld s.retq 12 40 * 4096) (fOrigin f) ((fld f 20 8 + i) % 256)) s := by
  unfold State.returnDoorbell
  dsimp only
  rw [if_neg (not_of_true h)]
  refine foldl_congr_of_inv (P := fun u => u.cfg = s.cfg ∧ u.stn = s.stn) (fun u i hu => ?_) (fun u i hu => ?_) _ ⟨rfl, rfl⟩
  · obtain ⟨hcfg, hstn⟩ := State.recordAsk_frame u s.stn.fwd (fld s.retq 12 40 * 4096) (fOrigin f) ((fld f 20 8 + i) % 256)
    exact ⟨hcfg.trans hu.1, hstn.trans hu.2⟩
  · obtain ⟨hcfg, hstn⟩ := hu
    rw [hstn, State.retq_congr hcfg, State.recordAsk]
    cases s.stn.fwd.find? (fun o => o.w == fOrigin f && o.slot == (fld f 20 8 + i) % 256) <;> rfl

/-! ### The time limit -/

theorem State.fwdTimeLimit_over {s : State} {w seq t at_ : Nat} {o : FwdOut} (ho : s.fwdOut w seq = some o) (hi : o.issued = some t)
    (hq : o.quar = none) (hat : at_ = t + s.tlimit) :
    s.fwdTimeLimit w seq =
      (((s.reach at_).updFwd w seq (fun o => { o with quar := some (s.reach at_).clk })).raise0 0x143 o.q).fwdFail o.q o.uid true := by
  unfold State.fwdTimeLimit
  rw [ho]
  dsimp only
  rw [hi]
  dsimp only
  rw [if_neg (by simp [hq]), hat]

theorem State.fwdQuarEnd_over {s : State} {w seq t at_ : Nat} {o : FwdOut} (ho : s.fwdOut w seq = some o) (hq : o.quar = some t)
    (hat : at_ = t + s.tlimit) :
    s.fwdQuarEnd w seq =
      (s.reach at_).updStn (fun x => { x with fwd := x.fwd.filter (fun y => !(y.w == w && y.seq == seq)) }) := by
  unfold State.fwdQuarEnd
  rw [ho]
  dsimp only
  rw [hq, hat]

/-- Settles O58: the doorbells read what they name, and an entry without its return fails at the time limit. -/
theorem forwardEvents : Obligations.ForwardEvents := by
  intro s f hlive
  dsimp only
  refine ⟨fun hin => ?forward, fun hin => ?back, fun w seq o t ho => ⟨fun hi hq => ?late, fun hq => ?free⟩⟩
  case forward =>
    show s.live (fun s => s.forwardDoorbell f) = _
    rw [State.live_of_live hlive, State.forwardDoorbell_in (s := bare s) hin]
    rfl
  case back =>
    show s.live (fun s => s.returnDoorbell f) = _
    rw [State.live_of_live hlive, State.returnDoorbell_in (s := bare s) hin]
    rfl
  case late =>
    show s.live (fun s => s.fwdTimeLimit w.val seq.toNat) = _
    rw [State.live_of_live hlive, State.fwdTimeLimit_over (s := bare s) ho hi hq rfl]
    rfl
  case free =>
    show s.act (fun s => s.fwdQuarEnd w.val seq.toNat) = _
    rw [State.act_of_free hlive.1, State.fwdQuarEnd_over (s := bare s) ho hq rfl]
    rfl

end Sys2Proof.Machine
end

section
/-! PROOFS. Power (R398, R417 to R419): answers of the power controller, off requests raised again, idle units. -/

namespace Sys2Proof.Machine

open Sys2Proof.Safety

/-! ### Answers -/

/-- A domain is on from now: its Mover or quadrant is idle since then. -/
def Pwr.sinceNow (p : Pwr) (k now : Nat) : Pwr :=
  { p with mvSince := if k < 64 then Tbl.put k now p.mvSince else p.mvSince,
           rqSince := if 72 ≤ k ∧ k < 76 then Tbl.put (k - 72) now p.rqSince else p.rqSince }

/-- A denial is counted. -/
def Pwr.denied (p : Pwr) (k : Nat) : Pwr := { p with lastDeny := k, denies := min (2 ^ 32 - 1) (p.denies + 1) }

theorem State.ackAndPorts_of_ne {s : State} {k : Nat} (h : k ≠ domQM) (kept : Bool) : s.ackAndPorts k kept = s.powerAck k kept :=
  if_neg (fun hk => h hk.1)

section
variable {s : State} {k t : Nat} (hw : Tbl.get k s.pwr.wait = some t)
include hw

theorem State.powerAck_on (hreq : maskHas s.pwr.req k = true) :
    s.powerAck k false = (State.domReset { s with pwr := { s.pwr.sinceNow k s.clk with
      wait := Tbl.del k s.pwr.wait, up := maskSet s.pwr.up k, ret := maskClr s.pwr.ret k } } k).transRun := by
  unfold State.powerAck
  dsimp only
  rw [hw]
  dsimp only
  rw [if_pos hreq, if_neg Bool.false_ne_true]
  rfl

theorem State.powerAck_off (hreq : maskHas s.pwr.req k = false) {kept : Bool} (hkept : maskHas s.pwr.retReq k = kept) :
    s.powerAck k kept = State.transRun { s with pwr := { s.pwr with
      wait := Tbl.del k s.pwr.wait, ret := if kept = true then maskSet s.pwr.ret k else s.pwr.ret } } := by
  unfold State.powerAck
  dsimp only
  rw [hw]
  dsimp only
  rw [if_neg (ne_true_of_eq_false hreq), if_pos hkept]

theorem State.powerDeny_on (hreq : maskHas s.pwr.req k = true) :
    s.powerDeny k = State.domFail { s with pwr := s.pwr.denied k } k := by
  unfold State.powerDeny
  rw [hw]
  dsimp only
  rw [if_pos hreq]
  rfl

theorem State.powerDeny_off (hreq : maskHas s.pwr.req k = false) :
    s.powerDeny k = { s with pwr := { (s.pwr.denied k).sinceNow k s.clk with
      wait := Tbl.del k s.pwr.wait, req := maskSet s.pwr.req k, up := maskSet s.pwr.up k, retReq := maskClr s.pwr.retReq k,
      again := maskSet s.pwr.again k } } := by
  unfold State.powerDeny
  rw [hw]
  dsimp only
  rw [if_neg (ne_true_of_eq_false hreq)]
  rfl

theorem State.powerTimeout_over {at_ : Nat} (hat : at_ = t + s.pwr.tmo * 1000000) :
    s.powerTimeout k = if maskHas s.pwr.req k = true then (s.reach at_).domFail k else (s.reach at_).transRun := by
  unfold State.powerTimeout
  rw [hw, hat]
  rfl

end

/-! ### Off requests raised again -/

/-- A domain is wanted off by its mode or by parking. -/
def State.modeWantsOff (u : State) (d : Nat) : Prop :=
  (u.pwr.trans.map (·.target)) = some 0 ∨ u.mode = .coldInit ∨
    (u.pwr.parked ≠ 0 ∧ ¬(72 ≤ d ∧ d < 76) ∧ ¬(u.pwr.parked = 1 ∧ 64 ≤ d ∧ d < 72)) ∨
    (72 ≤ d ∧ d < 76 ∧ (u.mode = .configure ∨ u.mode = .quiesce))

/-- A domain is that of a fenced attachment or bank. -/
def State.fencedDom (u : State) (d : Nat) : Prop :=
  (64 ≤ d ∧ d < 72 ∧ u.xaFenced (d - 64) = true) ∨ (76 ≤ d ∧ d < 84 ∧ u.sbx.fbank.testBit (d - 76) = true)

theorem State.offWanted_iff (u : State) (d : Nat) : u.offWanted d = true ↔ maskHas u.pwr.again d = true ∧ u.modeWantsOff d := by
  unfold State.offWanted State.modeWantsOff
  simp only [Bool.and_eq_true, Bool.or_eq_true, beq_iff_eq, bne_iff_ne, decide_eq_true_eq, Bool.not_eq_true', ← Bool.not_eq_true,
    or_assoc, and_assoc, ne_eq]

theorem State.fencedDom_iff (u : State) (d : Nat) :
    ((decide (64 ≤ d) && decide (d < 72) && u.xaFenced (d - 64)) ||
      (decide (76 ≤ d) && decide (d < 84) && u.sbx.fbank.testBit (d - 76))) = true ↔ u.fencedDom d := by
  simp only [Bool.and_eq_true, Bool.or_eq_true, decide_eq_true_eq, and_assoc, State.fencedDom]

theorem State.retryWanted_iff (u : State) (d : Nat) :
    (u.offWanted d = true ∨ (maskHas u.pwr.again d = true ∧ u.mode = .degraded ∧
      ((decide (64 ≤ d) && decide (d < 72) && u.xaFenced (d - 64)) ||
        (decide (76 ≤ d) && decide (d < 84) && u.sbx.fbank.testBit (d - 76))) = true)) ↔
      maskHas u.pwr.again d = true ∧ (u.modeWantsOff d ∨ (u.mode = .degraded ∧ u.fencedDom d)) := by
  rw [State.offWanted_iff, State.fencedDom_iff, and_or_left]

/-! ### Idle units -/

theorem State.moverIdle_beyond {s : State} {m at_ : Nat} (hm : m < 64) (hgates : s.gates_ = true) (hon : s.isOn (domMv m) = true)
    (hfen : s.mvFenced m = false) (hload : s.moverLoad m = 0) (hwant : s.offWanted (domMv m) = false)
    (hat : at_ = Tbl.getD m s.clk s.pwr.mvSince + s.pwr.mvIdle * 1000000)
    (hmin : s.pwr.mvMin < ((List.range 64).filter (fun k => !s.mvFenced k && s.isOn (domMv k))).length)
    (habove : ∀ n ∈ (List.range 64).filter (fun k => !s.mvFenced k && s.isOn (domMv k)), s.moverLoad n = 0 → m < n →
      (s.reach at_).clk < Tbl.getD n s.clk s.pwr.mvSince + s.pwr.mvIdle * 1000000) :
    s.moverIdle m = (s.reach at_).askOff (domMv m) false := by
  have hidle : m ∈ ((List.range 64).filter (fun k => !s.mvFenced k && s.isOn (domMv k))).filter (fun k => s.moverLoad k == 0) := by
    simp [hm, hfen, hon, hload]
  have hnone : (((List.range 64).filter (fun k => !s.mvFenced k && s.isOn (domMv k))).filter (fun k => s.moverLoad k == 0)).filter
      (fun k => decide (m < k) && decide (Tbl.getD k s.clk s.pwr.mvSince + usPs s.pwr.mvIdle ≤ (s.reach at_).clk)) = [] := by
    refine List.filter_eq_nil_iff.2 (fun n hn => ?_)
    obtain ⟨hmem, hzero⟩ := List.mem_filter.1 hn
    intro hboth
    obtain ⟨hlt, hle⟩ := Bool.and_eq_true_iff.1 hboth
    exact absurd (of_decide_eq_true hle) (not_le.2 (habove n hmem (eq_of_beq hzero) (of_decide_eq_true hlt)))
  unfold State.moverIdle
  dsimp only
  rw [if_neg (by simp [hwant, hfen]), show usPs s.pwr.mvIdle = s.pwr.mvIdle * 1000000 from rfl, ← hat]
  rw [show usPs s.pwr.mvIdle = s.pwr.mvIdle * 1000000 from rfl] at hnone
  refine if_pos ?_
  rw [hnone, List.contains_iff_mem.2 hidle, hgates, decide_eq_true hmin]
  rfl

theorem State.quadIdle_free {s : State} {q at_ : Nat} (hmode : s.mode = .run ∨ s.mode = .degraded) (hwant : s.offWanted (domRq q) = false)
    (hon : s.isOn (domRq q) = true) (hfen : s.rqFenced q = false) (hfree : (Tbl.vals s.works).all (fun w => w.quad != some q) = true)
    (hat : at_ = Tbl.getD q s.clk s.pwr.rqSince + s.pwr.rqIdle * 1000000) :
    s.quadIdle q = (s.reach at_).askOff (domRq q) false := by
  unfold State.quadIdle
  dsimp only
  rw [if_neg (by simp [hwant, hfen]), show usPs s.pwr.rqIdle = s.pwr.rqIdle * 1000000 from rfl, ← hat]
  refine if_pos ?_
  rw [hon, hfen, hfree]
  rcases hmode with h | h <;> rw [h] <;> rfl

/-! ### Power events -/

/-- Settles O59: each answer of the power controller, and each idle unit that goes off. -/
theorem powerEvents : Obligations.PowerEvents := by
  intro s d kept t hheld
  dsimp only
  refine ⟨fun hw => ⟨fun hreq hqm => ?on, fun hreq hqm hkept => ?off, fun hreq => ?onDenied, fun hreq => ?offDenied, ?late⟩, ?retry,
    fun m hgates hon hfen hload hwant hmin habove => ?mover, fun q hmode hwant hon hfen hfree => ?quadrant⟩
  case on =>
    show s.run (fun s => s.ackAndPorts d.val false) = _
    rw [State.run_of_free hheld, State.ackAndPorts_of_ne hqm, State.powerAck_on (s := bare s) hw hreq]
    rfl
  case off =>
    show s.run (fun s => s.ackAndPorts d.val kept) = _
    rw [State.run_of_free hheld, State.ackAndPorts_of_ne hqm, State.powerAck_off (s := bare s) hw hreq hkept]
    rfl
  case onDenied =>
    show s.run (fun s => s.powerDeny d.val) = _
    rw [State.run_of_free hheld, State.powerDeny_on (s := bare s) hw hreq]
    rfl
  case offDenied =>
    show s.run (fun s => s.powerDeny d.val) = _
    rw [State.run_of_free hheld, State.powerDeny_off (s := bare s) hw hreq]
    rfl
  case late =>
    show s.run (fun s => s.powerTimeout d.val) = _
    rw [State.run_of_free hheld, State.powerTimeout_over (s := bare s) hw rfl]
    rfl
  case retry =>
    show s.run (fun s => s.offRetries) = _
    rw [State.run_of_free hheld]
    refine congrArg (ran s) (congrArg (fun g => (List.range 98).foldl g (bare s)) (funext fun u => funext fun k => ?_))
    unfold State.offRetry
    refine if_congr ?_ rfl rfl
    rw [and_congr_left' (State.retryWanted_iff u k), and_assoc]
    refine and_congr_right' (and_congr ?_ (or_congr_left (and_congr_right' ?_)))
    · simp only [State.modeWantsOff, State.fencedDom, or_assoc]
    · rw [Bool.not_eq_true', decide_eq_false_iff_not]
  case mover =>
    show s.act (fun s => s.moverIdle m.val) = _
    rw [State.act_of_free hheld, State.moverIdle_beyond (s := bare s) m.isLt hgates hon hfen hload hwant rfl hmin habove]
    rfl
  case quadrant =>
    show s.act (fun s => s.quadIdle q.val) = _
    rw [State.act_of_free hheld, State.quadIdle_free (s := bare s) hmode hwant hon hfen hfree rfl]
    rfl

end Sys2Proof.Machine
end

section
/-! PROOFS. Cold reset (R399, R423): with the time input invalid, the keeper forgets that it was ever valid. -/

namespace Sys2Proof.Machine

open Sys2Proof.Safety

/-- The keeper's record that time was ever valid outlives the end of a command. -/
theorem State.everValid_done (s t : State) : (s.done t).tt.everValid = t.tt.everValid := by
  obtain ⟨h, i, heq, -⟩ := samplingChangesOnlyMarks t
  unfold State.done
  rw [heq]

/-- Commands whose ends agree leave the same record. -/
theorem everValid_of_ended {s t u : State} (h : ended s t = ended s u) : t.tt.everValid = u.tt.everValid := by
  rw [ended, ended] at h
  have hever := congrArg (fun t => t.tt.everValid) (Host.Outcome.next.inj h)
  simpa only [State.everValid_done] using hever

/-- Under cold reset time was ever valid exactly where it is valid now. -/
theorem exec_coldReset (s : State) : exec .coldReset s = ended s (bare s).coldReset := rfl

theorem State.everValid_coldReset (s : State) : s.coldReset.tt.everValid = s.tt.timeValid := rfl

/-- A block in holdover: TIME_VALID is low and was high once. -/
def holdoverState : State := { State.reset with tt := { timeValid := false, everValid := true, holdover := true } }

/-- Refutes O60: cold reset in holdover takes the record that time was valid once from TIME_VALID, which is low. -/
theorem not_resetsAndStartUp : ¬ Obligations.ResetsAndStartUp := by
  intro h
  have hends := everValid_of_ended ((exec_coldReset holdoverState).symm.trans (h holdoverState).1)
  rw [State.everValid_coldReset] at hends
  exact absurd hends Bool.false_ne_true

end Sys2Proof.Machine
end
